-- ==== Sys2Proof/Word.lean ====
section
/-! DEFINITION. The words the spec counts in (bytes, uptime) and the two fixed collections it names: seven
cells and four counters. -/

namespace Sys2Proof

/-- One byte of a host frame or of a dock frame. -/
abbrev Byte := BitVec 8

/-- The uptime: milliseconds since the last reset, 32 bits, wrapping (R187, the terms table). -/
abbrev Uptime := BitVec 32

/-- Seven of a kind: the cells 1 to 7 from the negative end of the pack (00_scope, Cells). -/
structure Seven (α : Type) where
  c1 : α
  c2 : α
  c3 : α
  c4 : α
  c5 : α
  c6 : α
  c7 : α
  deriving DecidableEq, Repr

def Seven.replicate {α : Type} (a : α) : Seven α := ⟨a, a, a, a, a, a, a⟩

def Seven.toList {α : Type} (v : Seven α) : List α :=
  [v.c1, v.c2, v.c3, v.c4, v.c5, v.c6, v.c7]

def Seven.map {α β : Type} (f : α → β) (v : Seven α) : Seven β :=
  ⟨f v.c1, f v.c2, f v.c3, f v.c4, f v.c5, f v.c6, f v.c7⟩

def Seven.zipWith {α β γ : Type} (f : α → β → γ) (v : Seven α) (w : Seven β) : Seven γ :=
  ⟨f v.c1 w.c1, f v.c2 w.c2, f v.c3 w.c3, f v.c4 w.c4, f v.c5 w.c5, f v.c6 w.c6, f v.c7 w.c7⟩

/-- The numbers of the cells, each in its place. -/
def Seven.numbers : Seven Nat := ⟨1, 2, 3, 4, 5, 6, 7⟩

/-- Four of a kind, numbered 0 to 3: the intake counters (R158), the steps of a row of bands. -/
structure Four (α : Type) where
  n0 : α
  n1 : α
  n2 : α
  n3 : α
  deriving DecidableEq, Repr

def Four.replicate {α : Type} (a : α) : Four α := ⟨a, a, a, a⟩

/-- The element numbered `i`; the callers keep `i` within 0..3. -/
def Four.get {α : Type} (v : Four α) (i : Nat) : α :=
  match i with
  | 0 => v.n0
  | 1 => v.n1
  | 2 => v.n2
  | _ => v.n3

/-- `v` with the element numbered `i` replaced; the callers keep `i` within 0..3. -/
def Four.put {α : Type} (v : Four α) (i : Nat) (a : α) : Four α :=
  match i with
  | 0 => { v with n0 := a }
  | 1 => { v with n1 := a }
  | 2 => { v with n2 := a }
  | _ => { v with n3 := a }

def Four.map {α β : Type} (f : α → β) (v : Four α) : Four β :=
  ⟨f v.n0, f v.n1, f v.n2, f v.n3⟩

def Four.toList {α : Type} (v : Four α) : List α := [v.n0, v.n1, v.n2, v.n3]

end Sys2Proof
end

