-- ==== Sys2Proof/Syntax.lean ====
section
/-! DEFINITION. The commands of the block: one constructor of `Instr` for each row of spec/opcode_table.json, with
the operands the row's rule gives it. -/

namespace Sys2Proof

/-- A level of the trigger switch (R1). -/
inductive Level where
  | released
  | pressed
  deriving DecidableEq, Repr

/-- A phase of the motor (2.2). -/
inductive Phase where
  | u
  | v
  | w
  deriving DecidableEq, Repr

/-- Why a host frame is discarded (R175). -/
inductive DiscardReason where
  | gap
  | crc
  | length
  | kind
  | framing
  deriving DecidableEq, Repr

/-- What one scan of the Pack Monitor measures, before the saturations of R98: the seven cells in mV, the pack
shunt current in mA (discharge positive) and the three temperatures in whole °C. A WATCH scan measures the cells
alone; its other fields are not read. -/
structure ScanReading where
  cells : Seven Int
  current : Int
  tPack1 : Int
  tPack2 : Int
  tInv : Int
  deriving DecidableEq, Repr

/-- The commands. A request row is a well-formed host frame of that request, completed on the host line, with the
frame's tag and the payload fields of 12.6. Every other row is an event of the part, with what the part measures at
that event. -/
inductive Instr where
  -- requests of the Message Link
  | identify (tag : Byte)
  | status (tag : Byte)
  | getParam (tag id : Byte)
  | setParam (tag id : Byte) (value : BitVec 32)
  | setTriggerMode (tag : Byte) (value : BitVec 32)
  | setOpticalMode (tag : Byte) (value : BitVec 32)
  | setEmitterCurrent (tag : Byte) (value : BitVec 32)
  | setEmitterCarrier (tag : Byte) (value : BitVec 32)
  | setFullCapacity (tag : Byte) (value : BitVec 32)
  | setIdleSleepS (tag : Byte) (value : BitVec 32)
  | setReserve (tag : Byte) (value : BitVec 32)
  | noticeMask (tag : Byte) (enables : BitVec 16)
  | reset (tag : Byte)
  | sleep (tag : Byte)
  | ship (tag : Byte)
  -- requests of the suction side
  | runStart (tag : Byte)
  | runStop (tag : Byte)
  | stepSelect (tag step : Byte)
  | editBegin (tag label : Byte)
  | editSet (tag field : Byte) (value : BitVec 32)
  | editCommit (tag : Byte)
  | editAbort (tag : Byte)
  | profileRead (tag : Byte)
  | tripClear (tag : Byte)
  | faultRead (tag clearCounts : Byte)
  | bandMode (tag mode : Byte)
  | bandClear (tag : Byte)
  | bandRead (tag index : Byte)
  | bandWrite (tag index advance : Byte) (loadRef : BitVec 16) (flags : Byte)
  | dirtRead (tag : Byte)
  -- requests of the pack side
  | cellRead (tag : Byte)
  | cellResetMinmax (tag : Byte)
  | gaugeRead (tag : Byte)
  | gaugeAdjust (tag : Byte) (delta : BitVec 16)
  | chargeEnable (tag : Byte)
  | chargeDisable (tag : Byte)
  | chargePause (tag : Byte)
  | chargeResume (tag : Byte)
  | chargeClear (tag : Byte)
  | chargeRead (tag : Byte)
  | dockRead (tag : Byte)
  | counterSetup (tag k source : Byte) (threshold : BitVec 32) (options start : Byte)
  | counterRead (tag : Byte)
  | counterAdjust (tag k : Byte) (delta : BitVec 32)
  -- the host line
  | hostFrameReceived (kind tag : Byte) (payload : List Byte)
  | hostFrameDiscard (reason : DiscardReason)
  | hostFrameGap
  | linkWake (byte : Byte) (stopBit : Bool)
  | transmitEnd
  -- trigger and edit timer
  | triggerDebounce
  | editTimeout
  -- the motor: `t` in motor timebase ticks since the sector's commutation (driven states) or since the previous
  -- crossing (gates off), `d` the demagnetisation time of R26, `im` the mean shunt current of the revolution in mA
  | precheckEnd
  | alignEnd
  | rampTick
  | rampAccelTick
  | rampTimeout
  | restartWaitEnd
  | bemfCrossing (phase : Phase) (rising : Bool) (t d : Nat)
  | commutation (im : Int)
  | windowClose (im : Int)
  | catchLimitExpiry
  | rotorStopTimeout
  | coastTimeout
  | ocHw
  -- band table and blockage timers
  | bandClearComplete
  | blockTimerExpiry
  | retryTimerExpiry
  | clearTimerExpiry
  | noReferenceTimerExpiry
  | normalTimerExpiry
  -- the dirt window: the demodulated amplitude A before its saturation; of the rectified piezo signal, on the scale of
  -- detect_level, the level as the window began and the levels over the window, oldest first
  | dirtWindowEnd (amplitude level : Nat) (signal : List Nat)
  -- the scan
  | scanStart
  | scanEnd (reading : ScanReading)
  -- charge timers
  | prechargeTimeout
  | chargeTimeout
  | balanceTimeout
  -- the dock
  | dockContactRise
  | dockLoss
  | settleTimerExpiry
  | dockFrameSent
  | dockFrameReceived (bytes : List Byte)
  | dockFrameAbandon
  | dockReplyTimeout
  | keepTimerExpiry
  | dockRetryExpiry
  -- power
  | idleTimerExpiry
  | powerOn
  | brownout
  | shipWake
  -- the inputs themselves
  | triggerRawChange (level : Level)
  | contactVoltageFall
  | dockReceptionBegin
  | seventhCellMeasured
  | catchCrossingTimeout
  deriving DecidableEq, Repr

end Sys2Proof
end

