-- ==== Sys2Proof/Decode.lean ====
section
/-! DEFINITION. The command a table word spells. No row of spec/opcode_table.json carries bits (98_reader: no row has
fixed bits or fields), so no word spells a command. How the bytes of a host frame spell a request is R174 to R176,
modelled in Machine/HostLine.lean, and how those of a dock frame spell a reply is R146, in Machine/HostWire.lean. -/

namespace Sys2Proof

/-- No row gives bits: every word is refused. -/
def decodeTableWord (_nbits _w : Nat) : Option Instr := none

end Sys2Proof
end

