-- ==== Sys2Proof/Config.lean ====
section
/-! DEFINITION. The free values: what the spec leaves open while the part goes on. Each is an opaque constant, so
nothing can be proved of its value (assumption log 3, 4, 5, 6, 51 and 52). -/

namespace Sys2Proof

/-- DESIGN CHOICE (log 3): the speed when the periods it is to be computed from sum to 0 ticks. R25, R47 and R60
divide by that sum, and R47 rules the case out ("Each period is at least one tick"). -/
opaque Config.speedOfNoPeriod : Nat

/-- DESIGN CHOICE (log 4): the ticks from the beginning of the sector that the twelfth CATCH crossing names to that
crossing, as a function of Ts. R37 schedules the first driven commutation from the crossing and does not say how long
the sector has then lasted, which R26 appends as its period and R28 reads as the sector's t. -/
opaque Config.catchCrossingTime : Nat → Nat

/-- DESIGN CHOICE (log 4): the demagnetisation time R28 reads for that same sector, whose gates were off. -/
opaque Config.catchDemagnetisation : Nat → Nat

/-- DESIGN CHOICE (log 6): the number a START_FAIL's detail carries for a transition cause, by the cause's place in the
table of R23. R164 makes every detail one number, and no rule numbers the causes. -/
opaque Config.causeNumber : Nat → Int

/-- DESIGN CHOICE (log 5): the charge current a KEEP carries when no ON scan has ended since the reset. R151 gives it
from the last ON scan end, and every KEEP follows one. -/
opaque Config.unmeasuredCurrent : Int

/-- DESIGN CHOICE (log 5): the Vmax a KEEP carries in that same case. -/
opaque Config.unmeasuredVmax : Nat

/-- DESIGN CHOICE (log 51): the amplitude measured in a dirt window that ends at an uptime with no measures given for it
from outside. R76 ends the window at its length, and what it measured is the duct's. -/
opaque Config.windowAmplitude : Nat → Nat

/-- DESIGN CHOICE (log 51): the rectified level of the piezo signal as that window begins. -/
opaque Config.windowLevel : Nat → Nat

/-- DESIGN CHOICE (log 51): the rectified levels of the piezo signal over that window. -/
opaque Config.windowSignal : Nat → List Nat

/-- DESIGN CHOICE (log 52): the noise measure of a window, by its sequence number, none of whose signal lies outside
impacts. R89 takes a mean, and there is nothing to take it of. -/
opaque Config.noiseInsideImpacts : Nat → Nat

end Sys2Proof
end

