-- ==== Sys2Proof/Machine/State.lean ====
section
/-! DEFINITION. The state of the part: one structure per block of 00_scope's block table, the settings of every
parameter group, the input pins, and the queue of waiting commands. -/

namespace Sys2Proof.Machine

/-! ## Reasons to stop -/

/-- No command of this block stops the part: every one has an effect, or none in a state where its event cannot
arise. The type has no constructor, so no step faults. Safe. -/
inductive Fault where
  deriving DecidableEq, Repr

/-- Why a command has no meaning. -/
inductive Refusal where
  /-- A row of the opcode table that has no meaning yet. Raised by no arm of `exec` of this model. Safe. -/
  | notModelled (mnemonic : String)
  deriving DecidableEq, Repr

/-! ## Names the chapters give -/

/-- Trigger mode (1.1, R2). -/
inductive TriggerMode where
  | hold
  | toggle
  | hostOnly
  deriving DecidableEq, Repr

/-- The suction level selected (R9). -/
inductive Step where
  | eco
  | standard
  | max
  deriving DecidableEq, Repr

/-- The inhibits of run demand, in the order of R5 and R6. -/
inductive Inhibit where
  | docked
  | charging
  | packCutoff
  | tripped
  | asleep
  deriving DecidableEq, Repr

/-- Why the last edit was aborted (1.4). -/
inductive AbortCause where
  | none
  | host
  | trip
  | cutoff
  | timeout
  | sleep
  deriving DecidableEq, Repr

/-- The consistency checks of a profile (R11). -/
inductive ProfileCheck where
  | c1
  | c2
  | c3
  deriving DecidableEq, Repr

/-- Motor states (2.1), in the order of 12.7. -/
inductive MotorState where
  | off
  | precheck
  | align
  | ramp
  | handover
  | run
  | catching
  | coast
  | restartWait
  | tripped
  deriving DecidableEq, Repr

/-- Transition causes of the motor (R23). -/
inductive MotorCause where
  | demand
  | demandFall
  | atRest
  | spinning
  | catchable
  | aligned
  | locked
  | inStep
  | rampTimeout
  | rampOverspeed
  | handoverMiss
  | catchFail
  | syncLoss
  | slowed
  | coastTimeout
  | trip
  | tripClear
  deriving DecidableEq, Repr

/-- Table mode (R62). -/
inductive TableMode where
  | off
  | on
  | locked
  deriving DecidableEq, Repr

/-- Blockage states (4.5). -/
inductive BlockageState where
  | normal
  | suspect
  | blocked
  | retrying
  deriving DecidableEq, Repr

/-- Reasons of a BLOCKAGE notice (R72 to R74). -/
inductive BlockageReason where
  | detected
  | repeated
  | targetHeld
  | noReference
  | motorStopped
  deriving DecidableEq, Repr

/-- An event that is set or cleared: BLOCKAGE and SENSOR_BLOCKED notices (R72, R85). -/
inductive SetEvent where
  | set
  | cleared
  deriving DecidableEq, Repr

/-- Optical states (5.3). -/
inductive OpticalState where
  | idle
  | settle
  | track
  | killed
  | off
  deriving DecidableEq, Repr

/-- Optical modes (R87). -/
inductive OpticalMode where
  | auto
  | forceOn
  | forceOff
  deriving DecidableEq, Repr

/-- Reasons of a SENSOR_BLOCKED notice (R77, R85 to R87). -/
inductive SensorReason where
  | fouled
  | recovered
  | motorStopped
  | mode
  deriving DecidableEq, Repr

/-- Acoustic states (5.1). -/
inductive AcousticState where
  | idle
  | usable
  | noisy
  | disabled
  deriving DecidableEq, Repr

/-- Index states (R91). -/
inductive IndexState where
  | idle
  | both
  | optical
  | acoustic
  | fallback
  deriving DecidableEq, Repr

/-- Dirt levels (R92). -/
inductive DirtLevel where
  | clean
  | light
  | moderate
  | heavy
  deriving DecidableEq, Repr

/-- Causes of a DIRT_LEVEL notice (R93). -/
inductive DirtCause where
  | window
  | stopped
  deriving DecidableEq, Repr

/-- Scan intervals (R99). -/
inductive ScanInterval where
  | fast
  | slow
  | watch
  deriving DecidableEq, Repr

/-- Pack states (R108). -/
inductive PackState where
  | normal
  | derated
  | low
  | cutoff
  deriving DecidableEq, Repr

/-- Causes of a PACK_STATE notice (R108). -/
inductive PackCause where
  | cellUv
  | release
  | scan
  | none
  deriving DecidableEq, Repr

/-- What last set the gauge (7.1). -/
inductive GaugeEvent where
  | none
  | estimate
  | full
  | empty
  | adjust
  | capacity
  deriving DecidableEq, Repr

/-- Charge states (8.1), in the order of 12.7. -/
inductive ChargeState where
  | idle
  | qualify
  | precharge
  | cc
  | cv
  | balance
  | done
  | suspend
  | fault
  deriving DecidableEq, Repr

/-- Notice causes of the charge transitions (8.3). -/
inductive ChargeCause where
  | docked
  | enabled
  | qualified
  | suspended
  | voltage
  | tapered
  | balanced
  | balanceTimeout
  | recharge
  | resumed
  | cleared
  | fault
  | undocked
  | disabled
  deriving DecidableEq, Repr

/-- Dock states (9.1), in the order of 12.7. -/
inductive DockState where
  | absent
  | settling
  | greeting
  | negotiating
  | active
  | basic
  | lost
  deriving DecidableEq, Repr

/-- Causes of a DOCK_STATE notice (R144). -/
inductive DockCause where
  | contact
  | settled
  | offered
  | silent
  | granted
  | released
  | unanswered
  | retry
  | derate
  | stop
  | contactLost
  deriving DecidableEq, Repr

/-- Reasons of a RELEASE (R146, R155). -/
inductive ReleaseReason where
  | done
  | fault
  | disabled
  deriving DecidableEq, Repr

/-- Sources of an intake counter (10.1), coded 0..7 in this order. -/
inductive CounterSource where
  | runTime
  | boostTime
  | dirtSum
  | heavyWindows
  | blockages
  | trips
  | chargeIn
  | starts
  deriving DecidableEq, Repr

/-- States of an intake counter (10.1). -/
inductive CounterState where
  | waiting
  | counting
  | frozen
  deriving DecidableEq, Repr

/-- Fault kinds (R164), numbered 0..13 in this order. -/
inductive FaultKind where
  | ocHw
  | startFail
  | invHot
  | packHot
  | syncLoss
  | blockagePersist
  | sensorBlocked
  | linkErr
  | cellUv
  | cellOv
  | prechargeTimeout
  | chargeTimeout
  | stage
  | dockLost
  deriving DecidableEq, Repr

/-- Responses (R164), coded 0..5 in this order. -/
inductive Response where
  | ignore
  | notify
  | limit
  | restart
  | stop
  | chargeStop
  deriving DecidableEq, Repr

/-- The detail carried with a raise, held by the meaning R164 gives it for the kind; the one number it is in a message
is `Detail.number` (log 6). -/
inductive Detail where
  /-- The detail of the kinds whose detail is 0, and the reset value of the fault table. -/
  | zero
  | motor (m : MotorState)
  | cause (c : MotorCause)
  | celsius (t : Int)
  | rpm (n : Nat)
  | count (n : Nat)
  | milliamps (n : Nat)
  | reason (r : DiscardReason)
  | cell (i : Nat)
  deriving DecidableEq, Repr

/-- The way of a trip clear (R172). -/
inductive ClearWay where
  | host
  | release
  deriving DecidableEq, Repr

/-- Status codes (R176), coded 0..13 in this order. -/
inductive StatusCode where
  | ok
  | clamped
  | malformed
  | unknownKind
  | unknownId
  | badValue
  | wrongState
  | busy
  | docked
  | inhibited
  | editOpen
  | editClosed
  | inconsistent
  | overlap
  deriving DecidableEq, Repr

/-- Power states (13). -/
inductive PowerState where
  | on
  | sleep
  | ship
  deriving DecidableEq, Repr

/-- Reset causes (13). -/
inductive ResetCause where
  | powerOn
  | brownout
  | shipWake
  | hostReset
  deriving DecidableEq, Repr

/-- Wake causes (13). -/
inductive WakeCause where
  | none
  | trigger
  | dock
  | link
  deriving DecidableEq, Repr

/-- An entry awaiting the end of a reply (13). -/
inductive PendingEntry where
  | none
  | sleep
  | ship
  deriving DecidableEq, Repr

/-- The judgement of a gauge adjust or a counter adjust: which bound cut it (R122, R163). -/
inductive Saturation where
  | none
  | low
  | high
  deriving DecidableEq, Repr

/-! ## Trigger Input and Demand Resolver -/

/-- TRG (1.1): the raw switch input, and the four items of its state. -/
structure Trg where
  /-- The input pin. Not reset: it is outside the part. -/
  raw : Level
  /-- `none` while not yet established. -/
  debounced : Option Level
  /-- ms for which the raw level has differed, or has held while the level is not established; 0..10. -/
  timer : Nat
  rearm : Bool
  mode : TriggerMode
  deriving DecidableEq, Repr

/-- One step's four fields of the profile (R10). -/
structure StepSettings where
  speed : Nat
  limit : Nat
  boostEnable : Bool
  boostMax : Nat
  deriving DecidableEq, Repr

/-- The seventeen fields of a profile (R10). -/
structure Profile where
  eco : StepSettings
  standard : StepSettings
  max : StepSettings
  boostThreshold : Nat
  boostSlope : Nat
  upRate : Nat
  downRate : Nat
  blockedSpeed : Nat
  deriving DecidableEq, Repr

/-- The open edit: its working copy, its label and its timer (1.4). -/
structure Edit where
  profile : Profile
  label : Byte
  /-- ms since the last EDIT_BEGIN or EDIT_SET. -/
  timer : Nat
  deriving DecidableEq, Repr

/-- The last abort record (1.4). -/
structure AbortRecord where
  cause : AbortCause
  label : Byte
  deriving DecidableEq, Repr

/-- The cause set of the Suction Demand record (R18, R21). -/
structure CauseSet where
  stepLimit : Bool
  packAllowance : Bool
  inverterDerate : Bool
  blocked : Bool
  packLow : Bool
  clampMax : Bool
  deriving DecidableEq, Repr

/-- The Suction Demand record (R18). -/
structure DemandRecord where
  runDemand : Bool
  sReq : Nat
  boost : Nat
  iC : Nat
  causes : CauseSet
  deriving DecidableEq, Repr

/-- DRS: claims, active step, profile in force, edit, last abort record and the record. -/
structure Drs where
  triggerClaim : Bool
  hostClaim : Bool
  step : Step
  profile : Profile
  edit : Option Edit
  lastAbort : AbortRecord
  record : DemandRecord
  deriving DecidableEq, Repr

/-! ## Motor Drive and Speed Regulator -/

/-- MDR: the table at the head of chapter 2, and what its rules hold between events. -/
structure Mdr where
  state : MotorState
  startPending : Bool
  /-- Present sector, 0..5. -/
  sector : Nat
  /-- Sector period list in ticks, oldest first, at most six. -/
  periods : List Nat
  /-- Consecutive crossings seen, 0..12. -/
  crossings : Nat
  /-- Consecutive missed crossings in RUN, 0..6. -/
  misses : Nat
  rampAngle : BitVec 16
  rampInc : BitVec 16
  /-- Start attempt count, 0..3. -/
  attempts : Nat
  /-- Restart history: at most two uptimes, oldest first. -/
  restarts : List Uptime
  /-- Last T_INV, `none` while not yet measured. -/
  tInv : Option Int
  derate : Nat
  /-- Reported speed, rpm. -/
  speed : Nat
  /-- The sector whose pair the bridge drives, `none` with the gates off (2.1). -/
  gates : Option Nat
  /-- ms since entry to the present motor state (the 5 ms of R29, align_time, the 200 ms of R36, the coast timer). -/
  stateTimer : Nat
  /-- PRECHECK has passed its 5 ms and holds its decision for the first T_INV (R29). -/
  precheckHeld : Bool
  /-- The CATCH limit timer in ms, `none` while stopped (R37). -/
  catchLimit : Option Nat
  /-- Sector named by the previous crossing with the gates off, `none` where the next crossing starts the sequence. -/
  lastNamed : Option Nat
  /-- Interval of the last crossing in sequence, ticks (R25). -/
  lastInterval : Option Nat
  /-- 26,667 ticks have passed since the last crossing without another (R25). -/
  quiet : Bool
  /-- Ts: the period of the previous sector, ticks (R26). -/
  ts : Nat
  /-- blank_frac as it stood at the commutation that began the present sector: a write acts at the next commutation
  (R26, R44). -/
  blankFrac : Nat
  /-- The present sector's crossing has been seen in its window. -/
  seen : Bool
  /-- The present sector's window has closed. -/
  windowShut : Bool
  /-- The scheduled commutation, in ticks after the commutation that began the sector: the period it will append. -/
  schedule : Option Nat
  /-- HANDOVER crossings counted so far (R34). -/
  handoverCount : Nat
  /-- Commutations of the electrical revolution in progress (R28). -/
  revCount : Nat
  /-- Sum and number of the revolution's crossing-offset contributions (R28). -/
  offsetSum : Int
  offsetCount : Nat
  /-- Ramp ticks spent in the present ramp sector, and whether that sector is the first after RAMP entry (R31, R32). -/
  rampTicks : Nat
  rampFirst : Bool
  deriving DecidableEq, Repr

/-- A revolution sample (R57). -/
structure Sample where
  speed : Nat
  period : Nat
  im : Nat
  st : Nat
  onTarget : Bool
  offset : Int
  deriving DecidableEq, Repr

/-- SRG (3.1). -/
structure Srg where
  st : Nat
  acc : Nat
  duty : Nat
  heldHigh : Bool
  heldLow : Bool
  dc : Nat
  sample : Option Sample
  deriving DecidableEq, Repr

/-! ## Speed Band Table and Blockage Monitor -/

/-- A band entry (4.1). -/
structure Band where
  advance : Nat
  advValid : Bool
  loadRef : Option Nat
  loadValid : Bool
  samples : Nat
  steps : Nat
  deriving DecidableEq, Repr

/-- SBT (4.1). The sixteen entries are four rows of four: band b is element b % 4 of row b / 4. -/
structure Sbt where
  bands : Four (Four Band)
  mode : TableMode
  /-- The clear timer in ms, `none` with no clear in progress. -/
  clearTimer : Option Nat
  lastAdvance : Nat
  deriving DecidableEq, Repr

/-- The sample that last met the blockage condition: its band, its Im and the load_ref served for it (R72). -/
structure BlockageHit where
  band : Nat
  im : Nat
  loadRef : Nat
  deriving DecidableEq, Repr

/-- BLM (4.5). A timer is `none` while stopped. -/
structure Blm where
  state : BlockageState
  retries : Nat
  blockTimer : Option Nat
  retryTimer : Option Nat
  targetReached : Bool
  clearTimer : Option Nat
  noRefTimer : Option Nat
  normalTimer : Option Nat
  lastHit : Option BlockageHit
  deriving DecidableEq, Repr

/-! ## Dirt Sensing Engine -/

/-- The dirt window that is open: the window timer, its length, what it was begun with, and the speeds taken (R76,
R79, R89). -/
structure DirtWindow where
  timer : Nat
  length : Nat
  acousticOn : Bool
  detect : Nat
  speedSum : Nat
  speedCount : Nat
  deriving DecidableEq, Repr

/-- DSE (5.1). -/
structure Dse where
  /-- `none` while the windows are stopped. -/
  window : Option DirtWindow
  seq : BitVec 16
  optical : OpticalState
  settle : Nat
  rebase : Bool
  working : Nat
  /-- The carrier the emitter drives, taken at a window start (R88). -/
  carrier : Nat
  baseline : Nat
  kills : Nat
  recoveries : Nat
  acoustic : AcousticState
  lastA : Nat
  lastC : Nat
  lastN : Nat
  lastOpt : Nat
  lastAc : Nat
  lastSw : Nat
  d : Nat
  index : IndexState
  level : DirtLevel
  hold : Nat
  db : Nat
  deriving DecidableEq, Repr

/-! ## Pack Monitor, Charge Gauge and Charge Controller -/

/-- A cell record (6.3). -/
structure CellRecord where
  mv : Option Nat
  min : Option Nat
  max : Option Nat
  bleeding : Bool
  uvCount : Nat
  uv : Bool
  deepCount : Nat
  deep : Bool
  ovCount : Nat
  ov : Bool
  deriving DecidableEq, Repr

/-- A scan in progress: the kind it began as, its interval and motor state at the start, Δt to the previous ON scan,
and whether its cells are being measured (R98 to R100, R110). -/
structure Scan where
  watch : Bool
  fast : Bool
  motor : MotorState
  dt : Nat
  measuring : Bool
  deriving DecidableEq, Repr

/-- PKM (6.1). -/
structure Pkm where
  cells : Seven CellRecord
  current : Option Int
  tPack1 : Option Int
  tPack2 : Option Int
  tInv : Option Int
  packT : Option Int
  interval : ScanInterval
  lastStart : Option Uptime
  /-- Start of the previous ON scan since the last reset or wake, for Δt (R100). -/
  lastOnStart : Option Uptime
  scan : Option Scan
  /-- An ON scan has ended since the reset (R108). -/
  scanned : Bool
  state : PackState
  iSag : Nat
  thermal : Nat
  discharge : Nat
  chargeAllowance : Nat
  bleedSet : Seven Bool
  /-- The bleed switches that are closed (R98, R113). -/
  switches : Seven Bool
  deepPending : Bool
  deriving DecidableEq, Repr

/-- GGE (7.1). F is the pack parameter full_capacity. -/
structure Gge where
  q : Nat
  f : Nat
  estimatePending : Bool
  event : GaugeEvent
  eventAt : Uptime
  current : Option Int
  residue : Nat
  deriving DecidableEq, Repr

/-- The suspend causes (8.1). -/
structure SuspendSet where
  temp : Bool
  dock : Bool
  host : Bool
  deriving DecidableEq, Repr

/-- CHC (8.1). -/
structure Chc where
  state : ChargeState
  enabled : Bool
  pause : Bool
  iSet : Nat
  suspend : SuspendSet
  /-- `none` is the fault cause NONE. -/
  faultCause : Option FaultKind
  unbalanced : Bool
  safety : Nat
  precharge : Nat
  balance : Nat
  taper : Option Nat
  stageCount : Nat
  bleedSet : Seven Bool
  deriving DecidableEq, Repr

/-! ## Dock Link -/

/-- An OFFER as stored (9.1). -/
structure Offer where
  max : Nat
  adapter : Byte
  evacuator : Bool
  derateCapable : Bool
  deriving DecidableEq, Repr

/-- A message of the part to the dock (R146). A REQUEST keeps the wanted current it was computed from. -/
inductive DockMsg where
  | hello
  | request (u w : Nat)
  | keep (current : Int) (vmax : Nat) (state : ChargeState)
  | release (reason : ReleaseReason)
  deriving DecidableEq, Repr

/-- The exchange in progress (R147). -/
structure Exchange where
  msg : DockMsg
  seq : BitVec 4
  attempt : Nat
  /-- The attempt's frame is being sent: the current sink is switching. -/
  sending : Bool
  /-- ms since the end of the attempt's frame. -/
  wait : Nat
  /-- The 50 ms have passed with a reception in progress. -/
  expired : Bool
  deriving DecidableEq, Repr

/-- A REQUEST that has fallen due: its U and W, and whether it stands for a KEEP (R148, R151). -/
structure DueRequest where
  u : Nat
  w : Nat
  forKeep : Bool
  deriving DecidableEq, Repr

/-- DLK (9.1), with the contact voltage's side of the presence threshold. -/
structure Dlk where
  state : DockState
  /-- The input: the contact voltage stands above 18,000 mV. Not reset: it is outside the part. -/
  contact : Bool
  /-- ms for which the contact voltage has stayed below the threshold, while a loss is being judged (R143). -/
  lossTimer : Option Nat
  settle : Option Nat
  nextSeq : BitVec 4
  exchange : Option Exchange
  /-- A reception is in progress (R145). -/
  receiving : Bool
  offer : Option Offer
  grant : Option Nat
  released : Bool
  /-- U and W of the last request. -/
  lastRequest : Option (Nat × Nat)
  keep : Option Nat
  misses : Nat
  unanswered : Nat
  discarded : Nat
  evacuations : Nat
  retry : Option Nat
  /-- NEGOTIATING has sent its first message (R150). -/
  firstSent : Bool
  /-- The messages held due, at most one of each kind (R148). -/
  dueRelease : Option ReleaseReason
  dueRequest : Option DueRequest
  dueKeep : Bool
  deriving DecidableEq, Repr

/-! ## Intake Counters and Fault Manager -/

/-- The options of a counter (10.1). -/
structure CounterOptions where
  notify : Bool
  freezeOnReach : Bool
  clearOnEvacuation : Bool
  deriving DecidableEq, Repr

/-- A counter record (10.1). `start` is `none` for FREE and the counter waited on for AFTER. -/
structure Counter where
  source : CounterSource
  value : Nat
  threshold : Nat
  options : CounterOptions
  start : Option Nat
  state : CounterState
  reached : Bool
  residue : Nat
  deriving DecidableEq, Repr

/-- ICN (10.1): the records and the pending reach set. -/
structure Icn where
  counters : Four Counter
  pending : Four Bool
  deriving DecidableEq, Repr

/-- One element for each fault kind. -/
structure KindMap (α : Type) where
  ocHw : α
  startFail : α
  invHot : α
  packHot : α
  syncLoss : α
  blockagePersist : α
  sensorBlocked : α
  linkErr : α
  cellUv : α
  cellOv : α
  prechargeTimeout : α
  chargeTimeout : α
  stage : α
  dockLost : α
  deriving DecidableEq, Repr

def KindMap.replicate {α : Type} (a : α) : KindMap α := ⟨a, a, a, a, a, a, a, a, a, a, a, a, a, a⟩

/-- An entry of the fault table (11). -/
structure FaultEntry where
  count : Nat
  uptime : Uptime
  detail : Detail
  deriving DecidableEq, Repr

/-- The trip record (R168). -/
structure TripRecord where
  first : FaultKind
  detail : Detail
  uptime : Uptime
  motor : MotorState
  speed : Nat
  current : Nat
  vmin : Option Nat
  tInv : Option Int
  packT : Option Int
  later : KindMap Bool
  deriving DecidableEq, Repr

/-- FMG (11): the four configurable responses, the strict flag, the trip record and the fault table. -/
structure Fmg where
  syncLoss : Response
  blockagePersist : Response
  sensorBlocked : Response
  linkErr : Response
  /-- true is STRICT. -/
  strict : Bool
  trip : Option TripRecord
  table : KindMap FaultEntry
  deriving DecidableEq, Repr

/-! ## Notices -/

/-- TRIGGER payload (R5). -/
structure TriggerNotice where
  edge : Level
  mode : TriggerMode
  claim : Bool
  inhibited : Bool
  cause : Option Inhibit
  rearm : Bool
  deriving DecidableEq, Repr

/-- MOTOR_STATE payload (R23). -/
structure MotorNotice where
  new : MotorState
  old : MotorState
  cause : MotorCause
  speed : Nat
  attempts : Nat
  deriving DecidableEq, Repr

/-- The event of a TRIP notice with what it concerns (R169). A CLEARED event carries no detail of its own (DESIGN CHOICE,
log 6). -/
inductive TripEvent where
  | tripped (k : FaultKind) (d : Detail)
  | later (k : FaultKind) (d : Detail)
  | cleared (way : ClearWay)
  | fault (k : FaultKind) (d : Detail)
  deriving DecidableEq, Repr

/-- TRIP payload (R169). For CLEARED the record is the one just removed, with trip present clear. -/
structure TripNotice where
  event : TripEvent
  present : Bool
  record : Option TripRecord
  deriving DecidableEq, Repr

/-- DIRT_LEVEL payload (R93). -/
structure DirtNotice where
  new : DirtLevel
  old : DirtLevel
  cause : DirtCause
  d : Nat
  index : IndexState
  db : Nat
  deriving DecidableEq, Repr

/-- SENSOR_BLOCKED payload (R85). -/
structure SensorNotice where
  event : SetEvent
  reason : SensorReason
  working : Nat
  baseline : Nat
  amplitude : Nat
  deriving DecidableEq, Repr

/-- BLOCKAGE payload (R72). -/
structure BlockageNotice where
  event : SetEvent
  reason : BlockageReason
  retries : Nat
  hit : Option BlockageHit
  deriving DecidableEq, Repr

/-- PACK_STATE payload (R108). -/
structure PackNotice where
  /-- true for event CELL_OV, false for STATE. -/
  cellOv : Bool
  cause : PackCause
  cell : Nat
  new : PackState
  old : PackState
  vmin : Option Nat
  vmax : Option Nat
  packT : Option Int
  discharge : Nat
  soc : Nat
  deriving DecidableEq, Repr

/-- CHARGE_STATE payload (R140). -/
structure ChargeNotice where
  new : ChargeState
  old : ChargeState
  cause : ChargeCause
  suspend : SuspendSet
  faultCause : Option FaultKind
  unbalanced : Bool
  iSet : Nat
  measured : Option Int
  vmin : Option Nat
  vmax : Option Nat
  deriving DecidableEq, Repr

/-- DOCK_STATE payload (R144). -/
structure DockNotice where
  /-- true for event GRANT, false for STATE. -/
  grantEvent : Bool
  new : DockState
  old : DockState
  cause : DockCause
  offer : Option Offer
  grantMa : Nat
  released : Bool
  misses : Nat
  deriving DecidableEq, Repr

/-- A notice: its kind with its payload (R179). -/
inductive Notice where
  | restarted (cause : ResetCause)
  | trigger (p : TriggerNotice)
  | motorState (p : MotorNotice)
  | trip (p : TripNotice)
  | dirtLevel (p : DirtNotice)
  | sensorBlocked (p : SensorNotice)
  | blockage (p : BlockageNotice)
  | packState (p : PackNotice)
  | chargeState (p : ChargeNotice)
  | dockState (p : DockNotice)
  | counterReached (set : Four Bool) (uptime : Uptime)
  | profileAborted (label : Byte) (cause : AbortCause)
  | tableCleared (mode : TableMode)
  | evacuated (count : Nat) (uptime : Uptime)
  deriving DecidableEq, Repr

/-- An entry of the notice queue (R179). -/
structure NoticeEntry where
  notice : Notice
  repeats : Nat
  uptime : Uptime
  deriving DecidableEq, Repr

/-! ## Replies -/

/-- The STATUS values (R182, 12.7). -/
structure StatusReport where
  power : PowerState
  motor : MotorState
  speed : Nat
  sReq : Nat
  boost : Nat
  iC : Nat
  causes : CauseSet
  step : Step
  triggerClaim : Bool
  hostClaim : Bool
  runDemand : Bool
  rearm : Bool
  charge : ChargeState
  dock : DockState
  pack : PackState
  soc : Nat
  level : DirtLevel
  index : IndexState
  blockage : BlockageState
  tripPresent : Bool
  editOpen : Bool
  linkErr : Bool
  dropped : Bool
  resetCause : ResetCause
  wakeCause : WakeCause
  deriving DecidableEq, Repr

/-- DIRT_READ values (R96). -/
structure DirtReport where
  seq : BitVec 16
  a : Nat
  c : Nat
  n : Nat
  sw : Nat
  opt : Nat
  ac : Nat
  baseline : Nat
  working : Nat
  optical : OpticalState
  mode : OpticalMode
  settle : Nat
  kills : Nat
  recoveries : Nat
  acoustic : AcousticState
  d : Nat
  index : IndexState
  level : DirtLevel
  hold : Nat
  db : Nat
  deriving DecidableEq, Repr

/-- CELL_READ values (R101). -/
structure CellReport where
  cells : Seven CellRecord
  vmin : Option Nat
  vmax : Option Nat
  spread : Option Nat
  current : Option Int
  tPack1 : Option Int
  tPack2 : Option Int
  tInv : Option Int
  packT : Option Int
  state : PackState
  thermal : Nat
  iSag : Nat
  discharge : Nat
  chargeAllowance : Nat
  interval : ScanInterval
  deriving DecidableEq, Repr

/-- GAUGE_READ values (R123). -/
structure GaugeReport where
  r : Nat
  soc : Nat
  f : Nat
  current : Option Int
  estimatePending : Bool
  event : GaugeEvent
  eventAt : Uptime
  deriving DecidableEq, Repr

/-- GAUGE_ADJUST values (R122). -/
structure GaugeAdjustReport where
  before : Nat
  delta : Int
  after : Nat
  soc : Nat
  saturation : Saturation
  deriving DecidableEq, Repr

/-- CHARGE_CONTROL values (R139). -/
structure ChargeControlReport where
  state : ChargeState
  enabled : Bool
  pause : Bool
  suspend : SuspendSet
  deriving DecidableEq, Repr

/-- CHARGE_READ values (R140). -/
structure ChargeReport where
  control : ChargeControlReport
  faultCause : Option FaultKind
  unbalanced : Bool
  iSet : Nat
  iTgt : Nat
  grantMa : Nat
  allowance : Nat
  measured : Option Int
  stageCount : Nat
  safety : Nat
  precharge : Nat
  balance : Nat
  taper : Option Nat
  bleedSet : Seven Bool
  deriving DecidableEq, Repr

/-- DOCK_READ values (R157). -/
structure DockReport where
  state : DockState
  offer : Option Offer
  grant : Option Nat
  grantMa : Nat
  released : Bool
  lastRequest : Option (Nat × Nat)
  exchange : Option (DockMsg × BitVec 4 × Nat)
  nextSeq : BitVec 4
  keep : Option Nat
  settle : Option Nat
  retry : Option Nat
  misses : Nat
  unanswered : Nat
  discarded : Nat
  evacuations : Nat
  deriving DecidableEq, Repr

/-- COUNTER_ADJUST values (R163). -/
structure CounterAdjustReport where
  old : Nat
  delta : Int
  new : Nat
  state : CounterState
  reached : Bool
  saturation : Saturation
  deriving DecidableEq, Repr

/-- FAULT_READ values (R173). -/
structure FaultReport where
  trip : Option TripRecord
  syncLoss : Response
  blockagePersist : Response
  sensorBlocked : Response
  linkErr : Response
  strict : Bool
  table : KindMap FaultEntry
  deriving DecidableEq, Repr

/-- What a reply carries after its status: the fields its owning rule lists, in that order. -/
inductive ReplyBody where
  | empty
  | identity (family : Byte) (part : BitVec 16) (revision level : Byte)
  | status (r : StatusReport)
  | param (id : Byte) (value : Int)
  | enables (e : BitVec 16)
  | claims (trigger host run : Bool)
  | cause (i : Inhibit)
  | step (s : Step) (sReq iC : Nat)
  | label (l : Byte)
  | field (id : Byte) (value : Nat)
  | aborted (r : AbortRecord)
  | failed (check : ProfileCheck) (label : Byte)
  | profile (p : Profile) (edit : Option Byte)
  | motor (m : MotorState)
  /-- TRIP_CLEAR refused for a temperature cause: INV_HOT or PACK_HOT, with T_INV and pack T (R172). -/
  | hot (kind : FaultKind) (tInv packT : Option Int)
  | trip (r : Option TripRecord)
  | faults (r : FaultReport)
  | tableMode (m : TableMode)
  | band (b : Band) (mode : TableMode) (clearing : Bool)
  | bandWritten (advance loadRef : Nat)
  | dirt (r : DirtReport)
  | cells (r : CellReport)
  | gauge (r : GaugeReport)
  | gaugeAdjust (r : GaugeAdjustReport)
  | chargeControl (r : ChargeControlReport)
  | charge (r : ChargeReport)
  | dock (r : DockReport)
  | counter (c : Counter)
  | counters (c : Four Counter) (pending : Four Bool)
  | counterAdjust (r : CounterAdjustReport)
  deriving DecidableEq, Repr

/-- A reply waiting or being sent (R174, R176). -/
structure Reply where
  kind : Byte
  tag : Byte
  status : StatusCode
  body : ReplyBody
  deriving DecidableEq, Repr

/-! ## Message Port and Sleep Controller -/

/-- Receiver states (12). -/
inductive RxState where
  | hunt
  | header
  | body
  deriving DecidableEq, Repr

/-- The frame in transmission (12). -/
inductive TxFrame where
  | reply (r : Reply)
  | notice (e : NoticeEntry)
  deriving DecidableEq, Repr

/-- MPT (12). -/
structure Mpt where
  rx : RxState
  /-- The bytes of the frame so far, after SYNC, oldest first. -/
  rxBytes : List Byte
  /-- ms since the last byte of the frame. -/
  rxGap : Nat
  /-- Kind and tag of the outstanding request. -/
  outstanding : Option (Byte × Byte)
  replies : List Reply
  notices : List NoticeEntry
  /-- Notice enables in the form of R180: bit n stands for kind 0x40 + n, bit 0 set. -/
  enables : BitVec 16
  linkErr : Bool
  dropped : Bool
  tx : Option TxFrame
  deriving DecidableEq, Repr

/-- SLC (13). -/
structure Slc where
  power : PowerState
  /-- Idle timer, ms. -/
  idle : Nat
  entry : PendingEntry
  resetCause : ResetCause
  wakeCause : WakeCause
  uptime : Uptime
  deriving DecidableEq, Repr

/-! ## Parameters -/

/-- The motor parameters (R44). -/
structure MotorPar where
  alignDuty : Nat
  alignTime : Nat
  rampDuty : Nat
  rampAccel : Nat
  handoverSpeed : Nat
  rampTimeLimit : Nat
  blankFrac : Nat
  fixedAdvance : Nat
  kp : Nat
  ki : Nat
  dcStep : Nat
  catchSpeed : Nat
  kvDuty : Nat
  coastTimeout : Nat
  ocLevel : Nat
  invDerateStart : Int
  invCut : Int
  deriving DecidableEq, Repr

/-- The blockage parameters (R75). -/
structure BlockPar where
  ratio : Nat
  blockTime : Nat
  retryTime : Nat
  maxRetries : Nat
  deriving DecidableEq, Repr

/-- The pack parameters (R114); full_capacity is F of the gauge. -/
structure PackPar where
  cellOv : Nat
  cellUv : Nat
  uvRelease : Nat
  deepUv : Nat
  debounce : Nat
  iMax : Nat
  reserve : Nat
  sagMv : Nat
  derateStart : Int
  cut : Int
  lowSoc : Nat
  deriving DecidableEq, Repr

/-- The charge parameters (R141). -/
structure ChargePar where
  current : Nat
  prechargeCurrent : Nat
  termCurrent : Nat
  cellCv : Nat
  prechargeMv : Nat
  rechargeMv : Nat
  balanceMv : Nat
  tLow : Int
  tHigh : Int
  prechargeTimeout : Nat
  chargeTimeout : Nat
  balanceTimeout : Nat
  deriving DecidableEq, Repr

/-- The dirt parameters (R95). -/
structure DirtPar where
  window : Nat
  carrier : Nat
  emitter : Nat
  agcTarget : Nat
  tcShift : Nat
  trackLimit : Nat
  killWindows : Nat
  mode : OpticalMode
  detectLevel : Nat
  noiseLimit : Nat
  sRef : Nat
  acScale : Nat
  weight : Nat
  fallback : Nat
  tLight : Nat
  tMod : Nat
  tHeavy : Nat
  levelHyst : Nat
  holdWindows : Nat
  boostDecay : Nat
  acousticEnable : Bool
  deriving DecidableEq, Repr

/-- The state of the part, and the commands that wait. -/
structure State where
  trg : Trg
  drs : Drs
  mdr : Mdr
  srg : Srg
  sbt : Sbt
  blm : Blm
  dse : Dse
  pkm : Pkm
  gge : Gge
  chc : Chc
  dlk : Dlk
  icn : Icn
  fmg : Fmg
  mpt : Mpt
  slc : Slc
  motorPar : MotorPar
  blockPar : BlockPar
  packPar : PackPar
  chargePar : ChargePar
  dirtPar : DirtPar
  /-- The system parameter idle_sleep_s (R181). -/
  idleSleepS : Nat
  /-- The commands waiting, first in, first out. -/
  pending : List Instr
  deriving DecidableEq, Repr

/-! ## One update for each field -/

def State.setTrg (s : State) (v : Trg) : State := { s with trg := v }
def State.setDrs (s : State) (v : Drs) : State := { s with drs := v }
def State.setMdr (s : State) (v : Mdr) : State := { s with mdr := v }
def State.setSrg (s : State) (v : Srg) : State := { s with srg := v }
def State.setSbt (s : State) (v : Sbt) : State := { s with sbt := v }
def State.setBlm (s : State) (v : Blm) : State := { s with blm := v }
def State.setDse (s : State) (v : Dse) : State := { s with dse := v }
def State.setPkm (s : State) (v : Pkm) : State := { s with pkm := v }
def State.setGge (s : State) (v : Gge) : State := { s with gge := v }
def State.setChc (s : State) (v : Chc) : State := { s with chc := v }
def State.setDlk (s : State) (v : Dlk) : State := { s with dlk := v }
def State.setIcn (s : State) (v : Icn) : State := { s with icn := v }
def State.setFmg (s : State) (v : Fmg) : State := { s with fmg := v }
def State.setMpt (s : State) (v : Mpt) : State := { s with mpt := v }
def State.setSlc (s : State) (v : Slc) : State := { s with slc := v }
def State.setMotorPar (s : State) (v : MotorPar) : State := { s with motorPar := v }
def State.setBlockPar (s : State) (v : BlockPar) : State := { s with blockPar := v }
def State.setPackPar (s : State) (v : PackPar) : State := { s with packPar := v }
def State.setChargePar (s : State) (v : ChargePar) : State := { s with chargePar := v }
def State.setDirtPar (s : State) (v : DirtPar) : State := { s with dirtPar := v }
def State.setIdleSleepS (s : State) (v : Nat) : State := { s with idleSleepS := v }
def State.setPending (s : State) (v : List Instr) : State := { s with pending := v }

/-! ## The machine right after reset -/

/-- A step's settings at their defaults (R10). -/
def StepSettings.reset (speed limit : Nat) (boost : Bool) : StepSettings :=
  { speed := speed, limit := limit, boostEnable := boost, boostMax := 20000 }

/-- The profile at its defaults (R10). -/
def Profile.reset : Profile :=
  { eco := StepSettings.reset 55000 12000 false
    standard := StepSettings.reset 80000 20000 true
    max := StepSettings.reset 110000 30000 false
    boostThreshold := 40, boostSlope := 150, upRate := 40, downRate := 80, blockedSpeed := 40000 }

def CauseSet.empty : CauseSet := ⟨false, false, false, false, false, false⟩

/-- The record with run demand false (R18). -/
def DemandRecord.idle : DemandRecord :=
  { runDemand := false, sReq := 0, boost := 0, iC := 0, causes := CauseSet.empty }

/-- TRG after a reset (1.1). -/
def Trg.reset : Trg :=
  { raw := .released, debounced := none, timer := 0, rearm := false, mode := .hold }

/-- DRS after a reset (R6, R7, R9, R10, 1.4, R18). -/
def Drs.reset : Drs :=
  { triggerClaim := false, hostClaim := false, step := .standard, profile := Profile.reset, edit := none
    lastAbort := ⟨.none, 0⟩, record := DemandRecord.idle }

/-- MDR after a reset (chapter 2, first table). -/
def Mdr.reset : Mdr :=
  { state := .off, startPending := false, sector := 0, periods := [], crossings := 0, misses := 0
    rampAngle := 0, rampInc := 0, attempts := 0, restarts := [], tInv := none, derate := 35000, speed := 0
    gates := none, stateTimer := 0, precheckHeld := false, catchLimit := none, lastNamed := none
    lastInterval := none, quiet := false, ts := 0, blankFrac := 64, seen := false, windowShut := false
    schedule := none, handoverCount := 0, revCount := 0, offsetSum := 0, offsetCount := 0, rampTicks := 0, rampFirst := false }

/-- SRG after a reset and at OFF (3.1, R45). -/
def Srg.reset : Srg :=
  { st := 0, acc := 0, duty := 0, heldHigh := false, heldLow := false, dc := 4095, sample := none }

/-- A cleared band entry (4.1). -/
def Band.cleared : Band :=
  { advance := 0, advValid := false, loadRef := none, loadValid := false, samples := 0, steps := 0 }

/-- SBT after a power-on reset (R61). -/
def Sbt.reset : Sbt :=
  { bands := Four.replicate (Four.replicate Band.cleared), mode := .off, clearTimer := none, lastAdvance := 16 }

/-- BLM after a reset (4.5). -/
def Blm.reset : Blm :=
  { state := .normal, retries := 0, blockTimer := none, retryTimer := none, targetReached := false
    clearTimer := none, noRefTimer := none, normalTimer := none, lastHit := none }

/-- DSE after a reset (5.1, R78). -/
def Dse.reset : Dse :=
  { window := none, seq := 0, optical := .idle, settle := 0, rebase := false, working := 20, carrier := 1
    baseline := 0, kills := 0, recoveries := 0, acoustic := .idle, lastA := 0, lastC := 0, lastN := 0
    lastOpt := 0, lastAc := 0, lastSw := 0, d := 0, index := .idle, level := .clean, hold := 0, db := 0 }

/-- A cell record after a reset (6.3). -/
def CellRecord.reset : CellRecord :=
  { mv := none, min := none, max := none, bleeding := false, uvCount := 0, uv := false, deepCount := 0
    deep := false, ovCount := 0, ov := false }

/-- PKM after a reset (6.1, R97). The interval is the one R99 gives for the motor OFF and the charge IDLE. -/
def Pkm.reset : Pkm :=
  { cells := Seven.replicate CellRecord.reset, current := none, tPack1 := none, tPack2 := none, tInv := none
    packT := none, interval := .slow, lastStart := none, lastOnStart := none, scan := none, scanned := false
    state := .normal, iSag := 30000, thermal := 30000, discharge := 30000, chargeAllowance := 0
    bleedSet := Seven.replicate false, switches := Seven.replicate false, deepPending := false }

/-- GGE after a power-on reset (R115). -/
def Gge.reset : Gge :=
  { q := 0, f := 2500, estimatePending := true, event := .none, eventAt := 0, current := none, residue := 0 }

/-- CHC after a reset (8.1, R125). -/
def Chc.reset : Chc :=
  { state := .idle, enabled := true, pause := false, iSet := 0, suspend := ⟨false, false, false⟩
    faultCause := none, unbalanced := false, safety := 0, precharge := 0, balance := 0, taper := none
    stageCount := 0, bleedSet := Seven.replicate false }

/-- DLK after a reset (9.1, R142). -/
def Dlk.reset : Dlk :=
  { state := .absent, contact := false, lossTimer := none, settle := none, nextSeq := 0, exchange := none
    receiving := false, offer := none, grant := none, released := false, lastRequest := none, keep := none
    misses := 0, unanswered := 0, discarded := 0, evacuations := 0, retry := none, firstSent := false
    dueRelease := none, dueRequest := none, dueKeep := false }

/-- A counter record after a power-on reset (R158). -/
def Counter.reset : Counter :=
  { source := .runTime, value := 0, threshold := 0, options := ⟨false, false, false⟩, start := none
    state := .counting, reached := false, residue := 0 }

/-- ICN after a power-on reset (R158). -/
def Icn.reset : Icn :=
  { counters := Four.replicate Counter.reset, pending := Four.replicate false }

/-- FMG after a reset (11). -/
def Fmg.reset : Fmg :=
  { syncLoss := .restart, blockagePersist := .stop, sensorBlocked := .notify, linkErr := .ignore
    strict := false, trip := none, table := KindMap.replicate ⟨0, 0, .zero⟩ }

/-- MPT after a reset of the given cause (12): the notice queue holds RESTARTED alone. -/
def Mpt.reset (cause : ResetCause) : Mpt :=
  { rx := .hunt, rxBytes := [], rxGap := 0, outstanding := none, replies := []
    notices := [{ notice := .restarted cause, repeats := 0, uptime := 0 }]
    enables := 0x3FFF#16, linkErr := false, dropped := false, tx := none }

/-- SLC after a reset of the given cause (13, R187). -/
def Slc.reset (cause : ResetCause) : Slc :=
  { power := .on, idle := 0, entry := .none, resetCause := cause, wakeCause := .none, uptime := 0 }

/-- The motor parameters at their defaults (R44). -/
def MotorPar.reset : MotorPar :=
  { alignDuty := 300, alignTime := 60, rampDuty := 600, rampAccel := 6, handoverSpeed := 18000
    rampTimeLimit := 1200, blankFrac := 64, fixedAdvance := 16, kp := 40, ki := 12, dcStep := 8
    catchSpeed := 15000, kvDuty := 30, coastTimeout := 8000, ocLevel := 50, invDerateStart := 90, invCut := 110 }

/-- The blockage parameters at their defaults (R75). -/
def BlockPar.reset : BlockPar :=
  { ratio := 160, blockTime := 300, retryTime := 3000, maxRetries := 3 }

/-- The pack parameters at their defaults (R114). -/
def PackPar.reset : PackPar :=
  { cellOv := 4250, cellUv := 2900, uvRelease := 3100, deepUv := 2500, debounce := 4, iMax := 30000
    reserve := 500, sagMv := 3200, derateStart := 50, cut := 65, lowSoc := 10 }

/-- The charge parameters at their defaults (R141). -/
def ChargePar.reset : ChargePar :=
  { current := 2000, prechargeCurrent := 200, termCurrent := 150, cellCv := 4200, prechargeMv := 3000
    rechargeMv := 4100, balanceMv := 15, tLow := 0, tHigh := 45, prechargeTimeout := 30
    chargeTimeout := 300, balanceTimeout := 60 }

/-- The dirt parameters at their defaults (R95). -/
def DirtPar.reset : DirtPar :=
  { window := 20, carrier := 1, emitter := 20, agcTarget := 2000, tcShift := 5, trackLimit := 8
    killWindows := 50, mode := .auto, detectLevel := 60, noiseLimit := 40, sRef := 80000, acScale := 48
    weight := 80, fallback := 32, tLight := 24, tMod := 64, tHeavy := 128, levelHyst := 8, holdWindows := 10
    boostDecay := 4, acousticEnable := true }

/-- The part right after the power-on reset of POWER_ON: every field at the value its chapter's table gives. The two
input pins and the queue are the model's (log 1, 2). -/
def State.reset : State :=
  { trg := Trg.reset, drs := Drs.reset, mdr := Mdr.reset, srg := Srg.reset, sbt := Sbt.reset, blm := Blm.reset
    dse := Dse.reset, pkm := Pkm.reset, gge := Gge.reset, chc := Chc.reset, dlk := Dlk.reset, icn := Icn.reset
    fmg := Fmg.reset, mpt := Mpt.reset .powerOn, slc := Slc.reset .powerOn, motorPar := MotorPar.reset
    blockPar := BlockPar.reset, packPar := PackPar.reset, chargePar := ChargePar.reset
    dirtPar := DirtPar.reset, idleSleepS := 300, pending := [] }

end Sys2Proof.Machine
end

