-- ==== Sys2Proof/Machine/Operands.lean ====
section
/-! DEFINITION. The ranges the spec holds every measured or written value to: clamping (00_scope, Arithmetic) and the
saturations of the measurements. -/

namespace Sys2Proof.Machine

/-- Clamping to a range: below it the lower bound, above it the upper bound (00_scope, Arithmetic). -/
def clampInt (lo hi v : Int) : Int := max lo (min hi v)

/-- `clampInt` for a quantity that is never negative. -/
def clampNat (lo hi : Nat) (v : Int) : Nat := (clampInt lo hi v).toNat

/-- A cell voltage, mV: saturates at 0 and 5,000 (R98). -/
def measuredMv (v : Int) : Nat := clampNat 0 5000 v

/-- The pack current, mA: saturates at -60,000 and 60,000 (R98). -/
def measuredMa (v : Int) : Int := clampInt (-60000) 60000 v

/-- A temperature, whole °C: clamped to -40..125 (R98). -/
def measuredCelsius (v : Int) : Int := clampInt (-40) 125 v

/-- The demodulated amplitude A: 0..4,095, saturating (R81). -/
def measuredAmplitude (v : Nat) : Nat := min v 4095

/-- The impact count C: 0..65,535, saturating (R89). -/
def measuredImpacts (v : Nat) : Nat := min v 65535

/-- The noise measure N: 0..255, saturating (R89). -/
def measuredNoise (v : Nat) : Nat := min v 255

/-- The mean inverter current Im, mA: a mean below 0 is taken as 0 (R49). -/
def measuredIm (v : Int) : Nat := v.toNat

/-- The ms from one uptime to a later one, modulo 2^32 (R39). -/
def since (now past : Uptime) : Nat := (now - past).toNat

/-- A timer that runs stands at or beyond a length. -/
def reached (n : Nat) (t : Option Nat) : Bool :=
  match t with
  | some v => decide (n ≤ v)
  | none => false

/-- A running timer one ms later, held at its bound; a stopped one stays stopped. -/
def tickTimer (bound : Nat) (t : Option Nat) : Option Nat := t.map fun n => min bound (n + 1)

end Sys2Proof.Machine
end

