-- ==== Sys2Proof/Machine/Ops.lean ====
section
/-! DEFINITION. The shared operations of the Message Port: raising a notice, queueing a reply, starting a
transmission (12.2, 12.3). -/

namespace Sys2Proof.Machine

/-- The uptime as it stands. -/
def State.now (s : State) : Uptime := s.slc.uptime

/-- The number n of a notice's kind, whose code is 0x40 + n (R179). -/
def Notice.index : Notice → Nat
  | .restarted _ => 0
  | .trigger _ => 1
  | .motorState _ => 2
  | .trip _ => 3
  | .dirtLevel _ => 4
  | .sensorBlocked _ => 5
  | .blockage _ => 6
  | .packState _ => 7
  | .chargeState _ => 8
  | .dockState _ => 9
  | .counterReached _ _ => 10
  | .profileAborted _ _ => 11
  | .tableCleared _ => 12
  | .evacuated _ _ => 13

/-- A raise into the queue: an entry pending of that kind keeps its place, takes the newer payload and uptime and one
more repeat, saturating at 255; with none pending an entry is appended (R179). -/
def enqueue (n : Notice) (now : Uptime) : List NoticeEntry → List NoticeEntry
  | [] => [{ notice := n, repeats := 0, uptime := now }]
  | e :: rest =>
    if e.notice.index = n.index then
      { notice := n, repeats := min 255 (e.repeats + 1), uptime := now } :: rest
    else e :: enqueue n now rest

/-- A notice kind is queued when its enable is set; RESTARTED (bit 0) always is (R179, R180). -/
def noticeEnabled (enables : BitVec 16) (index : Nat) : Bool :=
  decide (index = 0) || enables.getLsbD index

/-- ICN empties the pending reach set, told that COUNTER_REACHED was sent or not queued (R160, R179). -/
def clearPendingReach (s : State) : State :=
  s.setIcn { s.icn with pending := Four.replicate false }

/-- A block raises a notice (R179). A masked COUNTER_REACHED is reported to the Intake Counters as not queued. -/
def raise (n : Notice) (s : State) : State :=
  if noticeEnabled s.mpt.enables n.index then
    s.setMpt { s.mpt with notices := enqueue n s.now s.mpt.notices }
  else if n.index = 10 then clearPendingReach s
  else s

/-- The transmitter, when free and the part ON, starts the oldest reply, and otherwise the oldest notice (R178,
R184). A notice entry leaves the queue as its transmission begins, and a COUNTER_REACHED is then reported to the
Intake Counters as sent, at its first byte and not its last (DESIGN CHOICE, log 49; R160, R178). -/
def beginTransmission (s : State) : State :=
  if s.slc.power = .on ∧ s.mpt.tx = none then
    match s.mpt.replies, s.mpt.notices with
    | r :: _, _ => s.setMpt { s.mpt with tx := some (.reply r) }
    | [], e :: rest =>
      let t := s.setMpt { s.mpt with tx := some (.notice e), notices := rest }
      if e.notice.index = 10 then clearPendingReach t else t
    | [], [] => s
  else s

/-- A reply joins the tail of the reply queue (R176). -/
def queueReply (r : Reply) (s : State) : State :=
  s.setMpt { s.mpt with replies := s.mpt.replies ++ [r] }

/-- The lowest of the seven cell voltages, not yet measured before the first scan (R101). -/
def vmin (p : Pkm) : Option Nat := (p.cells.toList.filterMap (·.mv)).min?

/-- The highest of the seven cell voltages (R101). -/
def vmax (p : Pkm) : Option Nat := (p.cells.toList.filterMap (·.mv)).max?

/-- Vmax − Vmin (R101). -/
def spread (p : Pkm) : Option Nat := (vmax p).bind fun h => (vmin p).map fun l => h - l

/-- The measured charge current: the negative of the pack current of the last ON scan, and not yet measured before the
first has ended, as CHARGE_STATE and CHARGE_READ then report it (DEDUCED, log 44; R97, R127, R140). -/
def measuredCharge (p : Pkm) : Option Int := p.current.map fun i => -i

/-- A command in a part that is not in SHIP, where nothing but the dock contacts is watched (R186). The transmitter,
if free, takes up what the command left to send (R178). -/
def whilePowered (f : State → State) (s : State) : State :=
  if s.slc.power = .ship then s else beginTransmission (f s)

end Sys2Proof.Machine
end

