-- ==== Sys2Proof/Machine/CounterOps.lean ====
section
/-! DEFINITION. The Intake Counters: counting, reaching, clearing (chapter 10). -/

namespace Sys2Proof.Machine

/-- The largest value of a counter and of a threshold (10.1). -/
def counterMax : Nat := 4294967295

/-- The condition of a reach: COUNTING, reached clear, a threshold above 0 and a value at or above it (R160). -/
def reaches (c : Counter) : Bool :=
  decide (c.state = .counting) && !c.reached && decide (0 < c.threshold) && decide (c.threshold ≤ c.value)

/-- The counter numbered `i` replaced. -/
def putCounter (i : Nat) (c : Counter) (s : State) : State :=
  s.setIcn { s.icn with counters := s.icn.counters.put i c }

/-- Steps 1 and 2 of a reach: reached is set, and freeze_on_reach freezes (R160). -/
def reachedCounter (c : Counter) : Counter :=
  { c with reached := true, state := if c.options.freezeOnReach then .frozen else c.state }

/-- Step 3 of a reach: with notify, the index joins the pending reach set and the notice carries the whole set and
the uptime of this reach (R160). -/
def notifyReach (i : Nat) (s : State) : State :=
  if (s.icn.counters.get i).options.notify then
    let p := s.icn.pending.put i true
    raise (.counterReached p s.now) (s.setIcn { s.icn with pending := p })
  else s

/-- Counter `j`, if it waits on counter `i`, enters COUNTING and is judged at once by `judge` (R160, step 4). -/
def startWaiting (judge : Nat → State → State) (i j : Nat) (s : State) : State :=
  let c := s.icn.counters.get j
  if c.state = .waiting ∧ c.start = some i then
    let c' := { c with state := .counting }
    let t := putCounter j c' s
    if reaches c' then judge j t else t
  else s

/-- The reach of counter `i`, with step 4 for each counter in order. A counter leaves WAITING once, so four levels are
enough (R160). -/
def reach : Nat → Nat → State → State
  | 0, _, s => s
  | fuel + 1, i, s =>
    let t := notifyReach i (putCounter i (reachedCounter (s.icn.counters.get i)) s)
    startWaiting (reach fuel) i 3 (startWaiting (reach fuel) i 2
      (startWaiting (reach fuel) i 1 (startWaiting (reach fuel) i 0 t)))

/-- Counter `i` judged after an addition (R159, R160). -/
def judgeReach (i : Nat) (s : State) : State :=
  if reaches (s.icn.counters.get i) then reach 5 i s else s

/-- What an event of a source adds: an amount, or a sample's period in motor timebase ticks (R159). -/
inductive CountAmount where
  | units (n : Nat)
  | ticks (p : Nat)
  deriving DecidableEq, Repr

/-- One counter's addition of R159, saturating, and whether anything was added. 8,000 ticks are 1 ms. -/
def addToCounter (source : CounterSource) (a : CountAmount) (c : Counter) : Counter × Bool :=
  if c.state = .counting ∧ c.source = source then
    match a with
    | .units n => ({ c with value := min counterMax (c.value + n) }, true)
    | .ticks p =>
      let total := c.residue + p
      ({ c with residue := total % 8000, value := min counterMax (c.value + total / 8000) },
        decide (8000 ≤ total))
  else (c, false)

/-- One counter's addition for an event that several sources may count: its own source's amount, if that is among
them (R159). -/
def addEvent (amounts : List (CounterSource × CountAmount)) (c : Counter) : Counter × Bool :=
  match amounts.lookup c.source with
  | some a => addToCounter c.source a c
  | none => (c, false)

/-- One event, with what each source it concerns adds: every counter COUNTING one of them adds, then each that added is
judged. A counter that one of the reaches starts does not count this event (R159, R160). -/
def countEvents (amounts : List (CounterSource × CountAmount)) (s : State) : State :=
  let added := s.icn.counters.map (addEvent amounts)
  let t := s.setIcn { s.icn with counters := added.map Prod.fst }
  let judge (t : State) (i : Nat) : State := if (added.get i).2 then judgeReach i t else t
  judge (judge (judge (judge t 0) 1) 2) 3

/-- An event of one source (R159, R160). -/
def countEvent (source : CounterSource) (a : CountAmount) (s : State) : State := countEvents [(source, a)] s

/-- An evacuation's effect on one counter (R161). -/
def evacuatedCounter (c : Counter) : Counter :=
  if c.options.clearOnEvacuation then
    { c with value := 0, reached := false, residue := 0
             state := if c.state = .frozen then .counting else c.state }
  else c

/-- An evacuation delivered to the Intake Counters (R161). -/
def clearOnEvacuation (s : State) : State :=
  s.setIcn { s.icn with counters := s.icn.counters.map evacuatedCounter }

end Sys2Proof.Machine
end

