-- ==== Sys2Proof/Machine/DemandOps.lean ====
section
/-! DEFINITION. The Demand Resolver's shared operations: inhibits, the Suction Demand record, the claims' clearing of a
forced stop and the abort of an edit (R7, R8, R11, R16, R18 to R22). -/

namespace Sys2Proof.Machine

/-- The first inhibit present, in the order of R5 and R6. -/
def firstInhibit (s : State) : Option Inhibit :=
  if s.dlk.state ≠ .absent then some .docked
  else if s.chc.state ≠ .idle then some .charging
  else if s.pkm.state = .cutoff then some .packCutoff
  else if s.mdr.state = .tripped then some .tripped
  else if s.slc.power ≠ .on then some .asleep
  else none

/-- Run demand: at least one claim and no inhibit (R7). -/
def wantsToRun (s : State) : Bool :=
  (s.drs.triggerClaim || s.drs.hostClaim) && (firstInhibit s).isNone

/-- The settings of a step (R10). -/
def Profile.settings (p : Profile) : Step → StepSettings
  | .eco => p.eco
  | .standard => p.standard
  | .max => p.max

/-- The active step's settings in the profile in force. -/
def activeSettings (s : State) : StepSettings := s.drs.profile.settings s.drs.step

/-- Boost is allowed (R19). -/
def boostAllowed (s : State) : Bool :=
  (activeSettings s).boostEnable && decide (s.pkm.state ≠ .low) && decide (s.pkm.state ≠ .cutoff) &&
    decide (s.blm.state ≠ .blocked) && decide (s.blm.state ≠ .retrying)

/-- The boost (R19). -/
def boostOf (s : State) : Nat :=
  if boostAllowed s then
    min (activeSettings s).boostMax ((s.dse.db - s.drs.profile.boostThreshold) * s.drs.profile.boostSlope)
  else 0

/-- The speed before clamping (R19). -/
def wantedSpeed (s : State) : Nat :=
  if s.blm.state = .blocked then s.drs.profile.blockedSpeed else (activeSettings s).speed + boostOf s

/-- The pack allowance term: the discharge allowance less the reserve, floored at 0 (R20). -/
def allowanceTerm (s : State) : Nat := s.pkm.discharge - s.packPar.reserve

/-- The current ceiling: the least of the three currents (R20). -/
def ceilingOf (s : State) : Nat :=
  min (activeSettings s).limit (min (allowanceTerm s) s.mdr.derate)

/-- The cause set (R21). -/
def causesOf (s : State) : CauseSet :=
  { stepLimit := decide (ceilingOf s = (activeSettings s).limit)
    packAllowance := decide (ceilingOf s = allowanceTerm s)
    inverterDerate := decide (ceilingOf s = s.mdr.derate)
    blocked := decide (s.blm.state = .blocked)
    packLow := (activeSettings s).boostEnable && decide (s.pkm.state = .low)
    clampMax := decide (125000 < wantedSpeed s) }

/-- The record with run demand true (R18 to R21). -/
def runningRecord (s : State) : DemandRecord :=
  { runDemand := true, sReq := clampNat 20000 125000 (wantedSpeed s), boost := boostOf s, iC := ceilingOf s
    causes := causesOf s }

/-- An evaluation of the record with run demand as given (R18, R22). -/
def evaluateAs (runDemand : Bool) (s : State) : State :=
  s.setDrs { s.drs with record := if runDemand then runningRecord s else DemandRecord.idle }

/-- An evaluation of the record, run demand standing as it is (R22). -/
def evaluate (s : State) : State := evaluateAs s.drs.record.runDemand s

/-- The clearing of a forced stop: both claims, and the re-arm flag pending if the trigger is pressed (R8). -/
def clearClaims (s : State) : State :=
  let t := s.setDrs { s.drs with triggerClaim := false, hostClaim := false }
  t.setTrg { t.trg with rearm := t.trg.rearm || decide (t.trg.debounced = some .pressed) }

/-- An abort of the open edit by an event of the part (R16, R17); with none open nothing changes. -/
def abortEdit (cause : AbortCause) (s : State) : State :=
  match s.drs.edit with
  | none => s
  | some e =>
    raise (.profileAborted e.label cause)
      (s.setDrs { s.drs with edit := none, lastAbort := ⟨cause, e.label⟩ })

/-- The first consistency check a profile fails (R11). -/
def firstFailure (p : Profile) : Option ProfileCheck :=
  if ¬ (p.eco.speed ≤ p.standard.speed ∧ p.standard.speed ≤ p.max.speed) then some .c1
  else if ¬ (p.eco.limit ≤ p.standard.limit ∧ p.standard.limit ≤ p.max.limit) then some .c2
  else if ¬ (p.blockedSpeed ≤ p.eco.speed) then some .c3
  else none

end Sys2Proof.Machine
end

