-- ==== Sys2Proof/Machine/FaultOps.lean ====
section
/-! DEFINITION. The Fault Manager's table, later causes and NOTIFY response (R164 to R170). -/

namespace Sys2Proof.Machine

def KindMap.get {α : Type} (m : KindMap α) : FaultKind → α
  | .ocHw => m.ocHw
  | .startFail => m.startFail
  | .invHot => m.invHot
  | .packHot => m.packHot
  | .syncLoss => m.syncLoss
  | .blockagePersist => m.blockagePersist
  | .sensorBlocked => m.sensorBlocked
  | .linkErr => m.linkErr
  | .cellUv => m.cellUv
  | .cellOv => m.cellOv
  | .prechargeTimeout => m.prechargeTimeout
  | .chargeTimeout => m.chargeTimeout
  | .stage => m.stage
  | .dockLost => m.dockLost

def KindMap.put {α : Type} (m : KindMap α) (k : FaultKind) (a : α) : KindMap α :=
  match k with
  | .ocHw => { m with ocHw := a }
  | .startFail => { m with startFail := a }
  | .invHot => { m with invHot := a }
  | .packHot => { m with packHot := a }
  | .syncLoss => { m with syncLoss := a }
  | .blockagePersist => { m with blockagePersist := a }
  | .sensorBlocked => { m with sensorBlocked := a }
  | .linkErr => { m with linkErr := a }
  | .cellUv => { m with cellUv := a }
  | .cellOv => { m with cellOv := a }
  | .prechargeTimeout => { m with prechargeTimeout := a }
  | .chargeTimeout => { m with chargeTimeout := a }
  | .stage => { m with stage := a }
  | .dockLost => { m with dockLost := a }

def KindMap.map {α β : Type} (f : α → β) (m : KindMap α) : KindMap β :=
  { ocHw := f m.ocHw, startFail := f m.startFail, invHot := f m.invHot, packHot := f m.packHot
    syncLoss := f m.syncLoss, blockagePersist := f m.blockagePersist, sensorBlocked := f m.sensorBlocked
    linkErr := f m.linkErr, cellUv := f m.cellUv, cellOv := f m.cellOv
    prechargeTimeout := f m.prechargeTimeout, chargeTimeout := f m.chargeTimeout, stage := f m.stage
    dockLost := f m.dockLost }

/-- The response in force for a kind: fixed, or the parameter of R166 (R164). -/
def responseOf (f : Fmg) : FaultKind → Response
  | .ocHw => .stop
  | .startFail => .stop
  | .invHot => .stop
  | .packHot => .stop
  | .syncLoss => f.syncLoss
  | .blockagePersist => f.blockagePersist
  | .sensorBlocked => f.sensorBlocked
  | .linkErr => f.linkErr
  | .cellUv => .limit
  | .cellOv => .chargeStop
  | .prechargeTimeout => .chargeStop
  | .chargeTimeout => .chargeStop
  | .stage => .chargeStop
  | .dockLost => .notify

/-- The fault table takes a raise: count, saturating at 255, uptime and detail (R165). -/
def tableRaise (k : FaultKind) (d : Detail) (s : State) : State :=
  s.setFmg { s.fmg with
    table := s.fmg.table.put k
      { count := min 255 ((s.fmg.table.get k).count + 1), uptime := s.now, detail := d } }

/-- The TRIP notice, carrying the record as it stands (R169). -/
def raiseTripNotice (e : TripEvent) (s : State) : State :=
  raise (.trip { event := e, present := s.fmg.trip.isSome, record := s.fmg.trip }) s

/-- A raise while TRIPPED: the kind joins the later causes, with a TRIP notice of event LATER (R170). -/
def laterCause (k : FaultKind) (d : Detail) (s : State) : State :=
  raiseTripNotice (.later k d)
    (s.setFmg { s.fmg with trip := s.fmg.trip.map fun r => { r with later := r.later.put k true } })

/-- The first two parts of a raise: the fault table, then, with the motor TRIPPED and a response other than IGNORE,
the later cause (R165). -/
def noteRaise (k : FaultKind) (d : Detail) (s : State) : State :=
  let t := tableRaise k d s
  if t.mdr.state = .tripped ∧ responseOf t.fmg k ≠ .ignore then laterCause k d t else t

/-- A raise of BLOCKAGE_PERSIST, LINK_ERR or DOCK_LOST whose response is IGNORE or NOTIFY: under NOTIFY a TRIP notice
with event FAULT, except that with the motor TRIPPED the LATER notice is the report (R167, R170). -/
def raiseNotified (k : FaultKind) (d : Detail) (s : State) : State :=
  let t := noteRaise k d s
  if responseOf t.fmg k = .notify ∧ t.mdr.state ≠ .tripped then raiseTripNotice (.fault k d) t else t

/-- The SENSOR_BLOCKED notice of an event, queued or withheld by the response in force (R85, R165, R167). -/
def reportSensor (e : SetEvent) (r : SensorReason) (s : State) : State :=
  if s.fmg.sensorBlocked = .notify then
    raise (.sensorBlocked { event := e, reason := r, working := s.dse.working, baseline := s.dse.baseline,
                            amplitude := s.dse.lastA }) s
  else s

end Sys2Proof.Machine
end

