-- ==== Sys2Proof/Machine/DirtOps.lean ====
section
/-! DEFINITION. The Dirt Sensing Engine: the windows, the optical and acoustic channels, index, level and boost index
(chapter 5). -/

namespace Sys2Proof.Machine

/-! ### The optical channel -/

/-- The channel enters SETTLE: the settle and kill counts are 0 (R82, R85). -/
def enterSettle (d : Dse) : Dse := { d with optical := .settle, settle := 0, kills := 0 }

/-- The attenuation of A below B (R83). -/
def attenuation (b a : Nat) : Nat := if b = 0 then 255 else (b - a) * 255 / b

/-- The baseline after tracking (R83). -/
def trackedBaseline (p : DirtPar) (b a : Nat) : Nat :=
  if attenuation b a ≤ p.trackLimit then ((b : Int) + ((a : Int) - b).tdiv (2 ^ p.tcShift)).toNat else b

/-- The AGC's adjustment of the working current at a window end in TRACK; a step enters SETTLE with a re-baseline
pending (R84). -/
def agcStep (p : DirtPar) (d : Dse) : Dse :=
  if d.baseline < p.agcTarget * 7 / 8 ∧ d.working < 63 then
    enterSettle { d with working := d.working + 1, rebase := true }
  else if p.agcTarget * 9 / 8 < d.baseline ∧ 0 < d.working then
    enterSettle { d with working := d.working - 1, rebase := true }
  else d

/-- The kill condition (R85). -/
def killCondition (p : DirtPar) (d : Dse) : Bool :=
  decide (d.working = 63) && decide (d.baseline < p.agcTarget / 2)

/-- A window end in SETTLE: the fourth takes the baseline and enters TRACK (R82). -/
def settleEnd (a : Nat) (d : Dse) : Dse :=
  if 3 ≤ d.settle then
    { d with
      baseline := if d.baseline = 0 ∨ d.rebase then a else d.baseline
      settle := 4, rebase := false, kills := 0, recoveries := 0, optical := .track }
  else { d with settle := d.settle + 1 }

/-- A window end in TRACK up to the kill judgement: attenuation, tracking, AGC (R83, R84). -/
def trackEnd (p : DirtPar) (a : Nat) (d : Dse) : Dse :=
  agcStep p { d with lastOpt := attenuation d.baseline a, baseline := trackedBaseline p d.baseline a }

/-- SENSOR_BLOCKED raised into the Fault Manager as a SET event, with the working current as detail (R85, R164). -/
def raiseSensor (s : State) : State :=
  reportSensor .set .fouled (noteRaise .sensorBlocked (.milliamps s.dse.working) s)

/-- The kill judgement of a window end in TRACK, in optical_mode AUTO (R85). -/
def judgeKill (s : State) : State :=
  if s.dirtPar.mode ≠ .auto ∨ s.dse.optical = .settle then s
  else if killCondition s.dirtPar s.dse then
    let t := s.setDse { s.dse with kills := min 250 (s.dse.kills + 1) }
    if t.dirtPar.killWindows ≤ t.dse.kills then
      raiseSensor (t.setDse { t.dse with optical := .killed, recoveries := 0 })
    else t
  else s.setDse { s.dse with kills := 0 }

/-- A window end in KILLED: ten windows in a row at three quarters of the target recover the channel (R86). -/
def killedEnd (a : Nat) (s : State) : State :=
  if s.dirtPar.agcTarget * 3 / 4 ≤ a then
    if 9 ≤ s.dse.recoveries then
      reportSensor .cleared .recovered (s.setDse { s.dse with
        baseline := a, working := 63, kills := 0, recoveries := 0, optical := .track })
    else s.setDse { s.dse with recoveries := s.dse.recoveries + 1 }
  else s.setDse { s.dse with recoveries := 0 }

/-- Step 1 of a window end: the optical channel, and whether it was usable for this window (R80 to R86). -/
def opticalEnd (amplitude : Nat) (s : State) : State × Bool :=
  let a := measuredAmplitude amplitude
  let t := s.setDse { s.dse with lastA := a }
  match s.dse.optical with
  | .settle => (t.setDse (settleEnd a t.dse), false)
  | .track => (judgeKill (t.setDse (trackEnd t.dirtPar a t.dse)), true)
  | .killed => (killedEnd a t, false)
  | .idle => (s, false)
  | .off => (s, false)

/-! ### The acoustic channel, index, level, boost index -/

/-- Cn: the count normalised to the reference speed (R90). -/
def normalisedCount (p : DirtPar) (c sw : Nat) : Nat := c * p.sRef / max sw 20000

/-- The acoustic dirt value (R90). -/
def acousticValue (p : DirtPar) (c sw : Nat) : Nat := min 255 (normalisedCount p c sw * p.acScale / 16)

/-- The impacts of a signal that comes from a level: each rise above detect_level from at or below it (R89). -/
def impacts (detect level : Nat) : List Nat → Nat
  | [] => 0
  | v :: rest => (if level ≤ detect ∧ detect < v then 1 else 0) + impacts detect v rest

/-- The levels of a signal outside impacts: those at or below detect_level, an impact lasting as long as the signal
stands above it (DESIGN CHOICE, log 52; R89). -/
def outsideImpacts (detect : Nat) (signal : List Nat) : List Nat := signal.filter fun v => decide (v ≤ detect)

/-- C: the impacts of a window, by the detect_level it began with (R89). -/
def impactCount (w : DirtWindow) (level : Nat) (signal : List Nat) : Nat :=
  measuredImpacts (impacts w.detect level signal)

/-- N: the mean level outside impacts, truncated; a free value where the whole signal is impacts (log 52, R89). -/
def noiseMeasure (seq : Nat) (w : DirtWindow) (signal : List Nat) : Nat :=
  let calm := outsideImpacts w.detect signal
  measuredNoise (if calm = [] then Config.noiseInsideImpacts seq else calm.sum / calm.length)

/-- Step 2 of a window end: the acoustic channel, measured as its window began, and whether it was usable (R89,
R90). -/
def acousticEnd (w : DirtWindow) (level : Nat) (signal : List Nat) (p : DirtPar) (d : Dse) : Dse × Bool :=
  if w.acousticOn then
    let c := impactCount w level signal
    let n := noiseMeasure d.seq.toNat w signal
    if p.noiseLimit < n then ({ d with lastC := c, lastN := n, acoustic := .noisy }, false)
    else ({ d with lastC := c, lastN := n, acoustic := .usable, lastAc := acousticValue p c d.lastSw }, true)
  else ({ d with acoustic := .disabled }, false)

/-- Step 3 of a window end: D and the index state (R91). -/
def indexEnd (p : DirtPar) (optical acoustic : Bool) (d : Dse) : Dse :=
  match optical, acoustic with
  | true, true =>
    { d with d := (p.weight * d.lastOpt + (128 - p.weight) * d.lastAc) / 128, index := .both }
  | true, false => { d with d := d.lastOpt, index := .optical }
  | false, true => { d with d := d.lastAc, index := .acoustic }
  | false, false => { d with d := p.fallback, index := .fallback }

/-- The highest level whose threshold D reaches (R92). -/
def reachedLevel (p : DirtPar) (d : Nat) : DirtLevel :=
  if p.tHeavy ≤ d then .heavy else if p.tMod ≤ d then .moderate else if p.tLight ≤ d then .light else .clean

/-- The levels in their order. -/
def DirtLevel.rank : DirtLevel → Nat
  | .clean => 0
  | .light => 1
  | .moderate => 2
  | .heavy => 3

/-- The threshold of a level; CLEAN has none (R92). -/
def DirtLevel.threshold (p : DirtPar) : DirtLevel → Nat
  | .clean => 0
  | .light => p.tLight
  | .moderate => p.tMod
  | .heavy => p.tHeavy

/-- One step down (R92). -/
def DirtLevel.below : DirtLevel → DirtLevel
  | .heavy => .moderate
  | .moderate => .light
  | .light => .clean
  | .clean => .clean

/-- The level and the hold count after step 4 of a window end (R92). -/
def movedLevel (p : DirtPar) (d : Nat) (level : DirtLevel) (hold : Nat) : DirtLevel × Nat :=
  if level.rank < (reachedLevel p d).rank then (reachedLevel p d, 0)
  else if level = .clean then (.clean, 0)
  else if d + p.levelHyst < level.threshold p then
    if p.holdWindows ≤ hold + 1 then (level.below, 0) else (level, hold + 1)
  else (level, 0)

/-- A DIRT_LEVEL notice (R93). -/
def raiseDirtNotice (old : DirtLevel) (cause : DirtCause) (s : State) : State :=
  raise (.dirtLevel { new := s.dse.level, old := old, cause := cause, d := s.dse.d, index := s.dse.index
                      db := s.dse.db }) s

/-- The boost index after a window end (R94). -/
def movedBoost (decay d db : Nat) : Nat := max d (db - decay)

/-- Steps 4 and 5 of a window end: the level with its hold count, and the boost index (R92, R94). -/
def levelAndBoost (p : DirtPar) (d : Dse) : Dse :=
  let m := movedLevel p d.d d.level d.hold
  { d with level := m.1, hold := m.2, db := movedBoost p.boostDecay d.d d.db }

/-- A window end's report of the level: a change from `old` raises DIRT_LEVEL in the place of step 4 in the notice queue.
The Db it carries is the one after step 5 (DESIGN CHOICE, log 53; R80, R92, R93). -/
def reportLevel (old : DirtLevel) (s : State) : State :=
  if s.dse.level = old then s else raiseDirtNotice old .window s

/-! ### Windows -/

/-- A window as it begins, with the parameters as they stand; the emitter takes its carrier (R76, R88, R89). -/
def beginWindow (s : State) : State :=
  s.setDse { s.dse with
    carrier := s.dirtPar.carrier
    window := some { timer := 0, length := s.dirtPar.window, acousticOn := s.dirtPar.acousticEnable
                     detect := s.dirtPar.detectLevel, speedSum := 0, speedCount := 0 } }

/-- The window has lasted the `window` ms it began with (R76). -/
def windowOver (w : DirtWindow) : Bool := decide (w.length ≤ w.timer)

/-- Sw: the mean speed of the window's samples, or the reported speed where there is none (R79). -/
def windowSpeed (w : DirtWindow) (reported : Nat) : Nat :=
  if w.speedCount = 0 then reported else w.speedSum / w.speedCount

/-- The five steps of a window end, and the report of a change of level (R80). -/
def windowSteps (w : DirtWindow) (amplitude level : Nat) (signal : List Nat) (s : State) : State :=
  let s0 := s.setDse { s.dse with seq := s.dse.seq + 1, lastSw := windowSpeed w s.mdr.speed }
  let o := opticalEnd amplitude s0
  let ac := acousticEnd w level signal o.1.dirtPar o.1.dse
  let s2 := o.1.setDse (indexEnd o.1.dirtPar o.2 ac.2 ac.1)
  reportLevel s2.dse.level (s2.setDse (levelAndBoost s2.dirtPar s2.dse))

/-- A dirt window's end: the five steps, Db to DRS, D and the level to the Intake Counters as one event, and the next
window (R76, R80, R159, R160). -/
def dirtWindowEnd (w : DirtWindow) (amplitude level : Nat) (signal : List Nat) (s : State) : State :=
  let t := evaluate (windowSteps w amplitude level signal s)
  beginWindow (countEvents ((.dirtSum, .units t.dse.d) ::
    (if t.dse.level = .heavy then [(.heavyWindows, .units 1)] else [])) t)

/-- A revolution sample delivered to the engine: its speed joins the open window (R79). -/
def dirtSample (speed : Nat) (s : State) : State :=
  match s.dse.window with
  | some w => s.setDse { s.dse with
      window := some { w with speedSum := w.speedSum + speed, speedCount := w.speedCount + 1 } }
  | none => s

/-- The entry to RUN delivered to the engine (R76, R82). -/
def dirtEnterRun (s : State) : State :=
  beginWindow (if s.dse.optical = .off then s else s.setDse (enterSettle s.dse))

/-- What leaving RUN leaves of the engine (R77). -/
def stoppedDse (d : Dse) : Dse :=
  { d with
    window := none, d := 0, index := .idle, hold := 0, db := 0, level := .clean, settle := 0, kills := 0
    recoveries := 0, rebase := false
    optical := if d.optical = .off then .off else .idle
    acoustic := if d.acoustic = .disabled then .disabled else .idle }

/-- The leaving of RUN delivered to the engine, with its reports, and the boost index 0 handed to DRS (R77). -/
def dirtLeaveRun (s : State) : State :=
  let old := s.dse
  let t := evaluate (s.setDse (stoppedDse s.dse))
  let u := if old.level = .clean then t else raiseDirtNotice old.level .stopped t
  if old.optical = .killed then reportSensor .cleared .motorStopped u else u

/-! ### Writes (R87, R88) -/

/-- A change of optical_mode acting at once on the channel. Of the counts on leaving KILLED, which R87 does not name,
FORCE_ON sets the recovery count to 0 at once, and FORCE_OFF the settle, kill and recovery counts (DESIGN CHOICE, log
27; R82, R85, R87). -/
def writeOpticalMode (m : OpticalMode) (s : State) : State :=
  if m = s.dirtPar.mode then s
  else
    let t := s.setDirtPar { s.dirtPar with mode := m }
    match t.dse.optical, m with
    | .killed, .forceOff =>
      reportSensor .cleared .mode
        (t.setDse { t.dse with optical := .off, settle := 0, kills := 0, recoveries := 0 })
    | _, .forceOff => t.setDse { t.dse with optical := .off, settle := 0, kills := 0, recoveries := 0 }
    | .killed, _ => reportSensor .cleared .mode (t.setDse (enterSettle { t.dse with rebase := true, recoveries := 0 }))
    | .off, _ =>
      if t.dse.window.isSome then t.setDse (enterSettle t.dse)
      else t.setDse { t.dse with optical := .idle }
    | _, _ => t.setDse { t.dse with kills := 0 }

/-- A write of emitter_current acting on the working current and the channel (R88). -/
def writeEmitter (v : Nat) (s : State) : State :=
  let t := s.setDirtPar { s.dirtPar with emitter := v }
  if t.dse.optical = .killed ∨ v = t.dse.working then t
  else
    let d := { t.dse with working := v, rebase := true }
    match t.dse.optical with
    | .settle => t.setDse (enterSettle d)
    | .track => t.setDse (enterSettle d)
    | _ => t.setDse d

/-- A write of emitter_carrier (R88). The emitter takes it at the next window start. -/
def writeCarrier (v : Nat) (s : State) : State :=
  if v = s.dirtPar.carrier then s
  else
    let t := s.setDirtPar { s.dirtPar with carrier := v }
    let d := { t.dse with rebase := true }
    match t.dse.optical with
    | .settle => t.setDse (enterSettle d)
    | .track => t.setDse (enterSettle d)
    | _ => t.setDse d

end Sys2Proof.Machine
end

