-- ==== Sys2Proof/Machine/GaugeOps.lean ====
section
/-! DEFINITION. The Charge Gauge's shared operations: counting, estimate, resync, rescale, adjust (chapter 7). -/

namespace Sys2Proof.Machine

/-- Q at full: F × 3,600,000 mA·ms (7.1). -/
def fullCharge (f : Nat) : Nat := f * 3600000

/-- R: the remaining charge in whole mAh, 0 while the estimate is pending (R117, R122). -/
def remaining (g : Gge) : Nat := if g.estimatePending then 0 else g.q / 3600000

/-- The state of charge, whole percent (R117). -/
def soc (g : Gge) : Nat := remaining g * 100 / g.f

/-- Q set by an event (R118 to R122): the value, and the last setting event with the uptime. -/
def setCharge (q : Nat) (e : GaugeEvent) (s : State) : State :=
  s.setGge { s.gge with q := q, event := e, eventAt := s.now }

/-- The count of a scan: Q moves by I × Δt, saturating at both ends (R116). -/
def countedCharge (g : Gge) (i : Int) (dt : Nat) : Nat :=
  clampNat 0 (fullCharge g.f) ((g.q : Int) - i * dt)

/-- The open-circuit table: SOC in percent and cell voltage in mV (R118). -/
def ocvTable : List (Nat × Nat) :=
  [(0, 3300), (10, 3500), (20, 3590), (30, 3650), (40, 3700), (50, 3760), (60, 3830), (70, 3910), (80, 3990),
    (90, 4080), (100, 4180)]

/-- The SOC between the points of a table for a voltage at or above its first point (R118). -/
def interpolate (v : Nat) : List (Nat × Nat) → Nat
  | [] => 0
  | [(p, _)] => p
  | (p, lo) :: (p', hi) :: rest =>
    if v < hi then p + 10 * (v - lo) / (hi - lo) else interpolate v ((p', hi) :: rest)

/-- The open-circuit estimate of the SOC from the mean cell voltage (R118). -/
def estimateSoc (v : Nat) : Nat := if v < 3300 then 0 else interpolate v ocvTable

/-- The mean of the seven cell voltages, truncated (R101). -/
def meanMv (p : Pkm) : Nat := (p.cells.toList.filterMap (·.mv)).sum / 7

/-- The gauge at step 5 of an ON scan end: the estimate while it is pending, the count otherwise. An EMPTY resync of
the same scan end withholds the estimate (R116, R118, R120). -/
def gaugeScan (i : Int) (dt : Nat) (cutoffNow : Bool) (s : State) : State :=
  let t := s.setGge { s.gge with current := some i }
  if t.gge.estimatePending then
    let u := t.setGge { t.gge with estimatePending := false }
    if cutoffNow then u
    else setCharge (u.gge.f * estimateSoc (meanMv u.pkm) * 36000) .estimate u
  else t.setGge { t.gge with q := countedCharge t.gge i dt }

/-- The charge delivered by charging: whole mAh leave the residue for the CHARGE_IN source (R124). Each mAh handed is
one event of that source. -/
def chargeIn (i : Int) (dt : Nat) (s : State) : State :=
  let total := s.gge.residue + (-i).toNat * dt
  (List.replicate (total / 3600000) ()).foldl (fun t _ => countEvent .chargeIn (.units 1) t)
    (s.setGge { s.gge with residue := total % 3600000 })

/-- A write of full_capacity that is carried out: F, and Q rescaled when F changes (R121). -/
def writeCapacity (f : Nat) (s : State) : State :=
  if f = s.gge.f then s
  else
    let t := s.setGge { s.gge with f := f, q := s.gge.q * f / s.gge.f }
    t.setGge { t.gge with event := .capacity, eventAt := t.now }

end Sys2Proof.Machine
end

