-- ==== Sys2Proof/Machine/Flags.lean ====
section
/-! DEFINITION. The codes of the states and the bits of the flag bytes, as the STATUS payload and the other layouts give
them (R164, R176, 12.7). -/

namespace Sys2Proof.Machine

def PowerState.code : PowerState → Nat
  | .on => 0
  | .sleep => 1
  | .ship => 2

def MotorState.code : MotorState → Nat
  | .off => 0
  | .precheck => 1
  | .align => 2
  | .ramp => 3
  | .handover => 4
  | .run => 5
  | .catching => 6
  | .coast => 7
  | .restartWait => 8
  | .tripped => 9

def Step.code : Step → Nat
  | .eco => 0
  | .standard => 1
  | .max => 2

def ChargeState.code : ChargeState → Nat
  | .idle => 0
  | .qualify => 1
  | .precharge => 2
  | .cc => 3
  | .cv => 4
  | .balance => 5
  | .done => 6
  | .suspend => 7
  | .fault => 8

def DockState.code : DockState → Nat
  | .absent => 0
  | .settling => 1
  | .greeting => 2
  | .negotiating => 3
  | .active => 4
  | .basic => 5
  | .lost => 6

def PackState.code : PackState → Nat
  | .normal => 0
  | .derated => 1
  | .low => 2
  | .cutoff => 3

def IndexState.code : IndexState → Nat
  | .idle => 0
  | .both => 1
  | .optical => 2
  | .acoustic => 3
  | .fallback => 4

def BlockageState.code : BlockageState → Nat
  | .normal => 0
  | .suspect => 1
  | .blocked => 2
  | .retrying => 3

def ResetCause.code : ResetCause → Nat
  | .powerOn => 0
  | .brownout => 1
  | .shipWake => 2
  | .hostReset => 3

def WakeCause.code : WakeCause → Nat
  | .none => 0
  | .trigger => 1
  | .dock => 2
  | .link => 3

/-- The status codes of replies (R176). -/
def StatusCode.code : StatusCode → Nat
  | .ok => 0
  | .clamped => 1
  | .malformed => 2
  | .unknownKind => 3
  | .unknownId => 4
  | .badValue => 5
  | .wrongState => 6
  | .busy => 7
  | .docked => 8
  | .inhibited => 9
  | .editOpen => 10
  | .editClosed => 11
  | .inconsistent => 12
  | .overlap => 13

/-- The responses' codes (R164). -/
def Response.code : Response → Nat
  | .ignore => 0
  | .notify => 1
  | .limit => 2
  | .restart => 3
  | .stop => 4
  | .chargeStop => 5

/-- The number that identifies a fault kind in every message: its place in R164's table. -/
def FaultKind.number : FaultKind → Nat
  | .ocHw => 0
  | .startFail => 1
  | .invHot => 2
  | .packHot => 3
  | .syncLoss => 4
  | .blockagePersist => 5
  | .sensorBlocked => 6
  | .linkErr => 7
  | .cellUv => 8
  | .cellOv => 9
  | .prechargeTimeout => 10
  | .chargeTimeout => 11
  | .stage => 12
  | .dockLost => 13

/-- The reasons of a discard as LINK_ERR's detail (R175). -/
def discardCode : DiscardReason → Nat
  | .gap => 0
  | .crc => 1
  | .length => 2
  | .kind => 3
  | .framing => 4

/-- The place of a transition cause in the table of R23, from 0. -/
def MotorCause.place : MotorCause → Nat
  | .demand => 0
  | .demandFall => 1
  | .atRest => 2
  | .spinning => 3
  | .catchable => 4
  | .aligned => 5
  | .locked => 6
  | .inStep => 7
  | .rampTimeout => 8
  | .rampOverspeed => 9
  | .handoverMiss => 10
  | .catchFail => 11
  | .syncLoss => 12
  | .slowed => 13
  | .coastTimeout => 14
  | .trip => 15
  | .tripClear => 16

/-- The one number that a raise's detail is (R164): a motor state or a discard's reason by its code, a temperature, a
speed, a count, a current or a cell by its value. The number of a transition cause is a free value (log 6). -/
def Detail.number : Detail → Int
  | .zero => 0
  | .motor m => m.code
  | .cause c => Config.causeNumber c.place
  | .celsius t => t
  | .rpm n => n
  | .count n => n
  | .milliamps n => n
  | .reason r => discardCode r
  | .cell i => i

/-- A byte from its bits, bit 0 first. -/
def byteOfBits (b0 b1 b2 b3 b4 b5 : Bool) : Byte :=
  BitVec.ofNat 8 (b0.toNat + 2 * b1.toNat + 4 * b2.toNat + 8 * b3.toNat + 16 * b4.toNat + 32 * b5.toNat)

/-- The cause set's byte (12.7, byte 15). -/
def causeBits (c : CauseSet) : Byte :=
  byteOfBits c.stepLimit c.packAllowance c.inverterDerate c.blocked c.packLow c.clampMax

/-- The claims' byte (12.7, byte 17). -/
def claimBits (r : StatusReport) : Byte :=
  byteOfBits r.triggerClaim r.hostClaim r.runDemand r.rearm false false

/-- The conditions' byte (12.7, byte 25). -/
def conditionBits (r : StatusReport) : Byte :=
  byteOfBits r.tripPresent r.editOpen r.linkErr r.dropped false false

/-- The STATUS values as they stand (R182). -/
def statusReport (s : State) : StatusReport :=
  { power := s.slc.power, motor := s.mdr.state, speed := s.mdr.speed, sReq := s.drs.record.sReq
    boost := s.drs.record.boost, iC := s.drs.record.iC, causes := s.drs.record.causes, step := s.drs.step
    triggerClaim := s.drs.triggerClaim, hostClaim := s.drs.hostClaim, runDemand := s.drs.record.runDemand
    rearm := s.trg.rearm, charge := s.chc.state, dock := s.dlk.state, pack := s.pkm.state, soc := soc s.gge
    level := s.dse.level, index := s.dse.index, blockage := s.blm.state, tripPresent := s.fmg.trip.isSome
    editOpen := s.drs.edit.isSome, linkErr := s.mpt.linkErr, dropped := s.mpt.dropped
    resetCause := s.slc.resetCause, wakeCause := s.slc.wakeCause }

end Sys2Proof.Machine
end

