-- ==== Sys2Proof/Machine/HostWire.lean ====
section
/-! DEFINITION. The bytes on the two lines: the CRC both share, host frames, notice headers, the STATUS payload, and the
dock frames sent and received (R145, R146, R174, R176, 12.7). -/

namespace Sys2Proof.Machine

/-! ### CRC-8 and little-endian numbers -/

/-- One bit of the CRC register's division by x⁸ + x² + x + 1 (R146, R174). -/
def crcShift (c : Byte) : Byte := if c.getLsbD 7 then (c <<< 1) ^^^ 0x07#8 else c <<< 1

/-- One byte taken into the CRC. -/
def crcByte (c b : Byte) : Byte :=
  crcShift (crcShift (crcShift (crcShift (crcShift (crcShift (crcShift (crcShift (c ^^^ b))))))))

/-- The CRC-8 of a list of bytes, initial value 0 (R146, R174). -/
def crc8 (bytes : List Byte) : Byte := bytes.foldl crcByte 0#8

/-- A byte from a number, modulo 256. -/
def byteOf (n : Nat) : Byte := BitVec.ofNat 8 n

/-- Two bytes, low byte first (R174). -/
def le16 (n : Nat) : List Byte := [byteOf n, byteOf (n / 256)]

/-- Four bytes, low byte first (R174). -/
def le32 (n : Nat) : List Byte := [byteOf n, byteOf (n / 256), byteOf (n / 65536), byteOf (n / 16777216)]

/-- Two bytes read low byte first. -/
def word16 (a b : Byte) : BitVec 16 := b ++ a

/-- Four bytes read low byte first. -/
def word32 (a b c d : Byte) : BitVec 32 := (d ++ c) ++ (b ++ a)

/-- A signed 16-bit number clamped to its range, in two's complement, low byte first (12.7). -/
def signed16 (i : Int) : List Byte := le16 (BitVec.ofInt 16 (clampInt (-32768) 32767 i)).toNat

/-! ### Host frames -/

/-- A frame on the host line: SYNC, LEN, KIND, TAG, payload, CRC (R174, 12.7). -/
def hostFrame (kind tag : Byte) (payload : List Byte) : List Byte :=
  let body := byteOf payload.length :: kind :: tag :: payload
  0xC3#8 :: (body ++ [crc8 body])

/-- The kind of a notice: 0x40 + n (R179). -/
def noticeKind (n : Notice) : Byte := byteOf (0x40 + n.index)

/-- The tag of every notice (R174). -/
def noticeTag : Byte := 0#8

/-- The frame of a notice on the host line: its kind, tag 0, and the payload, which 12.7 begins with `noticeHeader`
(R174, R179). -/
def noticeFrame (n : Notice) (payload : List Byte) : List Byte := hostFrame (noticeKind n) noticeTag payload

/-- The kind and the tag of the frame in transmission: a reply's own, or a notice's kind with tag 0 (R174). -/
def TxFrame.kindAndTag : TxFrame → Byte × Byte
  | .reply r => (r.kind, r.tag)
  | .notice e => (noticeKind e.notice, noticeTag)

/-- The first five bytes of a notice's payload: repeat count and uptime of the latest raise (12.7). -/
def noticeHeader (e : NoticeEntry) : List Byte := byteOf e.repeats :: le32 e.uptime.toNat

/-- The 28 payload bytes of a STATUS reply (12.7). -/
def statusPayload (r : StatusReport) : List Byte :=
  [byteOf StatusCode.ok.code, byteOf r.power.code, byteOf r.motor.code] ++ le32 r.speed ++ le32 r.sReq ++
    le16 r.boost ++ le16 r.iC ++
    [causeBits r.causes, byteOf r.step.code, claimBits r, byteOf r.charge.code, byteOf r.dock.code,
      byteOf r.pack.code, byteOf r.soc, byteOf r.level.rank, byteOf r.index.code, byteOf r.blockage.code,
      conditionBits r, byteOf r.resetCause.code, byteOf r.wakeCause.code]

/-! ### Dock frames -/

/-- The type number of a message of the part (R146). -/
def DockMsg.type : DockMsg → Nat
  | .hello => 1
  | .request _ _ => 3
  | .keep _ _ _ => 5
  | .release _ => 7

/-- The code of a RELEASE's reason (12.7). -/
def ReleaseReason.code : ReleaseReason → Nat
  | .done => 0
  | .fault => 1
  | .disabled => 2

/-- The payload of a message of the part (R146, 12.7). -/
def DockMsg.payload : DockMsg → List Byte
  | .hello => [0x31#8, 1#8]
  | .request u _ => [byteOf u]
  | .keep i v c => signed16 i ++ le16 v ++ [byteOf c.code]
  | .release r => [byteOf r.code]

/-- A dock frame as the part sends it: sequence and type, length, payload, CRC (R146, 12.7). -/
def dockFrame (m : DockMsg) (seq : BitVec 4) : List Byte :=
  let body := byteOf (seq.toNat * 16 + m.type) :: byteOf m.payload.length :: m.payload
  body ++ [crc8 body]

/-- Statuses of a KEEP_ACK (R146). -/
inductive AckStatus where
  | ok
  | derate (newMax : Nat)
  | stop
  deriving DecidableEq, Repr

/-- A well-formed message of the dock (R146). -/
inductive DockReply where
  | offer (o : Offer)
  | grant (units : Nat)
  | keepAck (status : AckStatus) (evacuated : Bool)
  deriving DecidableEq, Repr

/-- The payload of a dock message of a type, with the length and the field ranges of R146. The bits beyond those a
field of flags names are not judged. -/
def dockPayload (type : Nat) (payload : List Byte) : Option DockReply :=
  match type, payload with
  | 2, [m, a, f] =>
    if 1 ≤ m.toNat ∧ m.toNat ≤ 40 then
      some (.offer { max := m.toNat, adapter := a, evacuator := f.getLsbD 0, derateCapable := f.getLsbD 1 })
    else none
  | 4, [g] => if g.toNat ≤ 40 then some (.grant g.toNat) else none
  | 6, [st, m, f] =>
    if st.toNat = 0 then some (.keepAck .ok (f.getLsbD 0))
    else if st.toNat = 1 then
      if 1 ≤ m.toNat ∧ m.toNat ≤ 40 then some (.keepAck (.derate m.toNat) (f.getLsbD 0)) else none
    else if st.toNat = 2 then some (.keepAck .stop (f.getLsbD 0))
    else none
  | _, _ => none

/-- A received dock frame: its sequence and message where it is well formed, `none` where it is discarded. The header
bits marked 0 are not judged (R146, 12.7). -/
def readDockFrame (bytes : List Byte) : Option (BitVec 4 × DockReply) :=
  match bytes with
  | h :: l :: rest =>
    let n := l.toNat % 16
    if rest.length = n + 1 ∧ crc8 (h :: l :: rest.take n) = rest.getD n 0#8 then
      (dockPayload (h.toNat % 8) (rest.take n)).map fun r => (h.extractLsb' 4 4, r)
    else none
  | _ => none

/-- The message an exchange expects in reply (R147). -/
def expects : DockMsg → DockReply → Bool
  | .hello, .offer _ => true
  | .request _ _, .grant _ => true
  | .keep _ _ _, .keepAck _ _ => true
  | .release _, .keepAck _ _ => true
  | _, _ => false

end Sys2Proof.Machine
end

