-- ==== Sys2Proof/Machine/PackOps.lean ====
section
/-! DEFINITION. The Pack Monitor's shared operations: scan interval, pack state, bleed set, the start of a scan (R98, R99,
R104, R108, R113). -/

namespace Sys2Proof.Machine

/-- "Charging": CHC in PRECHARGE, CC, CV or BALANCE (6.4). -/
def isCharging : ChargeState → Bool
  | .precharge => true
  | .cc => true
  | .cv => true
  | .balance => true
  | _ => false

/-- The scan interval (R99). In SHIP no interval runs. -/
def intervalOf (power : PowerState) (motor : MotorState) (charge : ChargeState) : ScanInterval :=
  if power = .sleep then .watch
  else if motor ≠ .off ∧ motor ≠ .tripped then .fast
  else if isCharging charge then .fast
  else .slow

/-- The interval in ms (R99). -/
def ScanInterval.ms : ScanInterval → Nat
  | .fast => 8
  | .slow => 250
  | .watch => 4000

/-- PKM chooses the interval again (R99). -/
def chooseInterval (s : State) : State :=
  s.setPkm { s.pkm with interval := intervalOf s.slc.power s.mdr.state s.chc.state }

/-- A PACK_STATE notice with the payload of R108. -/
def raisePackNotice (cellOv : Bool) (cause : PackCause) (cell : Nat) (old : PackState) (s : State) : State :=
  raise (.packState { cellOv := cellOv, cause := cause, cell := cell, new := s.pkm.state, old := old
                      vmin := vmin s.pkm, vmax := vmax s.pkm, packT := s.pkm.packT
                      discharge := s.pkm.discharge, soc := soc s.gge }) s

/-- The pack state with CUTOFF not set (R108, orders 2 to 4). At a release between two ON scan ends low_soc and i_max are
compared as written, also before the next ON scan end takes them into use (DESIGN CHOICE, log 47; R104, R114). -/
def uncutState (s : State) : PackState :=
  if soc s.gge ≤ s.packPar.lowSoc then .low
  else if s.pkm.discharge < s.packPar.iMax then .derated
  else .normal

/-- A change of pack state: the notice, and the record evaluated by DRS (R108). -/
def changePackState (new : PackState) (cause : PackCause) (cell : Nat) (s : State) : State :=
  let old := s.pkm.state
  evaluate (raisePackNotice false cause cell old (s.setPkm { s.pkm with state := new }))

/-- A release from CUTOFF, evaluated at once (R104). -/
def releaseCutoff (s : State) : State := changePackState (uncutState s) .release 0 s

/-- The bleed set handed by CHC is in force at once; the switches follow unless the cells are being measured (R113). -/
def applyBleed (set : Seven Bool) (s : State) : State :=
  let measuring := match s.pkm.scan with
    | some sc => sc.measuring
    | none => false
  s.setPkm { s.pkm with
    bleedSet := set
    cells := s.pkm.cells.zipWith (fun c b => { c with bleeding := b }) set
    switches := if measuring then s.pkm.switches else set }

/-! ### The start of a scan -/

/-- Δt: the ms from the start of the previous ON scan, 0 for the first after a reset or a wake (R100). -/
def scanDt (s : State) : Nat :=
  match s.pkm.lastOnStart with
  | some t => since s.now t
  | none => 0

/-- A scan that begins: a WATCH scan in SLEEP, an ON scan otherwise (R98 to R100). -/
def newScan (s : State) : Scan :=
  { watch := decide (s.slc.power = .sleep), fast := decide (s.pkm.interval = .fast), motor := s.mdr.state
    dt := scanDt s, measuring := true }

/-- The start of a scan: the bleed switches open before the first cell (R98). -/
def startScan (s : State) : State :=
  s.setPkm { s.pkm with
    scan := some (newScan s), switches := Seven.replicate false, lastStart := some s.now
    lastOnStart := if s.slc.power = .sleep then s.pkm.lastOnStart else some s.now }

/-- The next scan's start: the interval from the start of the previous scan, at once where there is none, and not while
a scan is in progress (R99). -/
def scanDue (s : State) : Bool :=
  s.pkm.scan.isNone && (match s.pkm.lastStart with
    | some t => decide (s.pkm.interval.ms ≤ since s.now t)
    | none => true)

/-- The start of a scan that is due (R98, R99). -/
def startDueScan (s : State) : State := if scanDue s then startScan s else s

end Sys2Proof.Machine
end

