-- ==== Sys2Proof/Machine/DockOps.lean ====
section
/-! DEFINITION. The Dock Link's messages: the grant in force, what falls due, what is sent next (R126, R147 to R155). -/

namespace Sys2Proof.Machine

/-- The grant in force in mA: the dock's grant in ACTIVE, 500 in BASIC, 0 otherwise (R126). -/
def grantInForce (d : Dlk) : Nat :=
  match d.state with
  | .active => d.grant.getD 0 * 100
  | .basic => 500
  | _ => 0

/-- The wanted current W (R150). It is charge_current as it stands at that moment and the allowance that the last ON
scan end left, also for a REQUEST that falls due between scan ends (DESIGN CHOICE, log 43; R152). -/
def wantedCurrent (s : State) : Nat := min s.chargePar.current s.pkm.chargeAllowance

/-- The units of a REQUEST for W, rounded up, at least 1 and at most the offer (R150). -/
def requestUnits (offer : Option Offer) (w : Nat) : Nat :=
  let u := max 1 ((w + 99) / 100)
  match offer with
  | some o => min o.max u
  | none => u

/-- A DOCK_STATE notice with the payload of R144. -/
def raiseDockNotice (grantEvent : Bool) (old : DockState) (cause : DockCause) (s : State) : State :=
  raise (.dockState { grantEvent := grantEvent, new := s.dlk.state, old := old, cause := cause
                      offer := s.dlk.offer, grantMa := grantInForce s.dlk, released := s.dlk.released
                      misses := s.dlk.misses }) s

/-- The KEEP as it stands when it is sent (R151). -/
def keepMessage (s : State) : DockMsg :=
  .keep ((measuredCharge s.pkm).getD Config.unmeasuredCurrent) ((vmax s.pkm).getD Config.unmeasuredVmax) s.chc.state

/-- A new exchange takes the next sequence and sends its first attempt at once. A reception in progress stands through
the part's own frame (DESIGN CHOICE, log 24; R145, R147). -/
def startExchange (m : DockMsg) (s : State) : State :=
  s.setDlk { s.dlk with
    exchange := some { msg := m, seq := s.dlk.nextSeq, attempt := 1, sending := true, wait := 0, expired := false }
    nextSeq := s.dlk.nextSeq + 1 }

/-- A REQUEST is sent: its U and W are the last request; one that stands for a KEEP restarts the keep timer (R150,
R151). -/
def sendRequest (r : DueRequest) (s : State) : State :=
  let t := startExchange (.request r.u r.w) s
  t.setDlk { t.dlk with
    lastRequest := some (r.u, r.w), keep := if r.forKeep then some 0 else t.dlk.keep }

/-- With no exchange in progress the first message held due is sent: RELEASE, then REQUEST, then KEEP. A REQUEST held
while a DERATE lowered the offer is sent with the U it fell due with (DESIGN CHOICE, log 43; R148, R152, R153). -/
def sendDue (s : State) : State :=
  if s.dlk.exchange = none ∧ (s.dlk.state = .negotiating ∨ s.dlk.state = .active) then
    match s.dlk.dueRelease, s.dlk.dueRequest with
    | some r, _ => startExchange (.release r) (s.setDlk { s.dlk with dueRelease := none, firstSent := true })
    | none, some r => sendRequest r (s.setDlk { s.dlk with dueRequest := none, firstSent := true })
    | none, none =>
      if s.dlk.dueKeep then
        startExchange (keepMessage s) (s.setDlk { s.dlk with dueKeep := false, keep := some 0 })
      else s
  else s

/-- A RELEASE falls due: a REQUEST held is discarded (R148); the KEEP it may have stood for is due as a KEEP. A RELEASE
still held is replaced by the newer one, whose reason is sent (DESIGN CHOICE, log 23; R148, R155). -/
def releaseDue (r : ReleaseReason) (d : Dlk) : Dlk :=
  { d with dueRelease := some r, dueRequest := none
           dueKeep := d.dueKeep || (match d.dueRequest with
             | some q => q.forKeep
             | none => false) }

/-- A REQUEST falls due, replacing one already held. Where the one held stands for a KEEP, the newer one stands for it too
and restarts the keep timer when it is sent (DESIGN CHOICE, log 23; R148, R151, R152). -/
def requestDue (forKeep : Bool) (s : State) : State :=
  let w := wantedCurrent s
  let held := match s.dlk.dueRequest with
    | some q => q.forKeep
    | none => false
  s.setDlk { s.dlk with
    dueRequest := some { u := requestUnits s.dlk.offer w, w := w, forKeep := forKeep || held } }

/-- CHC hands a RELEASE (R155). -/
def handRelease (r : ReleaseReason) (s : State) : State :=
  match s.dlk.state with
  | .active =>
    let before := grantInForce s.dlk
    let t := s.setDlk { releaseDue r s.dlk with released := true, grant := some 0 }
    sendDue (if before ≠ 0 then raiseDockNotice true .active .released t else t)
  | .negotiating =>
    if s.dlk.firstSent then sendDue (s.setDlk { releaseDue r s.dlk with released := true }) else s
  | _ => s

/-- CHC enters QUALIFY: released goes to no, a held RELEASE is discarded, and a REQUEST falls due (R152). -/
def qualifyEntered (s : State) : State :=
  if s.dlk.released ∧ (s.dlk.state = .active ∨ (s.dlk.state = .negotiating ∧ s.dlk.firstSent)) then
    sendDue (requestDue false (s.setDlk { s.dlk with released := false, dueRelease := none }))
  else s

end Sys2Proof.Machine
end

