-- ==== Sys2Proof/Machine/ChargeOps.lean ====
section
/-! DEFINITION. The Charge Controller: its transitions, QUALIFY's judgement, the setpoint's cap, the scan step and the
bleed set (chapter 8). -/

namespace Sys2Proof.Machine

/-- The target I_tgt (R126). -/
def targetCurrent (s : State) : Nat :=
  min s.chargePar.current (min s.pkm.chargeAllowance (grantInForce s.dlk))

/-- The motor stands with its gates off for charging: OFF or TRIPPED (R129). -/
def motorParked (m : MotorState) : Bool := decide (m = .off) || decide (m = .tripped)

/-- The states in which cells may bleed (R138). -/
def mayBleed (c : ChargeState) : Bool := decide (c = .cv) || decide (c = .balance)

/-- A CHARGE_STATE notice with the payload of R140. -/
def raiseChargeNotice (old : ChargeState) (cause : ChargeCause) (s : State) : State :=
  raise (.chargeState { new := s.chc.state, old := old, cause := cause, suspend := s.chc.suspend
                        faultCause := s.chc.faultCause, unbalanced := s.chc.unbalanced, iSet := s.chc.iSet
                        measured := measuredCharge s.pkm, vmin := vmin s.pkm, vmax := vmax s.pkm }) s

/-- What entering a charge state does to CHC itself: the setpoint is 0 and the bleed set empty where the state allows
neither, the taper timer stops, the stage count clears in IDLE, QUALIFY and FAULT, IDLE clears the cycle timers and
the host pause, a cycle begins in QUALIFY from IDLE, DONE or FAULT, and BALANCE clears the unbalanced flag (R126 to
R129, R132 to R137). -/
def enteredChc (new : ChargeState) (suspend : SuspendSet) (c : Chc) : Chc :=
  let newCycle := decide (new = .idle) ||
    (decide (new = .qualify) && (decide (c.state = .idle) || decide (c.state = .done) || decide (c.state = .fault)))
  { c with
    state := new
    iSet := if isCharging new then c.iSet else 0
    bleedSet := if mayBleed new then c.bleedSet else Seven.replicate false
    taper := none
    stageCount := if new = .idle ∨ new = .qualify ∨ new = .fault then 0 else c.stageCount
    pause := if new = .idle then false else c.pause
    safety := if newCycle then 0 else c.safety
    precharge := if newCycle then 0 else c.precharge
    balance := if newCycle then 0 else c.balance
    unbalanced := if new = .balance then false else c.unbalanced
    suspend := suspend }

/-- A change of charge state, with its deliveries: the bleed set to PKM, the notice, the scan interval, the release
from CUTOFF on entering PRECHARGE or CC (R104), and QUALIFY's entry to the Dock Link (R152). CHARGE_STATE is queued
before the PACK_STATE notice of that release (DESIGN CHOICE, log 42; R104, R130, R140). -/
def changeCharge (new : ChargeState) (cause : ChargeCause) (suspend : SuspendSet) (s : State) : State :=
  let old := s.chc.state
  let s1 := s.setChc (enteredChc new suspend s.chc)
  let s2 := if mayBleed new then s1 else applyBleed (Seven.replicate false) s1
  let s3 := chooseInterval (raiseChargeNotice old cause s2)
  let s4 := if s3.pkm.state = .cutoff ∧ (new = .precharge ∨ new = .cc) then releaseCutoff s3 else s3
  if new = .qualify then qualifyEntered s4 else s4

def noSuspend : SuspendSet := ⟨false, false, false⟩

/-- CHC enters SUSPEND: the causes held are those present (R135). -/
def enterSuspend (temp : Bool) (s : State) : State :=
  changeCharge .suspend .suspended
    ⟨temp, decide (grantInForce s.dlk = 0), s.chc.pause⟩ s

/-- CHC enters FAULT under a CHARGE_STOP: from any state but IDLE and FAULT, with the kind as its cause. The suspend
causes are emptied, and CHARGE_STATE is raised before the RELEASE is handed (DESIGN CHOICE, log 42; R136). -/
def enterChargeFault (k : FaultKind) (s : State) : State :=
  if s.chc.state = .idle ∨ s.chc.state = .fault then s
  else
    handRelease .fault
      (changeCharge .fault .fault noSuspend (s.setChc { s.chc with faultCause := some k }))

/-- A raise of a kind whose response is CHARGE_STOP (R165). -/
def raiseChargeStop (k : FaultKind) (d : Detail) (s : State) : State :=
  enterChargeFault k (noteRaise k d s)

/-- CHC enters DONE: CHARGE_STATE is raised, then the RELEASE is handed, whose DOCK_STATE notice follows it, and the
gauge resyncs to full (DESIGN CHOICE for the order, log 42; R119, R134). -/
def enterDone (cause : ChargeCause) (s : State) : State :=
  let t := handRelease .done (changeCharge .done cause noSuspend s)
  setCharge (fullCharge t.gge.f) .full t

/-- The cell of the lowest number among those a flag marks, 0 where none does: what QUALIFY's CELL_OV names (DESIGN
CHOICE, log 22; R129). -/
def lowestCell (flag : CellRecord → Bool) (p : Pkm) : Nat :=
  ((p.cells.zipWith (fun c i => if flag c then some i else none) Seven.numbers).toList.filterMap id).headD 0

/-- QUALIFY judges its five checks in order (R129). A suspension by check 2 or 3 holds HOST and DOCK alone, also where the
allowance of that very scan step is 0; TEMP joins at the next scan step (DEDUCED, log 21; R129, R135). -/
def judgeQualify (s : State) : State :=
  if s.chc.state ≠ .qualify then s
  else if ¬ motorParked s.mdr.state then s
  else if s.chc.pause then enterSuspend false s
  else if grantInForce s.dlk = 0 then
    if s.dlk.state = .lost ∨ s.dlk.state = .active then enterSuspend false s else s
  else if s.pkm.chargeAllowance = 0 then enterSuspend true s
  else if s.pkm.cells.toList.any (·.ov) then
    raiseChargeStop .cellOv (.cell (lowestCell (·.ov) s.pkm)) s
  else
    match vmin s.pkm with
    | some v =>
      if v < s.chargePar.prechargeMv then changeCharge .precharge .qualified noSuspend s
      else changeCharge .cc .qualified noSuspend s
    | none => changeCharge .cc .qualified noSuspend s

/-- I_set is held under I_tgt at every moment (R126). -/
def capSetpoint (s : State) : State :=
  s.setChc { s.chc with iSet := min s.chc.iSet (targetCurrent s) }

/-- A suspension whose causes have gone: QUALIFY within the same cycle (R135). -/
def resumeIfClear (s : State) : State :=
  if s.chc.state = .suspend ∧ s.chc.suspend = noSuspend then changeCharge .qualify .resumed noSuspend s else s

/-- A change of dock state or of the grant in force delivered to CHC with the dock present: the cap, the suspension
for DOCK or its end, and QUALIFY's judgement (R126, R129, R135). -/
def grantDelivered (s : State) : State :=
  let t := capSetpoint s
  let u :=
    if isCharging t.chc.state ∧ grantInForce t.dlk = 0 then enterSuspend false t
    else if t.chc.state = .suspend then
      resumeIfClear (t.setChc { t.chc with
        suspend := { t.chc.suspend with dock := decide (grantInForce t.dlk = 0) } })
    else t
  judgeQualify u

/-- The dock state has become ABSENT. The suspend causes are emptied (DESIGN CHOICE, log 42; R128). -/
def dockGone (s : State) : State :=
  if s.chc.state = .idle then s else changeCharge .idle .undocked noSuspend s

/-- The dock state has left ABSENT (R128). -/
def dockSeen (s : State) : State :=
  if s.chc.state = .idle ∧ s.chc.enabled then changeCharge .qualify .docked noSuspend s else s

/-! ### The bleed set (R138) -/

/-- Insertion into cells ordered by descending voltage, equal voltages in order of insertion. -/
def insertCell (x : Nat × Nat) : List (Nat × Nat) → List (Nat × Nat)
  | [] => [x]
  | y :: ys => if y.2 < x.2 then x :: y :: ys else y :: insertCell x ys

/-- The candidates: the cells at or above Vmin + balance_mV, by descending voltage, then ascending index. -/
def bleedCandidates (balanceMv : Nat) (mvs : List (Nat × Nat)) (lowest : Nat) : List (Nat × Nat) :=
  (mvs.filter fun c => decide (lowest + balanceMv ≤ c.2)).foldl (fun l c => insertCell c l) []

/-- Each candidate in turn joins unless adjacent to a cell already in, until three are in. -/
def selectCells : List (Nat × Nat) → List Nat → List Nat
  | [], chosen => chosen
  | c :: rest, chosen =>
    if 3 ≤ chosen.length then chosen
    else if chosen.any fun j => decide (c.1 + 1 = j) || decide (j + 1 = c.1) then selectCells rest chosen
    else selectCells rest (chosen ++ [c.1])

/-- The voltages with the cells' numbers. -/
def numberedMvs (p : Pkm) : List (Nat × Nat) :=
  (p.cells.zipWith (fun c i => c.mv.map fun v => (i, v)) Seven.numbers).toList.filterMap id

/-- The bleed set selected from the voltages of the scan. -/
def selectBleed (balanceMv : Nat) (p : Pkm) : Seven Bool :=
  let chosen := selectCells (bleedCandidates balanceMv (numberedMvs p) ((vmin p).getD 0)) []
  Seven.numbers.map fun i => chosen.contains i

/-- A bleed set chosen by CHC and handed to PKM. -/
def handBleed (set : Seven Bool) (s : State) : State :=
  applyBleed set (s.setChc { s.chc with bleedSet := set })

/-! ### The scan step (R127, R130 to R135) -/

/-- A setpoint moved toward an aim: up by 25 mA, no higher than it, or down to it (R130, R131). -/
def towardAim (iSet aim : Nat) : Nat := if iSet < aim then min (iSet + 25) aim else aim

/-- Some cell stands at or above a voltage. -/
def anyAtLeast (mv : Nat) (p : Pkm) : Bool := (p.cells.toList.filterMap (·.mv)).any fun v => decide (mv ≤ v)

/-- Every cell stands below a voltage. -/
def allBelow (mv : Nat) (p : Pkm) : Bool := (p.cells.toList.filterMap (·.mv)).all fun v => decide (v < mv)

/-- CV's setpoint step (R132). -/
def cvSetpoint (s : State) : Nat :=
  if anyAtLeast s.chargePar.cellCv s.pkm then s.chc.iSet - 50
  else if allBelow (s.chargePar.cellCv - 10) s.pkm ∧ s.chc.iSet < targetCurrent s then
    min (s.chc.iSet + 25) (targetCurrent s)
  else s.chc.iSet

/-- CV's step: the setpoint, then the taper (R132). -/
def cvStep (measured : Int) (s : State) : State :=
  let t := s.setChc { s.chc with iSet := cvSetpoint s }
  if measured < (t.chargePar.termCurrent : Int) then
    match t.chc.taper with
    | none => t.setChc { t.chc with taper := some 0 }
    | some ms =>
      if 60000 ≤ ms then
        if t.chargePar.balanceMv < (spread t.pkm).getD 0 then changeCharge .balance .tapered noSuspend t
        else enterDone .tapered t
      else t
  else t.setChc { t.chc with taper := none }

/-- BALANCE's step (R133). -/
def balanceStep (s : State) : State :=
  let t := s.setChc { s.chc with iSet := min (s.chargePar.termCurrent / 2) (targetCurrent s) }
  if (spread t.pkm).getD 0 ≤ t.chargePar.balanceMv / 2 then enterDone .balanced t else t

/-- The step of the state CHC stands in (R130 to R134). -/
def stateStep (measured : Int) (s : State) : State :=
  match s.chc.state with
  | .precharge =>
    if s.chargePar.prechargeMv + 100 ≤ (vmin s.pkm).getD 0 then changeCharge .cc .voltage noSuspend s
    else
      s.setChc { s.chc with
        iSet := towardAim s.chc.iSet (min s.chargePar.prechargeCurrent (targetCurrent s)) }
  | .cc =>
    if anyAtLeast s.chargePar.cellCv s.pkm then changeCharge .cv .voltage noSuspend s
    else s.setChc { s.chc with iSet := towardAim s.chc.iSet (targetCurrent s) }
  | .cv => cvStep measured s
  | .balance => balanceStep s
  | .done =>
    if (s.pkm.cells.toList.filterMap (·.mv)).any (fun v => decide (v < s.chargePar.rechargeMv)) then
      changeCharge .qualify .recharge noSuspend s
    else s
  | .qualify => judgeQualify s
  | _ => s

/-- SUSPEND's causes at a scan step (R135). -/
def suspendStep (s : State) : State :=
  let lo := min (s.pkm.tPack1.getD 0) (s.pkm.tPack2.getD 0)
  let hi := max (s.pkm.tPack1.getD 0) (s.pkm.tPack2.getD 0)
  let inside := decide (0 < s.pkm.chargeAllowance) && decide (s.chargePar.tLow + 3 ≤ lo) &&
    decide (hi ≤ s.chargePar.tHigh - 3)
  let temp := if s.pkm.chargeAllowance = 0 then true else if inside then false else s.chc.suspend.temp
  resumeIfClear (s.setChc { s.chc with
    suspend := ⟨temp, decide (grantInForce s.dlk = 0), s.chc.pause⟩ })

/-- The stage count is judged in these states (R127). -/
def stageJudged (c : ChargeState) : Bool := isCharging c || decide (c = .done) || decide (c = .suspend)

/-- The stage test: a measured current above I_set + 500 counts, three in a row raise STAGE (R127). -/
def stageTest (measured : Int) (s : State) : State :=
  if stageJudged s.chc.state then
    let n := if (s.chc.iSet : Int) + 500 < measured then min 3 (s.chc.stageCount + 1) else 0
    let t := s.setChc { s.chc with stageCount := n }
    if n = 3 then raiseChargeStop .stage .zero t else t
  else s

/-- CHC's scan step: the stage test, the cap, the suspension for TEMP, the step of the state, the bleed set (R127,
R135, R138). -/
def chargeScan (s : State) : State :=
  let measured := (measuredCharge s.pkm).getD 0
  let t := capSetpoint (stageTest measured s)
  let u :=
    if isCharging t.chc.state ∧ t.pkm.chargeAllowance = 0 then enterSuspend true t
    else if t.chc.state = .suspend then suspendStep t
    else stateStep measured t
  if mayBleed u.chc.state then handBleed (selectBleed u.chargePar.balanceMv u.pkm) u
  else handBleed (Seven.replicate false) u

end Sys2Proof.Machine
end

