-- ==== Sys2Proof/Machine/BandOps.lean ====
section
/-! DEFINITION. The Speed Band Table's shared operations: the band of a speed, the two lookups, the learning of a
revolution sample, the completion of a clear (R60 to R69). -/

namespace Sys2Proof.Machine

/-- The speed for a sum of six periods: 480,000,000 / P, truncated (R47). The sum is at least 6 in every run; for a
sum of 0 the spec gives no speed (log 3). -/
def speedOfSum (p : Nat) : Nat := if p = 0 then Config.speedOfNoPeriod else 480000000 / p

/-- The speed the sector period list gives: with fewer than six periods, their sum times six divided by their number
stands for P (R60). -/
def listSpeed (periods : List Nat) : Nat :=
  if periods.length < 6 then speedOfSum (periods.sum * 6 / periods.length) else speedOfSum periods.sum

/-- The band index of a speed (R60). -/
def bandIndex (speed : Nat) : Nat := min 15 ((speed - 20000) / 6000)

/-- The entry of a band. -/
def bandAt (t : Sbt) (b : Nat) : Band := (t.bands.get (b / 4)).get (b % 4)

/-- The table with the entry of a band replaced. -/
def putBand (t : Sbt) (b : Nat) (e : Band) : Sbt :=
  { t with bands := t.bands.put (b / 4) ((t.bands.get (b / 4)).put (b % 4) e) }

/-- Entries are served in ON and LOCKED with no clear in progress (R62 to R64). -/
def serves (t : Sbt) : Bool := decide (t.mode ≠ .off) && t.clearTimer.isNone

/-- The advance served for a speed: the entry's where it may be served and is valid, fixed_advance otherwise (R63). -/
def advanceFor (s : State) (speed : Nat) : Nat :=
  let e := bandAt s.sbt (bandIndex speed)
  if serves s.sbt && e.advValid then e.advance else s.motorPar.fixedAdvance

/-- A lookup of the advance at a crossing records the value served (R63). -/
def lookupAdvance (s : State) : Nat × State :=
  let a := advanceFor s (listSpeed s.mdr.periods)
  (a, s.setSbt { s.sbt with lastAdvance := a })

/-- The load reference served for a speed, if one is available (R64). -/
def loadReference (t : Sbt) (speed : Nat) : Option Nat :=
  let e := bandAt t (bandIndex speed)
  if serves t && e.loadValid then e.loadRef else none

/-- The load learned: the first Im is taken, later ones move the reference by a sixteenth of the difference, truncated
toward zero (R66). -/
def learnLoad (im : Nat) (e : Band) : Band :=
  let i := min 40000 im
  match e.loadRef with
  | none => { e with loadRef := some i }
  | some r => { e with loadRef := some (clampNat 0 40000 ((r : Int) + ((i : Int) - r).tdiv 16)) }

/-- The projected offset of an advance step (R67, step 2). -/
def projectedOffset (period : Nat) (offset : Int) (advance served : Nat) : Int :=
  offset + (((period / 6 : Nat) : Int) * ((advance : Int) - served)).tdiv 120

/-- One advance step (R67). -/
def advanceStep (period : Nat) (offset : Int) (served : Nat) (e : Band) : Nat :=
  let bound : Int := ((period / 6 / 64 : Nat) : Int)
  let p := projectedOffset period offset e.advance served
  if bound < p then e.advance - 1
  else if p < -bound then min 60 (e.advance + 1)
  else e.advance

/-- The advance learned: the first sample takes the advance served, and every eighth step of the count an advance step
(R67). `fresh` says that the entry's samples was 0 before this sample. -/
def learnAdvance (fresh : Bool) (sample : Sample) (served : Nat) (e : Band) : Band :=
  if fresh then { e with advance := served, steps := 1 }
  else if e.steps + 1 = 8 then { e with steps := 0, advance := advanceStep sample.period sample.offset served e }
  else { e with steps := e.steps + 1 }

/-- The flags set once an entry holds 32 samples (R68). -/
def learnValid (e : Band) : Band :=
  if 32 ≤ e.samples then
    { e with advValid := true, loadValid := e.loadValid || e.loadRef.isSome }
  else e

/-- A qualifying sample learned into its entry: samples, load unless the dirt level withholds it, advance, validity
(R66 to R68). -/
def learnEntry (sample : Sample) (served : Nat) (loadToo : Bool) (e : Band) : Band :=
  let counted := { e with samples := min 255 (e.samples + 1) }
  let loaded := if loadToo then learnLoad sample.im counted else counted
  learnValid (learnAdvance (decide (e.samples = 0)) sample served loaded)

/-- A sample qualifies for learning, BLM's state being as it stood before BLM judged the sample (R65). -/
def qualifies (sample : Sample) (motor : MotorState) (blockage : BlockageState) (t : Sbt) : Bool :=
  decide (motor = .run) && sample.onTarget && decide (blockage = .normal) && decide (t.mode ≠ .locked) &&
    t.clearTimer.isNone

/-- A revolution sample delivered to the Speed Band Table (R65 to R68). -/
def learnSample (sample : Sample) (s : State) : State :=
  if qualifies sample s.mdr.state s.blm.state s.sbt then
    let b := bandIndex sample.speed
    let loadToo := decide (s.dse.level = .clean) || decide (s.dse.level = .light)
    s.setSbt (putBand s.sbt b (learnEntry sample s.sbt.lastAdvance loadToo (bandAt s.sbt b)))
  else s

/-- A table with every entry cleared and no clear in progress (R61, R69). -/
def clearedTable (t : Sbt) : Sbt :=
  { t with bands := Four.replicate (Four.replicate Band.cleared), clearTimer := none }

end Sys2Proof.Machine
end

