-- ==== Sys2Proof/Machine/BlockageOps.lean ====
section
/-! DEFINITION. The Blockage Monitor's shared operations: the judgement of a sample, the returns to NORMAL, the motor's
entry to RUN and leaving of it (R71 to R74). The entry to BLOCKED, which may trip the motor, is in TripOps. -/

namespace Sys2Proof.Machine

/-- A change of the monitor, delivered to DRS, which evaluates the record (4.5, R22). -/
def setBlockage (b : Blm) (s : State) : State := evaluate (s.setBlm b)

/-- A BLOCKAGE notice (R72). -/
def raiseBlockageNotice (e : SetEvent) (r : BlockageReason) (s : State) : State :=
  raise (.blockage { event := e, reason := r, retries := s.blm.retries, hit := s.blm.lastHit }) s

/-- The blockage condition of a sample against the load reference served for it (R71): the sample as it is remembered
when the condition holds, `none` when it does not. -/
def blockageHit (sample : Sample) (reference : Option Nat) (motor : MotorState) (ratio : Nat) : Option BlockageHit :=
  match reference with
  | some r =>
    if motor = .run ∧ sample.onTarget ∧ sample.im < r * ratio / 256 then
      some { band := bandIndex sample.speed, im := sample.im, loadRef := r }
    else none
  | none => none

/-- A timer of a run of samples: it starts at 0 if stopped (R73). -/
def startIfStopped (t : Option Nat) : Option Nat := some (t.getD 0)

/-- A sample judged in RETRYING once the target has been reached (R73). -/
def judgeRetrying (hit : Option BlockageHit) (reference : Option Nat) (b : Blm) : Blm :=
  match hit, reference with
  | some h, _ =>
    { b with blockTimer := startIfStopped b.blockTimer, clearTimer := none, noRefTimer := none, lastHit := some h }
  | none, some _ =>
    { b with clearTimer := startIfStopped b.clearTimer, blockTimer := none, noRefTimer := none }
  | none, none =>
    { b with noRefTimer := startIfStopped b.noRefTimer, blockTimer := none, clearTimer := none }

/-- The monitor back in NORMAL while the motor runs: the normal timer starts (R71, R73, R74). -/
def returnedNormal (b : Blm) : Blm :=
  { b with state := .normal, blockTimer := none, retryTimer := none, clearTimer := none, noRefTimer := none
           targetReached := false, normalTimer := some 0 }

/-- A revolution sample delivered to the Blockage Monitor, with the load reference as it stood before the sample was
learned (R64, R71 to R73). -/
def judgeSample (sample : Sample) (reference : Option Nat) (s : State) : State :=
  let hit := blockageHit sample reference s.mdr.state s.blockPar.ratio
  match s.blm.state with
  | .normal =>
    match hit with
    | some h =>
      setBlockage { s.blm with state := .suspect, blockTimer := some 0, normalTimer := none, lastHit := some h } s
    | none => s
  | .suspect =>
    match hit with
    | some h => s.setBlm { s.blm with lastHit := some h }
    | none => setBlockage (returnedNormal s.blm) s
  | .blocked => s
  | .retrying =>
    if s.blm.targetReached then s.setBlm (judgeRetrying hit reference s.blm)
    else if sample.st = s.drs.record.sReq then
      s.setBlm (judgeRetrying hit reference { s.blm with targetReached := true })
    else s

/-- RETRYING ends in NORMAL with a CLEARED notice (R73). -/
def clearBlockage (r : BlockageReason) (s : State) : State :=
  raiseBlockageNotice .cleared r (setBlockage (returnedNormal s.blm) s)

/-- The entry to RUN delivered to the monitor: the normal timer starts (R74). -/
def blockageEnterRun (s : State) : State := s.setBlm { s.blm with normalTimer := some 0 }

/-- What leaving RUN leaves of the monitor (R74). -/
def stoppedBlm (b : Blm) : Blm :=
  { b with state := .normal, retries := 0, blockTimer := none, retryTimer := none, clearTimer := none
           noRefTimer := none, normalTimer := none, targetReached := false }

/-- The leaving of RUN delivered to the monitor (R74). -/
def blockageLeaveRun (s : State) : State :=
  let old := s.blm.state
  let t := setBlockage (stoppedBlm s.blm) s
  if old = .blocked ∨ old = .retrying then raiseBlockageNotice .cleared .motorStopped t else t

end Sys2Proof.Machine
end

