-- ==== Sys2Proof/Machine/RegulatorOps.lean ====
section
/-! DEFINITION. The Speed Regulator: its seeds, its revolution end, the revolution sample and its delivery (chapter 3).
-/

namespace Sys2Proof.Machine

/-- The seed of HANDOVER (R55). -/
def seedHandover (rampDuty p : Nat) (r : Srg) : Srg :=
  { r with dc := 4095, acc := rampDuty * 1024, duty := rampDuty, st := speedOfSum p
           heldHigh := false, heldLow := false }

/-- The duty of the seed of a catch (R56). -/
def catchDuty (speed kvDuty : Nat) : Nat := min 4095 (speed * kvDuty / 1000)

/-- The seed of a catch (R56). St is the caught speed without a clamp, also above the 255,000 of 3.1's range, which only
a CATCH shorter than 1,883 ticks for six intervals gives (DESIGN CHOICE, log 41). -/
def seedCatch (speed kvDuty : Nat) (r : Srg) : Srg :=
  let duty := catchDuty speed kvDuty
  { r with dc := 4095, acc := duty * 1024, duty := duty, st := speed
           heldHigh := decide (duty = 4095), heldLow := decide (duty = 0) }

/-- The target slew (R48). -/
def slewed (st sReq up down : Nat) : Nat :=
  if st < sReq then min (st + up) sReq else max (st - down) sReq

/-- The current limiter on the duty ceiling (R49, R50). -/
def limited (dc im iC dcStep : Nat) : Nat :=
  if iC < im then dc - max 1 (dc * (im - iC) / im)
  else if im < iC - iC / 16 then min 4095 (dc + dcStep)
  else dc

/-- The error of the PI loop (R51). -/
def loopError (st speed : Nat) : Int := clampInt (-20000) 20000 ((st : Int) - speed)

/-- The integral accumulator after a revolution end (R51). -/
def integrated (acc : Nat) (heldHigh heldLow : Bool) (ki : Nat) (e : Int) (dc : Nat) : Nat :=
  if (heldHigh ∧ 0 < e) ∨ (heldLow ∧ e < 0) then clampNat 0 (dc * 1024) (acc : Int)
  else clampNat 0 (dc * 1024) ((acc : Int) + ki * e)

/-- The duty returned (R52). -/
def loopDuty (acc kp : Nat) (e : Int) (dc : Nat) : Nat :=
  clampNat 0 dc (((kp : Int) * e).tdiv 1024 + ((acc / 1024 : Nat) : Int))

/-- The four steps of a revolution end with run demand true (R46 to R52). -/
def regulated (s : State) (speed im : Nat) : Srg :=
  let r := s.srg
  let st := slewed r.st s.drs.record.sReq s.drs.profile.upRate s.drs.profile.downRate
  let dc := limited r.dc im s.drs.record.iC s.motorPar.dcStep
  let e := loopError st speed
  let acc := integrated r.acc r.heldHigh r.heldLow s.motorPar.ki e dc
  let duty := loopDuty acc s.motorPar.kp e dc
  { r with st := st, dc := dc, acc := acc, duty := duty
           heldHigh := decide (duty = dc), heldLow := decide (duty = 0) }

/-- The speed lies within St / 50 of St (R57). -/
def onTarget (st speed : Nat) : Bool := decide (((st : Int) - speed).natAbs ≤ st / 50)

/-- The crossing offset of the revolution: the contributions' sum divided by their number (R28). -/
def crossingOffset (m : Mdr) : Int := if m.offsetCount = 0 then 0 else m.offsetSum.tdiv m.offsetCount

/-- The revolution sample (R57). -/
def sampleOf (st speed period im : Nat) (offset : Int) : Sample :=
  { speed := speed, period := period, im := im, st := st, onTarget := onTarget st speed, offset := offset }

/-- A sample delivered to the four blocks. SBT and BLM judge it against each other as they stood before it, and the
load reference is the one before the sample's own learning; to the counters the sample is one event of both time
sources (R58, R64, R159, R160, 4). -/
def deliverSample (sample : Sample) (s : State) : State :=
  let reference := loadReference s.sbt sample.speed
  let boosted := decide (0 < s.drs.record.boost)
  let t := dirtSample sample.speed (judgeSample sample reference (learnSample sample s))
  countEvents ((.runTime, .ticks sample.period) ::
    (if boosted then [(.boostTime, .ticks sample.period)] else [])) t

/-- A revolution end: the Speed Regulator acts on the six periods and the mean shunt current, and the sample goes out
(R28, R46, R57, R58). -/
def revolutionEnd (imMean : Int) (s : State) : State :=
  let p := s.mdr.periods.sum
  let speed := speedOfSum p
  let im := measuredIm imMean
  let r := if s.drs.record.runDemand then regulated s speed im else s.srg
  let sample := sampleOf r.st speed p im (crossingOffset s.mdr)
  let t := s.setSrg { r with sample := some sample }
  deliverSample sample
    (t.setMdr { t.mdr with speed := speed, revCount := 0, offsetSum := 0, offsetCount := 0 })

end Sys2Proof.Machine
end

