-- ==== Sys2Proof/Machine/MotorOps.lean ====
section
/-! DEFINITION. The Motor Drive's changes of state with their deliveries, and run demand acting on it (R7, R8, R22 to
R24, R29 to R38). -/

namespace Sys2Proof.Machine

/-! ### What entering a state does to the Motor Drive itself -/

/-- The crossing detector starts afresh with the gates off: no crossing seen, no interval, speed 0 (R25). -/
def freshDetector (m : Mdr) : Mdr :=
  { m with crossings := 0, lastNamed := none, lastInterval := none, quiet := false, speed := 0 }

/-- The gates are off and nothing is scheduled. -/
def gatesOff (m : Mdr) : Mdr := { m with gates := none, schedule := none }

/-- What entering each state does to the Motor Drive (R29 to R40). The start pending flag is set by the caller, for
COAST alone. -/
def enteredMdr (new : MotorState) (startPending : Bool) (m : Mdr) : Mdr :=
  let base := { m with state := new, startPending := startPending, stateTimer := 0, precheckHeld := false
                       catchLimit := none }
  match new with
  | .off => { gatesOff base with attempts := 0, periods := [], speed := 0 }
  | .precheck => { freshDetector (gatesOff base) with periods := [] }
  | .align => { gatesOff base with gates := some 5, speed := 0 }
  | .ramp =>
    { gatesOff base with
      gates := some 0, sector := 0, rampAngle := 0, rampInc := 0, rampTicks := 0, rampFirst := true, ts := 0
      seen := false, windowShut := false, speed := 0 }
  | .handover => { base with misses := 0, handoverCount := 1 }
  | .run => { base with attempts := 0, misses := 0, revCount := 0, offsetSum := 0, offsetCount := 0 }
  | .catching => { freshDetector (gatesOff base) with periods := [], catchLimit := some 0 }
  | .coast => { freshDetector (gatesOff base) with misses := 0 }
  | .restartWait => { gatesOff base with speed := 0 }
  | .tripped => { gatesOff base with attempts := 0, restarts := [], periods := [], speed := 0 }

/-! ### The deliveries of a change (R23) -/

/-- DRS: the entry to TRIPPED is a forced stop, with the abort of an open edit (R8, R16). -/
def deliverDrs (new : MotorState) (s : State) : State :=
  if new = .tripped then abortEdit .trip (evaluateAs false (clearClaims s)) else s

/-- SRG: its reset values at OFF, the duty ceiling at RUN (R45, R55, R56). -/
def deliverSrg (new : MotorState) (s : State) : State :=
  match new with
  | .off => s.setSrg Srg.reset
  | .run => s.setSrg { s.srg with dc := 4095 }
  | _ => s

/-- BLM: the entry to RUN and the leaving of it (R74). -/
def deliverBlm (old new : MotorState) (s : State) : State :=
  if new = .run then blockageEnterRun s else if old = .run then blockageLeaveRun s else s

/-- DSE: the entry to RUN and the leaving of it (R76, R77). -/
def deliverDse (old new : MotorState) (s : State) : State :=
  if new = .run then dirtEnterRun s else if old = .run then dirtLeaveRun s else s

/-- PKM: the scan interval, and I_sag at the entry to OFF (R99, R110). -/
def deliverPkm (new : MotorState) (s : State) : State :=
  let t := chooseInterval s
  if new = .off then t.setPkm { t.pkm with iSag := t.packPar.iMax } else t

/-- ICN: the entries to RUN and to TRIPPED (R159). -/
def deliverIcn (new : MotorState) (s : State) : State :=
  match new with
  | .run => countEvent .starts (.units 1) s
  | .tripped => countEvent .trips (.units 1) s
  | _ => s

/-- An entry awaiting a reply is abandoned once the motor has left OFF and TRIPPED or the dock has left ABSENT (R184,
R186). -/
def keptEntry (motor : MotorState) (dock : DockState) (e : PendingEntry) : PendingEntry :=
  if motorParked motor ∧ dock = .absent then e else .none

/-- SLC: the idle timer stands at 0 outside OFF and starts at 0 at the entry to OFF; a pending entry may be abandoned
(R184). -/
def deliverSlc (s : State) : State :=
  s.setSlc { s.slc with idle := 0, entry := keptEntry s.mdr.state s.dlk.state s.slc.entry }

/-- A change of motor state: the entry, the MOTOR_STATE notice with the reported speed at the change and the attempt
count after it, and the deliveries in R23's order. QUALIFY judges at a change of motor state (R129). -/
def motorTo (new : MotorState) (cause : MotorCause) (startPending : Bool) (s : State) : State :=
  let old := s.mdr.state
  let speed := s.mdr.speed
  let s1 := s.setMdr (enteredMdr new startPending s.mdr)
  let s2 := raise (.motorState { new := new, old := old, cause := cause, speed := speed
                                 attempts := s1.mdr.attempts }) s1
  let s3 := deliverDse old new (deliverBlm old new (deliverSrg new (deliverDrs new s2)))
  deliverSlc (deliverIcn new (judgeQualify (deliverPkm new s3)))

/-! ### Run demand (R7, R22, R24) -/

/-- A rise of run demand reaches the Motor Drive (R24). -/
def demandRise (s : State) : State :=
  match s.mdr.state with
  | .off => if s.chc.state = .idle then motorTo .precheck .demand false s else s
  | .coast =>
    if s.mdr.startPending then s else motorTo .precheck .demand false s
  | _ => s

/-- A fall of run demand reaches the Motor Drive (R24). -/
def demandFall (s : State) : State :=
  match s.mdr.state with
  | .off => s
  | .tripped => s
  | .coast => s.setMdr { s.mdr with startPending := false }
  | _ => motorTo .coast .demandFall false s

/-- DRS recomputes run demand; a rise or a fall evaluates the record and reaches the Motor Drive (R7, R22, R24). -/
def demandRefresh (s : State) : State :=
  let want := wantsToRun s
  if want = s.drs.record.runDemand then s
  else
    let t := evaluateAs want s
    if want then demandRise t else demandFall t

/-- A forced stop: the claims clear and run demand falls (R8). -/
def forcedStop (s : State) : State := demandRefresh (clearClaims s)

/-! ### The off-gates detector (R25) -/

/-- The sector in whose middle a crossing falls, by its phase and direction (2.2). -/
def sectorNamed (phase : Phase) (rising : Bool) : Nat :=
  match phase, rising with
  | .w, false => 0
  | .v, true => 1
  | .u, false => 2
  | .w, true => 3
  | .v, false => 4
  | .u, true => 5

/-- A period joins the sector period list, the oldest beyond six being dropped (R25, R26). -/
def appendPeriod (p : Nat) (l : List Nat) : List Nat :=
  let grown := l ++ [p]
  grown.drop (grown.length - 6)

/-- The speed of one crossing interval (R25). -/
def intervalSpeed (t : Nat) : Nat := if t = 0 then Config.speedOfNoPeriod else 80000000 / t

/-- The longest interval of a rotor not below stop speed, in ticks (R25). -/
def stopInterval : Nat := 26666

/-- The rotor is below stop speed (R25). -/
def belowStop (m : Mdr) : Bool :=
  m.quiet || decide (m.crossings < 2) || (match m.lastInterval with
    | some t => decide (stopInterval < t)
    | none => false)

/-- The reported speed of the off-gates states: from the last interval, 0 below stop speed (R25). -/
def offGatesSpeed (m : Mdr) : Nat :=
  if belowStop m then 0 else intervalSpeed (m.lastInterval.getD 0)

/-- A crossing that starts a sequence (R25). -/
def startSequence (sector : Nat) (m : Mdr) : Mdr :=
  { m with crossings := 1, lastNamed := some sector, lastInterval := none, quiet := false, speed := 0 }

/-- A crossing in sequence: its interval is appended and counted (R25). -/
def inSequence (sector t : Nat) (m : Mdr) : Mdr :=
  let n := { m with crossings := min 12 (m.crossings + 1), lastNamed := some sector, lastInterval := some t
                    quiet := false, periods := appendPeriod t m.periods }
  { n with speed := offGatesSpeed n }

/-- How a crossing stands to the one before it with the gates off: the first of a sequence, in sequence, or out of
it (R25). -/
inductive SequenceKind where
  | first
  | next
  | broken
  deriving DecidableEq, Repr

def sequenceKind (sector : Nat) (m : Mdr) : SequenceKind :=
  match m.lastNamed with
  | none => .first
  | some p => if sector = (p + 1) % 6 then .next else .broken

/-- A crossing with the gates off (R25). -/
def observeCrossing (sector t : Nat) (m : Mdr) : Mdr :=
  match sequenceKind sector m with
  | .next => inSequence sector t m
  | _ => startSequence sector m

/-- The end of COAST below stop speed or at its timeout: OFF, or PRECHECK with a start pending (R38). -/
def coastEnd (cause : MotorCause) (s : State) : State :=
  if s.mdr.startPending then motorTo .precheck cause false s else motorTo .off cause false s

/-- CATCH's crossing count returns to 0: the sequence starts anew and the limit restarts (R37). -/
def restartCatch (m : Mdr) : Mdr :=
  { m with crossings := 0, lastNamed := none, lastInterval := none, speed := 0, catchLimit := some 0 }

/-! ### Driven crossings and commutations (R26 to R28) -/

/-- The phase that floats in a sector, and whether its crossing is a rising one (2.2). -/
def expectedCrossing (sector : Nat) : Phase × Bool :=
  match sector with
  | 0 => (.w, false)
  | 1 => (.v, true)
  | 2 => (.u, false)
  | 3 => (.w, true)
  | 4 => (.v, false)
  | _ => (.u, true)

/-- The window of the present sector has closed without a crossing: Ts × 3 / 2 after the commutation (R26). -/
def windowCloseTime (ts : Nat) : Nat := ts * 3 / 2

/-- A crossing falls in the present sector's open window in the expected direction; the blanking is the one taken at
the commutation that began the sector (R26, R44). -/
def inWindow (m : Mdr) (phase : Phase) (rising : Bool) (t d : Nat) : Bool :=
  decide ((phase, rising) = expectedCrossing m.sector) && !m.windowShut &&
    decide (max (m.ts * m.blankFrac / 256) d ≤ t) && decide (t ≤ windowCloseTime m.ts)

/-- The commutation scheduled by a crossing at time t with advance a, in ticks after the sector's own commutation
(R26). -/
def scheduledAt (ts t a : Nat) : Nat := t + ts * (60 - a) / 120

/-- A crossing seen in its window: the window closes, the miss count clears, the offset contribution of R28 is taken,
and the next commutation is scheduled with the advance looked up (R26 to R28, R63). -/
def scheduleCrossing (t d : Nat) (s : State) : State :=
  let looked := lookupAdvance s
  let m := looked.2.mdr
  looked.2.setMdr { m with
    seen := true, windowShut := true, misses := 0
    offsetSum := m.offsetSum + (((t : Int) - ((m.ts / 2 : Nat) : Int)) - d), offsetCount := m.offsetCount + 1
    schedule := some (scheduledAt m.ts t looked.1) }

/-- The reported speed of HANDOVER follows the sector period list (2.1). -/
def listReported (m : Mdr) : Nat := if m.state = .handover then listSpeed m.periods else m.speed

/-- A commutation to the next sector after a period: the period is appended and the new sector watched afresh, with
blank_frac as it now stands (R26, R44). -/
def commutated (blankFrac period : Nat) (m : Mdr) : Mdr :=
  let next := (m.sector + 1) % 6
  let n := { m with sector := next, gates := some next, ts := period, blankFrac := blankFrac, periods := appendPeriod period m.periods
                    seen := false, windowShut := false, schedule := none }
  { n with speed := listReported n }

/-- A commutation in HANDOVER or RUN; every sixth in RUN ends an electrical revolution (R26, R28). -/
def commutate (period : Nat) (im : Int) (s : State) : State :=
  let t := s.setMdr (commutated s.motorPar.blankFrac period s.mdr)
  if t.mdr.state = .run then
    let u := t.setMdr { t.mdr with revCount := t.mdr.revCount + 1 }
    if 6 ≤ u.mdr.revCount then revolutionEnd im u else u
  else t

/-! ### The inverter derate (R42) -/

/-- The inverter derate current for a temperature (R42). -/
def derateCurrent (p : MotorPar) (t : Int) : Nat :=
  if t < p.invDerateStart then 35000
  else if t < p.invCut then ((35000 * (p.invCut - t)).tdiv (p.invCut - p.invDerateStart)).toNat
  else 0

/-- The derate current is computed from the last T_INV; a value that differs is published to DRS (R42). -/
def refreshDerate (s : State) : State :=
  match s.mdr.tInv with
  | none => s
  | some t =>
    let v := derateCurrent s.motorPar t
    if v = s.mdr.derate then s else evaluate (s.setMdr { s.mdr with derate := v })

/-- The states in which a hot inverter, a hot pack and the current comparator trip the motor (R41, R43, R107). -/
def motorWatched (m : MotorState) : Bool :=
  match m with
  | .precheck => true
  | .align => true
  | .ramp => true
  | .handover => true
  | .run => true
  | .catching => true
  | _ => false

end Sys2Proof.Machine
end

