-- ==== Sys2Proof/Machine/TripOps.lean ====
section
/-! DEFINITION. The STOP response and the trip, its clearing, and the raises that may trip the motor: failed starts, lost
sync, a hot inverter, a persisting blockage (R29, R36, R39, R40, R72, R165 to R172). -/

namespace Sys2Proof.Machine

/-- The trip record filled from the values standing at the moment (R168). -/
def tripRecordOf (k : FaultKind) (d : Detail) (s : State) : TripRecord :=
  { first := k, detail := d, uptime := s.now, motor := s.mdr.state, speed := s.mdr.speed
    current := (match s.srg.sample with
      | some x => x.im
      | none => 0)
    vmin := vmin s.pkm, tInv := s.mdr.tInv, packT := s.pkm.packT, later := KindMap.replicate false }

/-- A STOP taken with the motor in another state than TRIPPED: the record, the entry to TRIPPED with its deliveries,
and the TRIP notice after them (R168). -/
def trip (k : FaultKind) (d : Detail) (s : State) : State :=
  let t := s.setFmg { s.fmg with trip := some (tripRecordOf k d s) }
  raiseTripNotice (.tripped k d) (motorTo .tripped .trip false t)

/-- The STOP response: the trip, or nothing further in TRIPPED (R165). -/
def applyStop (k : FaultKind) (d : Detail) (s : State) : State :=
  if s.mdr.state = .tripped then s else trip k d s

/-- A raise of a kind whose response is STOP (R165). -/
def raiseStop (k : FaultKind) (d : Detail) (s : State) : State := applyStop k d (noteRaise k d s)

/-- The trip record of an entry to TRIPPED made in this same millisecond from a state in which the comparator is watched
(R170, log 40). -/
def tripOfNow (s : State) : Option TripRecord :=
  s.fmg.trip.filter fun r =>
    decide (s.mdr.state = .tripped) && decide (r.uptime = s.now) && motorWatched r.motor

/-- The state in which the comparator was watched when another STOP tripped the motor, taken first in this same
millisecond: an OC_HW now was raised together with that entry to TRIPPED (R170, log 40). -/
def overtakenOc (s : State) : Option MotorState :=
  ((tripOfNow s).filter fun r => decide (r.first ≠ .ocHw)).map (·.motor)

/-- OC_HW tripped the motor in this same millisecond: a STOP that a scan end finds now was raised together with it (R170,
log 40). -/
def overtakenByOc (s : State) : Bool :=
  match tripOfNow s with
  | some r => decide (r.first = .ocHw)
  | none => false

/-- A failed start attempt (R36). -/
def startFail (cause : MotorCause) (s : State) : State :=
  let t := s.setMdr { gatesOff s.mdr with attempts := s.mdr.attempts + 1 }
  if t.mdr.attempts < 3 then motorTo .restartWait cause false t
  else raiseStop .startFail (.cause cause) t

/-- The entries of the restart history less than 2,000 ms old (R39). -/
def agedRestarts (now : Uptime) (l : List Uptime) : List Uptime :=
  l.filter fun u => decide (since now u < 2000)

/-- The restart decision of the Motor Drive (R39): COAST, and at once PRECHECK with run demand true, or STOP on the
third loss within 2,000 ms. -/
def restartDecision (d : Detail) (s : State) : State :=
  let aged := agedRestarts s.now s.mdr.restarts
  if 2 ≤ aged.length then applyStop .syncLoss d (s.setMdr { s.mdr with restarts := aged })
  else
    let t := motorTo .coast .syncLoss false (s.setMdr { s.mdr with restarts := aged ++ [s.now] })
    if t.drs.record.runDemand then motorTo .precheck .demand false t else t

/-- SYNC_LOSS is raised, with the gates already off (R27, R39, R167). -/
def raiseSyncLoss (s : State) : State :=
  let d := Detail.rpm s.mdr.speed
  let t := noteRaise .syncLoss d (s.setMdr { gatesOff s.mdr with misses := 0 })
  if t.fmg.syncLoss = .stop then applyStop .syncLoss d t else restartDecision d t

/-- PRECHECK's decision at the end of its 5 ms, in R29's order. -/
def precheckDecide (tInv : Int) (s : State) : State :=
  if s.motorPar.invCut ≤ tInv then raiseStop .invHot (.celsius tInv) s
  else if s.motorPar.catchSpeed ≤ offGatesSpeed s.mdr then motorTo .catching .catchable false s
  else if belowStop s.mdr then motorTo .align .atRest false s
  else motorTo .coast .spinning true s

/-- The entry to RUN; the reported speed is the seed's St until the first revolution end (R35, R37, R47). -/
def enterRun (s : State) : State :=
  let t := motorTo .run .inStep false s
  t.setMdr { t.mdr with speed := t.srg.st }

/-- The entry to HANDOVER at the crossing that met the RAMP condition (R34, R55). -/
def enterHandover (t d : Nat) (s : State) : State :=
  let u := motorTo .handover .locked false s
  let v := u.setSrg (seedHandover u.motorPar.rampDuty u.mdr.periods.sum u.srg)
  scheduleCrossing t d (v.setMdr { v.mdr with speed := listSpeed v.mdr.periods })

/-- The entry to RUN from CATCH at the twelfth crossing: seed, present sector, and the first driven commutation
(R37, R56). The sector's own t and d are free values (log 4). -/
def enterRunCaught (s : State) : State :=
  let speed := speedOfSum s.mdr.periods.sum
  let interval := s.mdr.lastInterval.getD 0
  let u := s.setSrg (seedCatch speed s.motorPar.kvDuty s.srg)
  let v := u.setMdr { u.mdr with sector := u.mdr.lastNamed.getD 0, ts := interval }
  scheduleCrossing (Config.catchCrossingTime interval) (Config.catchDemagnetisation interval) (enterRun v)

/-- A trip is cleared: the record goes, the motor goes to OFF, a held trigger needs its release, and the CLEARED
notice carries the record just removed. It is queued after the notices that the entry to OFF brings (DESIGN CHOICE, log
20; R169, R172). -/
def clearTrip (way : ClearWay) (s : State) : State :=
  let record := s.fmg.trip
  let t := motorTo .off .tripClear false (s.setFmg { s.fmg with trip := none })
  let u := t.setTrg { t.trg with rearm := t.trg.rearm || decide (t.trg.debounced = some .pressed) }
  raise (.trip { event := .cleared way, present := false, record := record }) u

/-- The last T_INV stands at or above inv_cut (R171). -/
def inverterHot (s : State) : Bool :=
  match s.mdr.tInv with
  | some t => decide (s.motorPar.invCut ≤ t)
  | none => false

/-- Pack T stands at or above pack_cut. The parameter is compared as written, also before the next ON scan end takes it
into use for the protections (DESIGN CHOICE, log 47; R114, R171, R172). -/
def packHot (s : State) : Bool :=
  match s.pkm.packT with
  | some t => decide (s.packPar.cut ≤ t)
  | none => false

/-- BLOCKAGE_PERSIST raised at an entry to BLOCKED (R72, R165, R167). -/
def raisePersist (s : State) : State :=
  let d := Detail.count s.blm.retries
  if s.fmg.blockagePersist = .stop then raiseStop .blockagePersist d s
  else raiseNotified .blockagePersist d s

/-- The monitor as BLOCKED leaves it (R72). -/
def blockedBlm (b : Blm) : Blm :=
  { b with state := .blocked, retries := min 7 (b.retries + 1), blockTimer := none, retryTimer := some 0
           targetReached := false, clearTimer := none, noRefTimer := none, normalTimer := none }

/-- BLM enters BLOCKED from SUSPECT or RETRYING. The Intake Counters take the entry first, so a COUNTER_REACHED that it
brings is queued before the BLOCKAGE notice (DESIGN CHOICE, log 30; R72, R159, R160). -/
def enterBlocked (s : State) : State :=
  let reason : BlockageReason := if s.blm.state = .retrying then .repeated else .detected
  let t := countEvent .blockages (.units 1) (setBlockage (blockedBlm s.blm) s)
  let u := raiseBlockageNotice .set reason t
  if u.blockPar.maxRetries ≤ u.blm.retries then raisePersist u else u

/-- BLOCKED ends in RETRYING (R72, R73). -/
def enterRetrying (s : State) : State :=
  setBlockage { s.blm with state := .retrying, retryTimer := none, targetReached := false } s

/-- The block timer runs in SUSPECT and in RETRYING (R71, R73). -/
def blockTimerRuns (b : Blm) : Bool :=
  b.blockTimer.isSome && (decide (b.state = .suspect) || decide (b.state = .retrying))

/-- The block timer's expiry, at block_time as it stands (R71, R73, R75). -/
def expireBlock (s : State) : State :=
  if blockTimerRuns s.blm && reached s.blockPar.blockTime s.blm.blockTimer then
    demandRefresh (enterBlocked s)
  else s

/-- The retry timer's expiry, at retry_time as it stands (R72, R75). -/
def expireRetry (s : State) : State :=
  if s.blm.state = .blocked && reached s.blockPar.retryTime s.blm.retryTimer then enterRetrying s else s

end Sys2Proof.Machine
end

