-- ==== Sys2Proof/Machine/DockLinkOps.lean ====
section
/-! DEFINITION. The Dock Link's states and exchanges: arrival, greeting, negotiation, grants, unanswered attempts, loss,
and what a scan end makes due (chapter 9). -/

namespace Sys2Proof.Machine

/-- A change of dock state delivered to the Sleep Controller: the idle timer stands at 0 with the dock present and
starts at 0 at the entry to ABSENT, and a pending entry may be abandoned (R184). -/
def deliverDockSlc (s : State) : State := deliverSlc s

/-- A change of dock state with the dock present, already made in `s`: the notice and the deliveries. The DOCK_STATE
notice is queued before the CHARGE_STATE notice that the delivery may bring, at BASIC, ACTIVE and LOST alike (DESIGN
CHOICE, log 20; R144). -/
def dockChanged (old : DockState) (cause : DockCause) (s : State) : State :=
  deliverDockSlc (grantDelivered (raiseDockNotice false old cause s))

/-- A change of the grant in force without a change of dock state: the notice of event GRANT carries the present dock state
as new and as previous (DESIGN CHOICE, log 22; R144). It too is queued before the CHARGE_STATE notice that the delivery
may bring (DESIGN CHOICE, log 20; R144). -/
def grantChanged (before : Nat) (cause : DockCause) (s : State) : State :=
  if grantInForce s.dlk = before then s
  else grantDelivered (raiseDockNotice true s.dlk.state cause s)

/-- The link as an arrival leaves it (R143). -/
def arrivedDlk (d : Dlk) : Dlk :=
  { d with state := .settling, settle := some 0, unanswered := 0, discarded := 0, evacuations := 0, misses := 0 }

/-- A dock arrival: SETTLING, the forced stop, the notice, and the Charge Controller's leaving of IDLE (R8, R128,
R143). -/
def dockArrival (s : State) : State :=
  let t := forcedStop (s.setDlk (arrivedDlk s.dlk))
  deliverDockSlc (judgeQualify (dockSeen (raiseDockNotice false .absent .contact t)))

/-- The link as a loss leaves it (R143). -/
def lostContactDlk (d : Dlk) : Dlk :=
  { d with state := .absent, contact := false, lossTimer := none, settle := none, exchange := none
           receiving := false, offer := none, grant := none, released := false, lastRequest := none, keep := none
           misses := 0, retry := none, firstSent := false, dueRelease := none, dueRequest := none, dueKeep := false }

/-- A dock loss: ABSENT, the notice, the Charge Controller to IDLE, the dock inhibit lifted. The DOCK_STATE notice is
queued before the CHARGE_STATE notice that the delivery brings (DESIGN CHOICE, log 20; R128, R143). -/
def dockLoss (s : State) : State :=
  let old := s.dlk.state
  let t := raiseDockNotice false old .contactLost (s.setDlk (lostContactDlk s.dlk))
  demandRefresh (deliverDockSlc (dockGone t))

/-- The entry to GREETING from SETTLING or LOST: the misses clear and the HELLO exchange begins (R149, R156). -/
def enterGreeting (cause : DockCause) (s : State) : State :=
  let old := s.dlk.state
  let t := startExchange .hello
    (s.setDlk { s.dlk with state := .greeting, misses := 0, settle := none, retry := none, firstSent := false })
  dockChanged old cause t

/-- The entry to LOST: DOCK_LOST is raised before the DOCK_STATE notice (DESIGN CHOICE, log 20; R156). -/
def enterLost (s : State) : State :=
  let old := s.dlk.state
  let t := s.setDlk { s.dlk with
    state := .lost, offer := none, grant := none, lastRequest := none, released := false, keep := none
    retry := some 0, firstSent := false, dueRelease := none, dueRequest := none, dueKeep := false }
  dockChanged old .unanswered (raiseNotified .dockLost (.count t.dlk.misses) t)

/-- The entry to ACTIVE with a grant (R150, R151). -/
def enterActive (grant : Nat) (released : Bool) (cause : DockCause) (s : State) : State :=
  dockChanged .negotiating cause (s.setDlk { s.dlk with
    state := .active, grant := some grant, released := released, keep := some 0 })

/-- A GRANT's units, at most the offer's maximum (R150, R152). -/
def takenGrant (offer : Option Offer) (units : Nat) : Nat :=
  match offer with
  | some o => min units o.max
  | none => units

/-- An evacuation counted, noticed, and delivered to the Intake Counters (R154). -/
def evacuated (s : State) : State :=
  let t := s.setDlk { s.dlk with evacuations := min 255 (s.dlk.evacuations + 1) }
  clearOnEvacuation (raise (.evacuated t.dlk.evacuations t.now) t)

/-- The EVACUATED flag of a KEEP_ACK, acted on when the dock declared EVACUATOR (R154). -/
def takeEvacuation (flag : Bool) (s : State) : State :=
  let declared := match s.dlk.offer with
    | some o => o.evacuator
    | none => false
  if flag && declared then evacuated s else s

/-- The offer and the grant after a KEEP_ACK's status (R153). -/
def ackedDlk (status : AckStatus) (d : Dlk) : Dlk :=
  match status, d.offer with
  | .ok, _ => d
  | .stop, _ => { d with grant := some 0 }
  | .derate m, some o =>
    if o.derateCapable then
      { d with offer := some { o with max := min o.max m }, grant := d.grant.map fun g => min g m }
    else { d with grant := some 0 }
  | .derate _, none => { d with grant := some 0 }

/-- The cause a KEEP_ACK's status gives a change of the grant: a DERATE of a dock that did not declare it counts as a
STOP (R144, R153). -/
def ackCause (status : AckStatus) (offer : Option Offer) : DockCause :=
  match status, offer with
  | .derate _, some o => if o.derateCapable then .derate else .stop
  | _, _ => .stop

/-- A KEEP_ACK acted on in ACTIVE: its status first and then its flag, so the notices of a lowered grant are queued before
EVACUATED (DESIGN CHOICE, log 23; R153, R154). -/
def takeAck (status : AckStatus) (flag : Bool) (s : State) : State :=
  let before := grantInForce s.dlk
  takeEvacuation flag
    (grantChanged before (ackCause status s.dlk.offer) (s.setDlk (ackedDlk status s.dlk)))

/-- The reply to an exchange acted on by the rule of the link's state (R149, R150, R152 to R154). -/
def actOnReply (r : DockReply) (s : State) : State :=
  match s.dlk.state, r with
  | .greeting, .offer o =>
    dockChanged .greeting .offered (s.setDlk { s.dlk with
      offer := some o, state := .negotiating, firstSent := false })
  | .negotiating, .grant g =>
    if s.dlk.released then enterActive 0 true .granted s
    else enterActive (takenGrant s.dlk.offer g) false .granted s
  | .negotiating, .keepAck st e => takeAck st e (enterActive 0 true .released s)
  | .active, .grant g =>
    if s.dlk.released then s
    else
      grantChanged (grantInForce s.dlk) .granted
        (s.setDlk { s.dlk with grant := some (takenGrant s.dlk.offer g) })
  | .active, .keepAck st e => takeAck st e s
  | _, _ => s

/-- A reply answers the exchange: it ends, the misses clear, the reply is acted on, and the first message held due is
sent (R147, R148). -/
def answerExchange (r : DockReply) (s : State) : State :=
  sendDue (actOnReply r (s.setDlk { s.dlk with exchange := none, misses := 0 }))

/-- The exchange ends unanswered (R147, R149 to R151). -/
def endUnanswered (s : State) : State :=
  let counted := decide (s.dlk.state = .negotiating) || decide (s.dlk.state = .active)
  let t := s.setDlk { s.dlk with
    exchange := none, unanswered := min 65535 (s.dlk.unanswered + 1)
    misses := if counted then min 3 (s.dlk.misses + 1) else s.dlk.misses }
  match t.dlk.state with
  | .greeting => dockChanged .greeting .silent (t.setDlk { t.dlk with state := .basic })
  | .negotiating => enterLost t
  | .active => if 3 ≤ t.dlk.misses then enterLost t else sendDue t
  | _ => t

/-- An attempt is unanswered: the same message again with the same sequence, or the end of the exchange after the third
(R147). -/
def attemptUnanswered (e : Exchange) (s : State) : State :=
  if e.attempt < 3 then
    s.setDlk { s.dlk with
      exchange := some { e with attempt := e.attempt + 1, sending := true, wait := 0, expired := false } }
  else endUnanswered s

/-- A reception has ended without answering: with the 50 ms already past, the attempt is unanswered (R147). -/
def receptionEnded (s : State) : State :=
  match s.dlk.exchange with
  | some e => if e.expired then attemptUnanswered e s else s
  | none => s

/-- The part is sending on the contacts and sees nothing (R145). -/
def dockSending (d : Dlk) : Bool :=
  match d.exchange with
  | some e => e.sending
  | none => false

/-- The discarded total grows by one, saturating (R145, R146). -/
def countDiscard (d : Dlk) : Dlk := { d with discarded := min 65535 (d.discarded + 1) }

/-- A frame received whole (R146, R147). It is its own reception, begun within the wait, where no DOCK_RECEPTION_BEGIN came
before it (DESIGN CHOICE, log 24). -/
def dockFrameTaken (bytes : List Byte) (s : State) : State :=
  let t := s.setDlk { s.dlk with receiving := false }
  match readDockFrame bytes with
  | none => receptionEnded (t.setDlk (countDiscard t.dlk))
  | some (seq, r) =>
    match t.dlk.exchange with
    | some e => if e.seq = seq ∧ expects e.msg r then answerExchange r t else receptionEnded t
    | none => t

/-- The first message of NEGOTIATING, chosen from the charge state (R150). -/
def firstMessage (s : State) : State :=
  let t := s.setDlk { s.dlk with firstSent := true }
  match t.chc.state with
  | .done => startExchange (.release .done) t
  | .fault => startExchange (.release .fault) t
  | .idle => startExchange (.release .disabled) t
  | _ =>
    let w := wantedCurrent t
    sendRequest { u := requestUnits t.dlk.offer w, w := w, forKeep := false } t

/-- The wanted current differs from the last request's by 100 mA or more, and gives other units (R152). With no last
request yet, the first one being held, a scan end neither makes a REQUEST nor renews the one held (DESIGN CHOICE, log
43). -/
def requestMoved (s : State) : Bool :=
  let w := wantedCurrent s
  match s.dlk.lastRequest with
  | some (u, w') =>
    decide (100 ≤ ((w : Int) - w').natAbs) && decide (requestUnits s.dlk.offer w ≠ u)
  | none => false

/-- An ON scan end delivered to the link (R150, R152). -/
def dockScan (s : State) : State :=
  match s.dlk.state with
  | .negotiating => if ¬ s.dlk.firstSent ∧ motorParked s.mdr.state then firstMessage s else s
  | .active => if ¬ s.dlk.released ∧ requestMoved s then sendDue (requestDue false s) else s
  | _ => s

/-- The keep timer's expiry: a KEEP falls due, or with the grant at 0 a REQUEST in its place (R151). -/
def keepDue (s : State) : State :=
  if ¬ s.dlk.released ∧ s.dlk.grant.getD 0 = 0 then sendDue (requestDue true s)
  else sendDue (s.setDlk { s.dlk with dueKeep := true })

end Sys2Proof.Machine
end

