-- ==== Sys2Proof/Machine/PowerOps.lean ====
section
/-! DEFINITION. The Sleep Controller: SLEEP and the wakes, what happens at once, the resets of each kind with the start-up,
SHIP (chapter 13). -/

namespace Sys2Proof.Machine

/-! ### SLEEP and the wakes -/

/-- The entry to SLEEP: a forced stop, the abort of an open edit, WATCH scans (R8, R16, R99, R184). A host frame half
received stays with its bytes in the receiver (DESIGN CHOICE, log 36; R175, R185). -/
def enterSleep (s : State) : State :=
  let t := s.setSlc { s.slc with power := .sleep, idle := 0, entry := .none }
  chooseInterval (abortEdit .sleep (forcedStop t))

/-- A wake: ON, the cause, the idle timer at 0, the inhibit lifted, the scan interval chosen afresh, Δt 0 for the
next ON scan, and the transmitter resuming with the oldest reply or notice queued before the waking event is handled
(R100, R185). -/
def wake (cause : WakeCause) (s : State) : State :=
  let t := s.setSlc { s.slc with power := .on, wakeCause := cause, idle := 0 }
  let u := t.setPkm { t.pkm with lastOnStart := none }
  beginTransmission (demandRefresh (chooseInterval u))

/-- A wake event in SLEEP; in ON there is nothing to wake. -/
def wakeIfAsleep (cause : WakeCause) (s : State) : State :=
  if s.slc.power = .sleep then wake cause s else s

/-- Link activity, a trigger edge: the idle timer returns to 0 (R184). -/
def idleZero (s : State) : State := s.setSlc { s.slc with idle := 0 }

/-- The conditions of the idle timer (R184). -/
def idleRuns (s : State) : Bool :=
  decide (s.slc.power = .on) && decide (s.mdr.state = .off) && decide (s.dlk.state = .absent)

/-! ### What happens at once -/

/-- The contact voltage rises above the threshold: in ABSENT an arrival, which has woken the part from SLEEP, otherwise
the end of a dip (R143, R185). -/
def contactRisen (s : State) : State :=
  let t := s.setDlk { s.dlk with contact := true, lossTimer := none }
  if t.dlk.state = .absent then dockArrival (wakeIfAsleep .dock t) else t

/-- A contact voltage that stands above the threshold in ABSENT is an arrival, as the first judgement of DLK after a reset
finds it (R142, R143, R187). -/
def contactSeen (s : State) : State :=
  if s.dlk.state = .absent ∧ s.dlk.contact then contactRisen s else s

/-- What the present moment brings without a ms passing: the arrival of a dock that is there, and the start of a scan that
is due (R99, R143, R187). -/
def startAtOnce (s : State) : State := startDueScan (contactSeen s)

/-! ### Resets -/

/-- The reset values of every block for a cause. A reset is a forced stop, so the re-arm flag is pending where the debounced
level stood at PRESSED, until the start-up determination sets it anew; before a power-on reset that level is the one last
held (DESIGN CHOICE, log 39; R1, R4, R8). The input pins and the waiting commands are outside the part (R187, log 1, 2). -/
def resetValues (cause : ResetCause) (s : State) : State :=
  { State.reset with
    trg := { Trg.reset with raw := s.trg.raw, rearm := decide (s.trg.debounced = some .pressed) }
    dlk := { Dlk.reset with contact := s.dlk.contact }
    mpt := Mpt.reset cause, slc := Slc.reset cause, pending := s.pending }

/-- A power-on reset: the reset values, and the start-up, which belongs to the same step. PKM starts its first scan, and with
the contact voltage above the threshold DLK begins SETTLING, with RESTARTED first in the notice queue (DEDUCED, log 54;
R97, R142, R187). -/
def powerReset (cause : ResetCause) (s : State) : State := startAtOnce (resetValues cause s)

/-- The table after a HOST_RESET: the entries are kept unless a clear was in progress (R61). -/
def hostResetSbt (t : Sbt) : Sbt :=
  { Sbt.reset with bands := if t.clearTimer.isSome then Sbt.reset.bands else t.bands }

/-- The gauge after a HOST_RESET: Q is kept, rescaled to the default capacity, with no estimate pending (R115,
R121). -/
def hostResetGge (g : Gge) : Gge :=
  { Gge.reset with estimatePending := false, q := if g.f = 2500 then g.q else g.q * 2500 / g.f }

/-- A HOST_RESET, before the reply: what the chapters keep is kept, and the start-up is that of every reset (R61, R97, R115,
R142, R158, R187). -/
def hostReset (s : State) : State :=
  startAtOnce { resetValues .hostReset s with
    sbt := hostResetSbt s.sbt, gge := hostResetGge s.gge
    icn := { counters := s.icn.counters, pending := Four.replicate false } }

/-- The RESET request: a HOST_RESET, with its OK reply ahead of RESTARTED and RESET outstanding (R177). -/
def resetRequest (tag : Byte) (s : State) : State :=
  let t := hostReset s
  t.setMpt { t.mpt with
    outstanding := some (0x06#8, tag)
    replies := [{ kind := 0x86#8, tag := tag, status := .ok, body := .empty }] }

/-- The entry to SHIP: everything goes off and all state is lost, the debounced level with it. A contact voltage already
above the threshold makes the SHIP_WAKE reset at once, with its start-up (R1, R186, R187). -/
def shipEntry (s : State) : State :=
  let lost := s.setTrg { s.trg with debounced := none }
  if s.dlk.contact then powerReset .shipWake lost
  else
    let t := resetValues .shipWake lost
    t.setSlc { t.slc with power := .ship }

/-- The entry awaiting the end of a reply is made, unless it has been abandoned (R184, R186). -/
def makeEntry (s : State) : State :=
  match keptEntry s.mdr.state s.dlk.state s.slc.entry with
  | .none => s.setSlc { s.slc with entry := .none }
  | .sleep => enterSleep s
  | .ship => shipEntry s

end Sys2Proof.Machine
end

