-- ==== Sys2Proof/Machine/ScanOps.lean ====
section
/-! DEFINITION. The Pack Monitor's scan: the seventh cell, and the operation of its end with the deliveries (R98 to R112).
Its start is in PackOps. -/

namespace Sys2Proof.Machine

/-! ### The seventh cell -/

/-- The seventh cell has been measured: the switches of the set in force close (R98, R113). -/
def seventhCell (sc : Scan) (s : State) : State :=
  s.setPkm { s.pkm with scan := some { sc with measuring := false }, switches := s.pkm.bleedSet }

/-! ### Steps 1 and 2: records, counts, flags -/

/-- A cell record takes a voltage (R101). -/
def takeVoltage (c : CellRecord) (v : Nat) : CellRecord :=
  { c with
    mv := some v
    min := some (match c.min with
      | some m => Nat.min m v
      | none => v)
    max := some (match c.min, c.max with
      | some _, some m => Nat.max m v
      | _, _ => v) }

/-- A protection count and its flag after a scan (R102). -/
def movedCount (shown : Bool) (debounce count : Nat) (flag : Bool) : Nat × Bool :=
  if shown then
    let n := Nat.min 15 (count + 1)
    (n, flag || decide (debounce ≤ n))
  else (0, false)

/-- The three counts and flags of a record (R102). -/
def moveCounts (p : PackPar) (c : CellRecord) : CellRecord :=
  let v := c.mv.getD 0
  let uv := movedCount (decide (v < p.cellUv)) p.debounce c.uvCount c.uv
  let deep := movedCount (decide (v < p.deepUv)) p.debounce c.deepCount c.deep
  let ov := movedCount (decide (p.cellOv < v)) p.debounce c.ovCount c.ov
  { c with uvCount := uv.1, uv := uv.2, deepCount := deep.1, deep := deep.2, ovCount := ov.1, ov := ov.2 }

/-- Step 1, and the counts and flags of step 2 (R101, R102). -/
def recordCells (r : ScanReading) (s : State) : State :=
  s.setPkm { s.pkm with
    cells := s.pkm.cells.zipWith (fun c v => moveCounts s.packPar (takeVoltage c (measuredMv v))) r.cells }

/-- The current and the temperatures of an ON scan (R98, R107). -/
def recordOthers (r : ScanReading) (s : State) : State :=
  let t1 := measuredCelsius r.tPack1
  let t2 := measuredCelsius r.tPack2
  s.setPkm { s.pkm with
    current := some (measuredMa r.current), tPack1 := some t1, tPack2 := some t2
    tInv := some (measuredCelsius r.tInv), packT := some (max t1 t2) }

/-! ### Step 2: the protections -/

/-- PACK_HOT: the trip of a watched motor (R107), or a later cause where an OC_HW raised together with it was taken first
(R170, log 40). -/
def judgePackHot (s : State) : State :=
  match s.pkm.packT with
  | some t =>
    if s.packPar.cut ≤ t ∧ (motorWatched s.mdr.state ∨ overtakenByOc s) then raiseStop .packHot (.celsius t) s else s
  | none => s

/-- The first of the numbered voltages that no other is below. -/
def weakest : List (Nat × Nat) → Option (Nat × Nat)
  | [] => none
  | c :: rest =>
    match weakest rest with
    | some d => if d.2 < c.2 then some d else some c
    | none => some c

/-- The numbers and voltages of the cells a flag marks, by ascending number. -/
def markedMvs (flag : CellRecord → Bool) (p : Pkm) : List (Nat × Nat) :=
  (p.cells.zipWith (fun c i => if flag c then some (i, c.mv.getD 0) else none) Seven.numbers).toList.filterMap id

/-- The lowest cell among those whose UV flag is set, by its voltage (R103). The voltage is this scan's, and of several
cells at it the one of lowest number is named (DESIGN CHOICE, log 22). -/
def weakestUvCell (p : Pkm) : Nat := ((weakest (markedMvs (·.uv) p)).map (·.1)).getD 0

/-- The entry to CUTOFF: the state, the fault, the forced stop, the edit's abort, the gauge's resync, the notice
(R8, R16, R103, R120). -/
def enterCutoff (s : State) : State :=
  let old := s.pkm.state
  let cell := weakestUvCell s.pkm
  let t := noteRaise .cellUv (.cell cell) (s.setPkm { s.pkm with state := .cutoff })
  let u := setCharge 0 .empty (abortEdit .cutoff (forcedStop t))
  evaluate (raisePackNotice false .cellUv cell old u)

/-- The conditions of the entry to CUTOFF (R103). -/
def cutoffDue (s : State) : Bool :=
  s.pkm.cells.toList.any (·.uv) && !isCharging s.chc.state && decide (s.pkm.state ≠ .cutoff)

/-- One OV flag just set: the notice, and the fault while charging. No pack state changes, and the notice carries the
present one as new and as previous state (DESIGN CHOICE, log 22; R106, R108). -/
def ovEvent (cell : Nat) (s : State) : State :=
  let t := raisePackNotice true .none cell s.pkm.state s
  if isCharging t.chc.state then raiseChargeStop .cellOv (.cell cell) t else t

/-- The cells whose OV flag a scan has just set, by ascending index. -/
def newOv (before after : Pkm) : List Nat :=
  let fresh := before.cells.zipWith (fun b a => !b.ov && a.ov) after.cells
  (fresh.zipWith (fun f i => if f then some i else none) Seven.numbers).toList.filterMap id

/-- The SHIP request of the deep-UV flags, and whether it is made at this scan end (R105). -/
def judgeDeepUv (s : State) : State × Bool :=
  let any := s.pkm.cells.toList.any (·.deep)
  let asks := any && decide (s.dlk.state = .absent) && !s.pkm.deepPending
  (s.setPkm { s.pkm with deepPending := if any then s.pkm.deepPending || asks else false }, asks)

/-! ### Step 3: the pack state -/

/-- Every cell stands at or above uv_release (R104). -/
def cellsRecovered (s : State) : Bool :=
  s.pkm.cells.toList.all fun c =>
    match c.mv with
    | some v => decide (s.packPar.uvRelease ≤ v)
    | none => false

/-- The CUTOFF part of step 3 (R104). -/
def judgeRelease (s : State) : State :=
  if s.pkm.state = .cutoff ∧ cellsRecovered s then releaseCutoff s else s

/-- The pack state of an ON scan end outside CUTOFF; at the first after a reset LOW and DERATED are not judged
(R108). -/
def judgePackState (s : State) : State :=
  if s.pkm.state = .cutoff then s
  else
    let new := if s.pkm.scanned then uncutState s else .normal
    if new = s.pkm.state then s else changePackState new .scan 0 s

/-! ### Step 4: the allowances -/

/-- The thermal limit (R109). -/
def thermalLimit (p : PackPar) (t : Int) : Nat :=
  if t ≤ p.derateStart then p.iMax
  else if t < p.cut then (((p.iMax : Int) * (p.cut - t)).tdiv (p.cut - p.derateStart)).toNat
  else 0

/-- The motor drew current at the scan's start (R110). -/
def motorLoaded (m : MotorState) : Bool :=
  match m with
  | .align => true
  | .ramp => true
  | .handover => true
  | .run => true
  | _ => false

/-- The sag limiter after a scan (R110). -/
def movedSag (p : PackPar) (sc : Scan) (v iSag : Nat) : Nat :=
  if sc.fast ∧ motorLoaded sc.motor then
    if v < p.sagMv then max 2000 (iSag - iSag / 16)
    else if p.sagMv + 100 ≤ v then min p.iMax (iSag + p.iMax / 100)
    else iSag
  else if sc.motor = .off then p.iMax
  else iSag

/-- The charge allowance (R112). -/
def chargeAllowanceOf (p : ChargePar) (t1 t2 : Int) : Nat :=
  let lo := min t1 t2
  let hi := max t1 t2
  if lo < p.tLow ∨ p.tHigh < hi then 0
  else if p.tHigh - 5 < hi then p.current / 2
  else p.current

/-- Step 4 (R109 to R112). -/
def moveAllowances (sc : Scan) (s : State) : State :=
  let thermal := thermalLimit s.packPar (s.pkm.packT.getD 0)
  let sag := movedSag s.packPar sc ((vmin s.pkm).getD 0) s.pkm.iSag
  s.setPkm { s.pkm with
    thermal := thermal, iSag := sag, discharge := min s.packPar.iMax (min thermal sag)
    chargeAllowance := chargeAllowanceOf s.chargePar (s.pkm.tPack1.getD 0) (s.pkm.tPack2.getD 0) }

/-! ### Step 5 and the deliveries -/

/-- Step 5: the gauge's count or estimate, and the charge delivered (R116, R118, R124). -/
def gaugeStep (sc : Scan) (cutoffNow : Bool) (s : State) : State :=
  let i := s.pkm.current.getD 0
  let t := gaugeScan i sc.dt cutoffNow s
  if i < 0 ∧ isCharging t.chc.state then chargeIn i sc.dt t else t

/-- The Motor Drive takes T_INV: the derate, INV_HOT, and a PRECHECK decision that waited for it (R29, R42, R43). INV_HOT
trips a watched motor, or is a later cause where an OC_HW raised together with it was taken first; a PACK_HOT of the
same scan end would have tripped the motor before it (R170, log 40). -/
def deliverTInv (t : Int) (s : State) : State :=
  let u := refreshDerate (s.setMdr { s.mdr with tInv := some t })
  if u.motorPar.invCut ≤ t ∧ (motorWatched u.mdr.state ∨ (overtakenByOc u ∧ ¬ packHot u)) then raiseStop .invHot (.celsius t) u
  else if u.mdr.state = .precheck ∧ u.mdr.precheckHeld then precheckDecide t u
  else u

/-- The deliveries of an ON scan end, in R100's order. -/
def deliverScan (s : State) : State :=
  let t := deliverTInv (s.pkm.tInv.getD 0) (s.setPkm { s.pkm with scanned := true })
  dockScan (chargeScan (evaluate t))

/-- Steps 1 and 2 of any scan end after its measurements are recorded: whether CUTOFF was entered and SHIP asked
for. -/
def protectCells (before : Pkm) (s : State) : State × Bool × Bool :=
  let cut := cutoffDue s
  let t := if cut then enterCutoff s else s
  let u := (newOv before t.pkm).foldl (fun s i => ovEvent i s) t
  let d := judgeDeepUv u
  (d.1, cut, d.2)

/-- A WATCH scan's end (R100). -/
def watchScanEnd (r : ScanReading) (s : State) : State :=
  let p := protectCells s.pkm (recordCells r s)
  let t := judgeRelease p.1
  if p.2.2 then shipEntry t else t

/-- An ON scan's end (R100). -/
def onScanEnd (sc : Scan) (r : ScanReading) (s : State) : State :=
  let s1 := recordOthers r (recordCells r s)
  let p := protectCells s.pkm (judgePackHot s1)
  let s3 := judgePackState (judgeRelease p.1)
  let s5 := gaugeStep sc p.2.1 (moveAllowances sc s3)
  let s6 := deliverScan s5
  if p.2.2 then shipEntry s6 else s6

/-- The end of a scan. One that was not begun begins in the same step, and one whose cells are still being measured ends
with the bleed switches of the set in force closed again (DESIGN CHOICE, log 25; R98, R100). -/
def scanEnd (r : ScanReading) (s : State) : State :=
  let begun := match s.pkm.scan with
    | some _ => s
    | none => startScan s
  let sc := begun.pkm.scan.getD (newScan s)
  let t := begun.setPkm { begun.pkm with
    scan := none, switches := if sc.measuring then begun.pkm.bleedSet else begun.pkm.switches }
  demandRefresh (if sc.watch then watchScanEnd r t else onScanEnd sc r t)

end Sys2Proof.Machine
end

