-- ==== Sys2Proof/Machine/ParamOps.lean ====
section
/-! DEFINITION. The parameters: identifiers, ranges, enumerations, dependencies, conditions of writing, and what a write
does (R44, R75, R95, R114, R141, R166, R181). -/

namespace Sys2Proof.Machine

/-- The parameters of 12.4, in id order. -/
inductive Param where
  | alignDuty
  | alignTime
  | rampDuty
  | rampAccel
  | handoverSpeed
  | rampTimeLimit
  | blankFrac
  | fixedAdvance
  | kp
  | ki
  | dcStep
  | catchSpeed
  | kvDuty
  | coastTimeout
  | ocLevel
  | invDerateStart
  | invCut
  | blockRatio
  | blockTime
  | retryTime
  | maxRetries
  | cellOv
  | cellUv
  | uvRelease
  | deepUv
  | debounce
  | iMax
  | reserve
  | sagMv
  | packDerateStart
  | packCut
  | lowSoc
  | fullCapacity
  | chargeCurrent
  | prechargeCurrent
  | termCurrent
  | cellCv
  | prechargeMv
  | rechargeMv
  | balanceMv
  | chargeTLow
  | chargeTHigh
  | prechargeTimeout
  | chargeTimeout
  | balanceTimeout
  | window
  | emitterCarrier
  | emitterCurrent
  | agcTarget
  | tcShift
  | trackLimit
  | killWindows
  | opticalMode
  | detectLevel
  | noiseLimit
  | sRef
  | acScale
  | weight
  | fallbackIndex
  | tLight
  | tMod
  | tHeavy
  | levelHyst
  | holdWindows
  | boostDecay
  | acousticEnable
  | idleSleepS
  | strict
  | triggerMode
  | syncLossResponse
  | blockagePersistResponse
  | sensorBlockedResponse
  | linkErrResponse
  deriving DecidableEq, Repr

/-- The identifier of a parameter (12.4). -/
def Param.id : Param → Nat
  | .alignDuty => 0x10
  | .alignTime => 0x11
  | .rampDuty => 0x12
  | .rampAccel => 0x13
  | .handoverSpeed => 0x14
  | .rampTimeLimit => 0x15
  | .blankFrac => 0x16
  | .fixedAdvance => 0x17
  | .kp => 0x18
  | .ki => 0x19
  | .dcStep => 0x1A
  | .catchSpeed => 0x1B
  | .kvDuty => 0x1C
  | .coastTimeout => 0x1D
  | .ocLevel => 0x1E
  | .invDerateStart => 0x1F
  | .invCut => 0x20
  | .blockRatio => 0x24
  | .blockTime => 0x25
  | .retryTime => 0x26
  | .maxRetries => 0x27
  | .cellOv => 0x30
  | .cellUv => 0x31
  | .uvRelease => 0x32
  | .deepUv => 0x33
  | .debounce => 0x34
  | .iMax => 0x35
  | .reserve => 0x36
  | .sagMv => 0x37
  | .packDerateStart => 0x38
  | .packCut => 0x39
  | .lowSoc => 0x3A
  | .fullCapacity => 0x3B
  | .chargeCurrent => 0x40
  | .prechargeCurrent => 0x41
  | .termCurrent => 0x42
  | .cellCv => 0x43
  | .prechargeMv => 0x44
  | .rechargeMv => 0x45
  | .balanceMv => 0x46
  | .chargeTLow => 0x47
  | .chargeTHigh => 0x48
  | .prechargeTimeout => 0x49
  | .chargeTimeout => 0x4A
  | .balanceTimeout => 0x4B
  | .window => 0x50
  | .emitterCarrier => 0x51
  | .emitterCurrent => 0x52
  | .agcTarget => 0x53
  | .tcShift => 0x54
  | .trackLimit => 0x55
  | .killWindows => 0x56
  | .opticalMode => 0x57
  | .detectLevel => 0x58
  | .noiseLimit => 0x59
  | .sRef => 0x5A
  | .acScale => 0x5B
  | .weight => 0x5C
  | .fallbackIndex => 0x5D
  | .tLight => 0x5E
  | .tMod => 0x5F
  | .tHeavy => 0x60
  | .levelHyst => 0x61
  | .holdWindows => 0x62
  | .boostDecay => 0x63
  | .acousticEnable => 0x64
  | .idleSleepS => 0x70
  | .strict => 0x71
  | .triggerMode => 0x72
  | .syncLossResponse => 0x73
  | .blockagePersistResponse => 0x74
  | .sensorBlockedResponse => 0x75
  | .linkErrResponse => 0x76

/-- The parameters of 12.4 in id order, motor and blockage. -/
def Param.motorAndBlockage : List Param :=
  [.alignDuty, .alignTime, .rampDuty, .rampAccel, .handoverSpeed, .rampTimeLimit, .blankFrac, .fixedAdvance, .kp,
   .ki, .dcStep, .catchSpeed, .kvDuty, .coastTimeout, .ocLevel, .invDerateStart, .invCut, .blockRatio, .blockTime]

/-- The parameters of 12.4 in id order, blockage, pack and charge. -/
def Param.packAndCharge : List Param :=
  [.retryTime, .maxRetries, .cellOv, .cellUv, .uvRelease, .deepUv, .debounce, .iMax, .reserve, .sagMv,
   .packDerateStart, .packCut, .lowSoc, .fullCapacity, .chargeCurrent, .prechargeCurrent, .termCurrent, .cellCv,
   .prechargeMv]

/-- The parameters of 12.4 in id order, charge and dirt. -/
def Param.chargeAndDirt : List Param :=
  [.rechargeMv, .balanceMv, .chargeTLow, .chargeTHigh, .prechargeTimeout, .chargeTimeout, .balanceTimeout,
   .window, .emitterCarrier, .emitterCurrent, .agcTarget, .tcShift, .trackLimit, .killWindows, .opticalMode,
   .detectLevel, .noiseLimit, .sRef, .acScale]

/-- The parameters of 12.4 in id order, dirt and system. -/
def Param.dirtAndSystem : List Param :=
  [.weight, .fallbackIndex, .tLight, .tMod, .tHeavy, .levelHyst, .holdWindows, .boostDecay, .acousticEnable,
   .idleSleepS, .strict, .triggerMode, .syncLossResponse, .blockagePersistResponse, .sensorBlockedResponse,
   .linkErrResponse]

/-- Every parameter. -/
def Param.all : List Param :=
  Param.motorAndBlockage ++ Param.packAndCharge ++ Param.chargeAndDirt ++ Param.dirtAndSystem

/-- The parameter with an identifier, if the table has one (R181). -/
def Param.ofId (n : Nat) : Option Param := Param.all.find? fun p => p.id == n

/-- The code of a trigger mode (R181). -/
def TriggerMode.code : TriggerMode → Nat
  | .hold => 0
  | .toggle => 1
  | .hostOnly => 2

/-- The trigger mode of a code; the callers pass 0..2. -/
def TriggerMode.ofCode (n : Nat) : TriggerMode :=
  if n = 0 then .hold else if n = 1 then .toggle else .hostOnly

/-- The code of an optical mode (R87). -/
def OpticalMode.code : OpticalMode → Nat
  | .auto => 0
  | .forceOn => 1
  | .forceOff => 2

/-- The optical mode of a code; the callers pass 0..2. -/
def OpticalMode.ofCode (n : Nat) : OpticalMode :=
  if n = 0 then .auto else if n = 1 then .forceOn else .forceOff

/-- The response of a code (R164); the callers pass 0, 1, 3 or 4. -/
def Response.ofCode (n : Nat) : Response :=
  if n = 0 then .ignore else if n = 1 then .notify else if n = 3 then .restart else .stop

/-- The value of a parameter as it stands, enumerations as their codes (R181). -/
def Param.get (p : Param) (s : State) : Int :=
  match p with
  | .alignDuty => s.motorPar.alignDuty
  | .alignTime => s.motorPar.alignTime
  | .rampDuty => s.motorPar.rampDuty
  | .rampAccel => s.motorPar.rampAccel
  | .handoverSpeed => s.motorPar.handoverSpeed
  | .rampTimeLimit => s.motorPar.rampTimeLimit
  | .blankFrac => s.motorPar.blankFrac
  | .fixedAdvance => s.motorPar.fixedAdvance
  | .kp => s.motorPar.kp
  | .ki => s.motorPar.ki
  | .dcStep => s.motorPar.dcStep
  | .catchSpeed => s.motorPar.catchSpeed
  | .kvDuty => s.motorPar.kvDuty
  | .coastTimeout => s.motorPar.coastTimeout
  | .ocLevel => s.motorPar.ocLevel
  | .invDerateStart => s.motorPar.invDerateStart
  | .invCut => s.motorPar.invCut
  | .blockRatio => s.blockPar.ratio
  | .blockTime => s.blockPar.blockTime
  | .retryTime => s.blockPar.retryTime
  | .maxRetries => s.blockPar.maxRetries
  | .cellOv => s.packPar.cellOv
  | .cellUv => s.packPar.cellUv
  | .uvRelease => s.packPar.uvRelease
  | .deepUv => s.packPar.deepUv
  | .debounce => s.packPar.debounce
  | .iMax => s.packPar.iMax
  | .reserve => s.packPar.reserve
  | .sagMv => s.packPar.sagMv
  | .packDerateStart => s.packPar.derateStart
  | .packCut => s.packPar.cut
  | .lowSoc => s.packPar.lowSoc
  | .fullCapacity => s.gge.f
  | .chargeCurrent => s.chargePar.current
  | .prechargeCurrent => s.chargePar.prechargeCurrent
  | .termCurrent => s.chargePar.termCurrent
  | .cellCv => s.chargePar.cellCv
  | .prechargeMv => s.chargePar.prechargeMv
  | .rechargeMv => s.chargePar.rechargeMv
  | .balanceMv => s.chargePar.balanceMv
  | .chargeTLow => s.chargePar.tLow
  | .chargeTHigh => s.chargePar.tHigh
  | .prechargeTimeout => s.chargePar.prechargeTimeout
  | .chargeTimeout => s.chargePar.chargeTimeout
  | .balanceTimeout => s.chargePar.balanceTimeout
  | .window => s.dirtPar.window
  | .emitterCarrier => s.dirtPar.carrier
  | .emitterCurrent => s.dirtPar.emitter
  | .agcTarget => s.dirtPar.agcTarget
  | .tcShift => s.dirtPar.tcShift
  | .trackLimit => s.dirtPar.trackLimit
  | .killWindows => s.dirtPar.killWindows
  | .opticalMode => s.dirtPar.mode.code
  | .detectLevel => s.dirtPar.detectLevel
  | .noiseLimit => s.dirtPar.noiseLimit
  | .sRef => s.dirtPar.sRef
  | .acScale => s.dirtPar.acScale
  | .weight => s.dirtPar.weight
  | .fallbackIndex => s.dirtPar.fallback
  | .tLight => s.dirtPar.tLight
  | .tMod => s.dirtPar.tMod
  | .tHeavy => s.dirtPar.tHeavy
  | .levelHyst => s.dirtPar.levelHyst
  | .holdWindows => s.dirtPar.holdWindows
  | .boostDecay => s.dirtPar.boostDecay
  | .acousticEnable => s.dirtPar.acousticEnable.toNat
  | .idleSleepS => s.idleSleepS
  | .strict => s.fmg.strict.toNat
  | .triggerMode => s.trg.mode.code
  | .syncLossResponse => s.fmg.syncLoss.code
  | .blockagePersistResponse => s.fmg.blockagePersist.code
  | .sensorBlockedResponse => s.fmg.sensorBlocked.code
  | .linkErrResponse => s.fmg.linkErr.code

/-- The parameters written with the motor in OFF alone (R3, R44). -/
def Param.motorOffOnly : Param → Bool
  | .alignDuty => true
  | .alignTime => true
  | .rampDuty => true
  | .rampAccel => true
  | .handoverSpeed => true
  | .rampTimeLimit => true
  | .catchSpeed => true
  | .kvDuty => true
  | .coastTimeout => true
  | .ocLevel => true
  | .invDerateStart => true
  | .invCut => true
  | .triggerMode => true
  | _ => false

/-- The codes of an enumeration; `none` for a numeric parameter (R3, R87, R88, R95, R166). -/
def Param.codes : Param → Option (List Int)
  | .emitterCarrier => some [0, 1, 2]
  | .opticalMode => some [0, 1, 2]
  | .acousticEnable => some [0, 1]
  | .strict => some [0, 1]
  | .triggerMode => some [0, 1, 2]
  | .syncLossResponse => some [3, 4]
  | .blockagePersistResponse => some [1, 4]
  | .sensorBlockedResponse => some [0, 1]
  | .linkErrResponse => some [0, 1]
  | _ => none

/-- The range of a parameter; for an enumeration its least and greatest code (R44, R75, R95, R114, R141, R181). -/
def Param.range : Param → Int × Int
  | .alignDuty => (0, 1000)
  | .alignTime => (10, 500)
  | .rampDuty => (100, 2000)
  | .rampAccel => (1, 64)
  | .handoverSpeed => (10000, 30000)
  | .rampTimeLimit => (200, 3000)
  | .blankFrac => (32, 128)
  | .fixedAdvance => (0, 60)
  | .kp => (0, 255)
  | .ki => (0, 255)
  | .dcStep => (1, 64)
  | .catchSpeed => (8000, 40000)
  | .kvDuty => (5, 60)
  | .coastTimeout => (1000, 20000)
  | .ocLevel => (20, 60)
  | .invDerateStart => (70, 105)
  | .invCut => (80, 120)
  | .blockRatio => (64, 240)
  | .blockTime => (50, 2000)
  | .retryTime => (500, 10000)
  | .maxRetries => (1, 7)
  | .cellOv => (4100, 4350)
  | .cellUv => (2500, 3300)
  | .uvRelease => (2800, 3500)
  | .deepUv => (2200, 2800)
  | .debounce => (1, 15)
  | .iMax => (5000, 35000)
  | .reserve => (0, 2000)
  | .sagMv => (2900, 3500)
  | .packDerateStart => (40, 60)
  | .packCut => (50, 75)
  | .lowSoc => (0, 30)
  | .fullCapacity => (500, 6000)
  | .chargeCurrent => (100, 4000)
  | .prechargeCurrent => (50, 500)
  | .termCurrent => (50, 500)
  | .cellCv => (4000, 4250)
  | .prechargeMv => (2500, 3300)
  | .rechargeMv => (3900, 4150)
  | .balanceMv => (5, 100)
  | .chargeTLow => (-5, 10)
  | .chargeTHigh => (35, 55)
  | .prechargeTimeout => (5, 60)
  | .chargeTimeout => (60, 600)
  | .balanceTimeout => (10, 180)
  | .window => (10, 100)
  | .emitterCarrier => (0, 2)
  | .emitterCurrent => (0, 63)
  | .agcTarget => (500, 3500)
  | .tcShift => (1, 7)
  | .trackLimit => (0, 64)
  | .killWindows => (10, 250)
  | .opticalMode => (0, 2)
  | .detectLevel => (0, 255)
  | .noiseLimit => (0, 255)
  | .sRef => (40000, 120000)
  | .acScale => (1, 255)
  | .weight => (0, 128)
  | .fallbackIndex => (0, 255)
  | .tLight => (1, 254)
  | .tMod => (1, 254)
  | .tHeavy => (1, 254)
  | .levelHyst => (0, 32)
  | .holdWindows => (1, 100)
  | .boostDecay => (1, 64)
  | .acousticEnable => (0, 1)
  | .idleSleepS => (0, 3600)
  | .strict => (0, 1)
  | .triggerMode => (0, 2)
  | .syncLossResponse => (3, 4)
  | .blockagePersistResponse => (1, 4)
  | .sensorBlockedResponse => (0, 1)
  | .linkErrResponse => (0, 1)

/-- The least value a parameter's dependencies allow, against the others as they stand (R44, R95, R114, R141). -/
def Param.depLow (p : Param) (s : State) : Option Int :=
  match p with
  | .invCut => some (s.motorPar.invDerateStart + 5)
  | .cellOv => some (s.chargePar.cellCv + 21)
  | .cellUv => some (s.packPar.deepUv + 100)
  | .uvRelease => some (s.packPar.cellUv + 100)
  | .packCut => some (s.packPar.derateStart + 5)
  | .cellCv => some (s.chargePar.rechargeMv + 50)
  | .tMod => some (s.dirtPar.tLight + 1)
  | .tHeavy => some (s.dirtPar.tMod + 1)
  | _ => none

/-- The greatest value a parameter's dependencies allow (R44, R95, R114, R141). -/
def Param.depHigh (p : Param) (s : State) : Option Int :=
  match p with
  | .invDerateStart => some (s.motorPar.invCut - 5)
  | .cellUv => some ((s.packPar.uvRelease : Int) - 100)
  | .deepUv => some ((s.packPar.cellUv : Int) - 100)
  | .packDerateStart => some (s.packPar.cut - 5)
  | .cellCv => some ((s.packPar.cellOv : Int) - 21)
  | .rechargeMv => some ((s.chargePar.cellCv : Int) - 50)
  | .tLight => some ((s.dirtPar.tMod : Int) - 1)
  | .tMod => some ((s.dirtPar.tHeavy : Int) - 1)
  | _ => none

/-- The value a write takes: clamped to the range, then to the dependencies (R181). -/
def Param.taken (p : Param) (v : Int) (s : State) : Int :=
  let r := clampInt p.range.1 p.range.2 v
  let a := match p.depHigh s with
    | some h => min h r
    | none => r
  match p.depLow s with
  | some l => max l a
  | none => a

/-! ### What a write does -/

/-- block_time written: a running block timer at or past it expires (R75). -/
def writeBlockTime (v : Nat) (s : State) : State :=
  expireBlock (s.setBlockPar { s.blockPar with blockTime := v })

/-- retry_time written: a running retry timer at or past it expires (R75). -/
def writeRetryTime (v : Nat) (s : State) : State :=
  expireRetry (s.setBlockPar { s.blockPar with retryTime := v })

/-- i_max written: I_sag is held under it at once (R110). -/
def writeIMax (v : Nat) (s : State) : State :=
  let t := s.setPackPar { s.packPar with iMax := v }
  t.setPkm { t.pkm with iSag := min t.pkm.iSag v }

/-- The ms of a timeout in minutes. -/
def minutes (n : Nat) : Nat := n * 60000

/-- The precharge timer's expiry, at precharge_timeout as it stands (R130, R137). -/
def expirePrecharge (s : State) : State :=
  if s.chc.state = .precharge ∧ minutes s.chargePar.prechargeTimeout ≤ s.chc.precharge then raiseChargeStop .prechargeTimeout .zero s else s

/-- The safety timer's expiry, at charge_timeout as it stands (R137). -/
def expireCharge (s : State) : State :=
  if isCharging s.chc.state ∧ minutes s.chargePar.chargeTimeout ≤ s.chc.safety then raiseChargeStop .chargeTimeout .zero s else s

/-- The balance timer's expiry, at balance_timeout as it stands: DONE with the unbalanced flag (R133, R137). -/
def expireBalance (s : State) : State :=
  if s.chc.state = .balance ∧ minutes s.chargePar.balanceTimeout ≤ s.chc.balance then
    enterDone .balanceTimeout (s.setChc { s.chc with unbalanced := true }) else s

/-- charge_current written: the setpoint is held under it at once (R126). -/
def writeChargeCurrent (v : Nat) (s : State) : State :=
  capSetpoint (s.setChargePar { s.chargePar with current := v })

/-- precharge_timeout written (R137). -/
def writePrechargeTimeout (v : Nat) (s : State) : State :=
  expirePrecharge (s.setChargePar { s.chargePar with prechargeTimeout := v })

/-- charge_timeout written (R137). -/
def writeChargeTimeout (v : Nat) (s : State) : State :=
  expireCharge (s.setChargePar { s.chargePar with chargeTimeout := v })

/-- balance_timeout written (R137). -/
def writeBalanceTimeout (v : Nat) (s : State) : State :=
  expireBalance (s.setChargePar { s.chargePar with balanceTimeout := v })

/-- trigger_mode written with the motor in OFF (R3, R4). -/
def writeTriggerMode (m : TriggerMode) (s : State) : State :=
  if m = s.trg.mode then s
  else
    let t := s.setTrg { s.trg with
      mode := m, rearm := s.trg.rearm || decide (s.trg.debounced = some .pressed) }
    demandRefresh (t.setDrs { t.drs with triggerClaim := false })

/-- A value written and taken into use (R181 and the owning chapters). -/
def Param.write (p : Param) (v : Int) (s : State) : State :=
  match p with
  | .alignDuty => s.setMotorPar { s.motorPar with alignDuty := v.toNat }
  | .alignTime => s.setMotorPar { s.motorPar with alignTime := v.toNat }
  | .rampDuty => s.setMotorPar { s.motorPar with rampDuty := v.toNat }
  | .rampAccel => s.setMotorPar { s.motorPar with rampAccel := v.toNat }
  | .handoverSpeed => s.setMotorPar { s.motorPar with handoverSpeed := v.toNat }
  | .rampTimeLimit => s.setMotorPar { s.motorPar with rampTimeLimit := v.toNat }
  | .blankFrac => s.setMotorPar { s.motorPar with blankFrac := v.toNat }
  | .fixedAdvance => s.setMotorPar { s.motorPar with fixedAdvance := v.toNat }
  | .kp => s.setMotorPar { s.motorPar with kp := v.toNat }
  | .ki => s.setMotorPar { s.motorPar with ki := v.toNat }
  | .dcStep => s.setMotorPar { s.motorPar with dcStep := v.toNat }
  | .catchSpeed => s.setMotorPar { s.motorPar with catchSpeed := v.toNat }
  | .kvDuty => s.setMotorPar { s.motorPar with kvDuty := v.toNat }
  | .coastTimeout => s.setMotorPar { s.motorPar with coastTimeout := v.toNat }
  | .ocLevel => s.setMotorPar { s.motorPar with ocLevel := v.toNat }
  | .invDerateStart => refreshDerate (s.setMotorPar { s.motorPar with invDerateStart := v })
  | .invCut => refreshDerate (s.setMotorPar { s.motorPar with invCut := v })
  | .blockRatio => s.setBlockPar { s.blockPar with ratio := v.toNat }
  | .blockTime => writeBlockTime v.toNat s
  | .retryTime => writeRetryTime v.toNat s
  | .maxRetries => s.setBlockPar { s.blockPar with maxRetries := v.toNat }
  | .cellOv => s.setPackPar { s.packPar with cellOv := v.toNat }
  | .cellUv => s.setPackPar { s.packPar with cellUv := v.toNat }
  | .uvRelease => s.setPackPar { s.packPar with uvRelease := v.toNat }
  | .deepUv => s.setPackPar { s.packPar with deepUv := v.toNat }
  | .debounce => s.setPackPar { s.packPar with debounce := v.toNat }
  | .iMax => writeIMax v.toNat s
  | .reserve => evaluate (s.setPackPar { s.packPar with reserve := v.toNat })
  | .sagMv => s.setPackPar { s.packPar with sagMv := v.toNat }
  | .packDerateStart => s.setPackPar { s.packPar with derateStart := v }
  | .packCut => s.setPackPar { s.packPar with cut := v }
  | .lowSoc => s.setPackPar { s.packPar with lowSoc := v.toNat }
  | .fullCapacity => writeCapacity v.toNat s
  | .chargeCurrent => writeChargeCurrent v.toNat s
  | .prechargeCurrent => s.setChargePar { s.chargePar with prechargeCurrent := v.toNat }
  | .termCurrent => s.setChargePar { s.chargePar with termCurrent := v.toNat }
  | .cellCv => s.setChargePar { s.chargePar with cellCv := v.toNat }
  | .prechargeMv => s.setChargePar { s.chargePar with prechargeMv := v.toNat }
  | .rechargeMv => s.setChargePar { s.chargePar with rechargeMv := v.toNat }
  | .balanceMv => s.setChargePar { s.chargePar with balanceMv := v.toNat }
  | .chargeTLow => s.setChargePar { s.chargePar with tLow := v }
  | .chargeTHigh => s.setChargePar { s.chargePar with tHigh := v }
  | .prechargeTimeout => writePrechargeTimeout v.toNat s
  | .chargeTimeout => writeChargeTimeout v.toNat s
  | .balanceTimeout => writeBalanceTimeout v.toNat s
  | .window => s.setDirtPar { s.dirtPar with window := v.toNat }
  | .emitterCarrier => writeCarrier v.toNat s
  | .emitterCurrent => writeEmitter v.toNat s
  | .agcTarget => s.setDirtPar { s.dirtPar with agcTarget := v.toNat }
  | .tcShift => s.setDirtPar { s.dirtPar with tcShift := v.toNat }
  | .trackLimit => s.setDirtPar { s.dirtPar with trackLimit := v.toNat }
  | .killWindows => s.setDirtPar { s.dirtPar with killWindows := v.toNat }
  | .opticalMode => writeOpticalMode (OpticalMode.ofCode v.toNat) s
  | .detectLevel => s.setDirtPar { s.dirtPar with detectLevel := v.toNat }
  | .noiseLimit => s.setDirtPar { s.dirtPar with noiseLimit := v.toNat }
  | .sRef => s.setDirtPar { s.dirtPar with sRef := v.toNat }
  | .acScale => s.setDirtPar { s.dirtPar with acScale := v.toNat }
  | .weight => s.setDirtPar { s.dirtPar with weight := v.toNat }
  | .fallbackIndex => s.setDirtPar { s.dirtPar with fallback := v.toNat }
  | .tLight => s.setDirtPar { s.dirtPar with tLight := v.toNat }
  | .tMod => s.setDirtPar { s.dirtPar with tMod := v.toNat }
  | .tHeavy => s.setDirtPar { s.dirtPar with tHeavy := v.toNat }
  | .levelHyst => s.setDirtPar { s.dirtPar with levelHyst := v.toNat }
  | .holdWindows => s.setDirtPar { s.dirtPar with holdWindows := v.toNat }
  | .boostDecay => s.setDirtPar { s.dirtPar with boostDecay := v.toNat }
  | .acousticEnable => s.setDirtPar { s.dirtPar with acousticEnable := decide (v ≠ 0) }
  | .idleSleepS => s.setIdleSleepS v.toNat
  | .strict => s.setFmg { s.fmg with strict := decide (v ≠ 0) }
  | .triggerMode => writeTriggerMode (TriggerMode.ofCode v.toNat) s
  | .syncLossResponse => s.setFmg { s.fmg with syncLoss := Response.ofCode v.toNat }
  | .blockagePersistResponse => s.setFmg { s.fmg with blockagePersist := Response.ofCode v.toNat }
  | .sensorBlockedResponse => s.setFmg { s.fmg with sensorBlocked := Response.ofCode v.toNat }
  | .linkErrResponse => s.setFmg { s.fmg with linkErr := Response.ofCode v.toNat }

end Sys2Proof.Machine
end

