-- ==== Sys2Proof/Machine/BandCommands.lean ====
section
/-! DEFINITION. The timers of the Speed Band Table and the Blockage Monitor (R69, R71 to R74). -/

namespace Sys2Proof.Machine

/-- BAND_CLEAR_COMPLETE (R69). -/
def execBandClearComplete (s : State) : Host.Outcome State Fault Refusal :=
  .next (whilePowered (fun t =>
    if t.sbt.clearTimer.isSome then
      raise (.tableCleared t.sbt.mode) (t.setSbt (clearedTable t.sbt))
    else t) s)

/-- BLOCK_TIMER_EXPIRY. A write taken first that raised block_time, or a sample that stopped the timer, has made it void
(R71 to R73, R75). -/
def execBlockTimerExpiry (s : State) : Host.Outcome State Fault Refusal :=
  .next (whilePowered (fun t =>
    expireBlock t) s)

/-- RETRY_TIMER_EXPIRY. A write taken first that raised retry_time has made it void (R72, R75). -/
def execRetryTimerExpiry (s : State) : Host.Outcome State Fault Refusal :=
  .next (whilePowered (fun t =>
    expireRetry t) s)

/-- CLEAR_TIMER_EXPIRY. A sample taken first that stopped or restarted the timer has made it void (R73). -/
def execClearTimerExpiry (s : State) : Host.Outcome State Fault Refusal :=
  .next (whilePowered (fun t =>
    if t.blm.state = .retrying && reached 200 t.blm.clearTimer then clearBlockage .targetHeld t else t) s)

/-- NO_REFERENCE_TIMER_EXPIRY. A sample taken first that stopped or restarted the timer has made it void (R73). -/
def execNoReferenceTimerExpiry (s : State) : Host.Outcome State Fault Refusal :=
  .next (whilePowered (fun t =>
    if t.blm.state = .retrying && reached 1000 t.blm.noRefTimer then clearBlockage .noReference t else t) s)

/-- NORMAL_TIMER_EXPIRY, once the timer stands at 10,000 ms (R74). -/
def execNormalTimerExpiry (s : State) : Host.Outcome State Fault Refusal :=
  .next (whilePowered (fun t =>
    if t.blm.state = .normal && reached 10000 t.blm.normalTimer then
      t.setBlm { t.blm with retries := 0, normalTimer := none }
    else t) s)

end Sys2Proof.Machine
end

