-- ==== Sys2Proof/Machine/ChargeCommands.lean ====
section
/-! DEFINITION. The timers of the Charge Controller (R130, R133, R137). -/

namespace Sys2Proof.Machine

/-- PRECHARGE_TIMEOUT. A write taken first that raised precharge_timeout has made it void (R130, R137). -/
def execPrechargeTimeout (s : State) : Host.Outcome State Fault Refusal :=
  .next (whilePowered (fun t =>
    expirePrecharge t) s)

/-- CHARGE_TIMEOUT. A write taken first that raised charge_timeout has made it void (R137). -/
def execChargeTimeout (s : State) : Host.Outcome State Fault Refusal :=
  .next (whilePowered (fun t =>
    expireCharge t) s)

/-- BALANCE_TIMEOUT. A write taken first that raised balance_timeout has made it void (R133, R137). -/
def execBalanceTimeout (s : State) : Host.Outcome State Fault Refusal :=
  .next (whilePowered (fun t =>
    expireBalance t) s)

end Sys2Proof.Machine
end

