-- ==== Sys2Proof/Machine/DirtCommands.lean ====
section
/-! DEFINITION. The end of a dirt window (R80). -/

namespace Sys2Proof.Machine

/-- DIRT_WINDOW_END (R76, R80). A window lasts the ms it began with, so before they have passed there is no end (DESIGN
CHOICE, log 51). -/
def execDirtWindowEnd (amplitude level : Nat) (signal : List Nat) (s : State) : Host.Outcome State Fault Refusal :=
  .next (whilePowered (fun t =>
    match t.dse.window with
    | some w => if windowOver w then dirtWindowEnd w amplitude level signal t else t
    | none => t) s)

end Sys2Proof.Machine
end

