-- ==== Sys2Proof/Machine/DockCommands.lean ====
section
/-! DEFINITION. The dock contacts and the dock link (R143 to R156). -/

namespace Sys2Proof.Machine

/-- DOCK_CONTACT_RISE (R143); in SHIP it is the SHIP_WAKE reset (R186). -/
def execDockContactRise (s : State) : Host.Outcome State Fault Refusal :=
  .next
    (if s.slc.power = .ship then powerReset .shipWake (s.setDlk { s.dlk with contact := true })
    else whilePowered contactRisen s)

/-- DOCK_LOSS (R143). It stands for the 2 ms having passed, so it is a loss whichever side of the threshold State holds;
in ABSENT, where no loss can arise, the contact voltage is below the threshold after it (DESIGN CHOICE, log 9, 55). -/
def execDockLoss (s : State) : Host.Outcome State Fault Refusal :=
  .next (whilePowered (fun t =>
    if t.dlk.state = .absent then t.setDlk { t.dlk with contact := false, lossTimer := none }
    else dockLoss t) s)

/-- SETTLE_TIMER_EXPIRY (R143, R149). -/
def execSettleTimerExpiry (s : State) : Host.Outcome State Fault Refusal :=
  .next (whilePowered (fun t =>
    if t.dlk.state = .settling then enterGreeting .settled t else t) s)

/-- The part has sent the frame of an attempt: the wait for the reply begins (R147). -/
def frameSent (d : Dlk) : Dlk :=
  match d.exchange with
  | some e => if e.sending then { d with exchange := some { e with sending := false, wait := 0 } } else d
  | none => d

/-- DOCK_FRAME_SENT (R147). -/
def execDockFrameSent (s : State) : Host.Outcome State Fault Refusal :=
  .next (whilePowered (fun t =>
    t.setDlk (frameSent t.dlk)) s)

/-- The link sees the dock's carrier: with the dock present and the part not sending (R145). -/
def dockSeesCarrier (d : Dlk) : Bool := decide (d.state ≠ .absent) && !dockSending d

/-- DOCK_FRAME_RECEIVED (R146, R147). -/
def execDockFrameReceived (bytes : List Byte) (s : State) : Host.Outcome State Fault Refusal :=
  .next (whilePowered (fun t =>
    if dockSeesCarrier t.dlk then dockFrameTaken bytes t else t) s)

/-- A reception is abandoned and counted; it ends without answering (R145, R147). -/
def abandonReception (s : State) : State :=
  receptionEnded (s.setDlk { countDiscard s.dlk with receiving := false })

/-- DOCK_FRAME_ABANDON (R145). -/
def execDockFrameAbandon (s : State) : Host.Outcome State Fault Refusal :=
  .next (whilePowered (fun t =>
    if t.dlk.receiving then abandonReception t else t) s)

/-- A preamble begins a reception; one before the frame in progress is complete abandons that frame first (R145). -/
def receptionBegun (s : State) : State :=
  let t := if s.dlk.receiving then abandonReception s else s
  t.setDlk { t.dlk with receiving := !dockSending t.dlk }

/-- DOCK_RECEPTION_BEGIN (R145, R147). -/
def execDockReceptionBegin (s : State) : Host.Outcome State Fault Refusal :=
  .next (whilePowered (fun t =>
    if dockSeesCarrier t.dlk then receptionBegun t else t) s)

/-- 50 ms have passed since the end of the attempt's frame: a reception in progress is awaited, otherwise the attempt is
unanswered (R147). -/
def replyTimeout (s : State) : State :=
  match s.dlk.exchange with
  | some e =>
    if e.sending then s
    else if s.dlk.receiving then s.setDlk { s.dlk with exchange := some { e with expired := true } }
    else attemptUnanswered e s
  | none => s

/-- DOCK_REPLY_TIMEOUT (R147). -/
def execDockReplyTimeout (s : State) : Host.Outcome State Fault Refusal :=
  .next (whilePowered (fun t =>
    replyTimeout t) s)

/-- KEEP_TIMER_EXPIRY (R151). -/
def execKeepTimerExpiry (s : State) : Host.Outcome State Fault Refusal :=
  .next (whilePowered (fun t =>
    if t.dlk.state = .active ∧ t.dlk.keep.isSome then keepDue t else t) s)

/-- DOCK_RETRY_EXPIRY (R156). -/
def execDockRetryExpiry (s : State) : Host.Outcome State Fault Refusal :=
  .next (whilePowered (fun t =>
    if t.dlk.state = .lost then enterGreeting .retry t else t) s)

/-- CONTACT_VOLTAGE_FALL: with the dock present the 2 ms of a loss begin to run (R143). A fall taken with the contact
voltage already below the threshold, and the loss timer running, starts the 2 ms again at 0, because R143 gives no such
event and a fall has the voltage above the threshold just before it (DESIGN CHOICE, log 55). -/
def execContactVoltageFall (s : State) : Host.Outcome State Fault Refusal :=
  let t := s.setDlk { s.dlk with
    contact := false, lossTimer := if s.dlk.state = .absent then none else some 0 }
  .next (whilePowered id t)

end Sys2Proof.Machine
end

