-- ==== Sys2Proof/Machine/LinkOps.lean ====
section
/-! DEFINITION. The Message Port's judgement of a request, the discards, and what every host frame shares: the wake from
SLEEP, the reply, the link activity (R175 to R177, R184, R185). -/

namespace Sys2Proof.Machine

/-- What the owning block returns for a request: the state it leaves, the status, the fields of the reply, and whether
the request is at once an expiry of the idle timer, which follows the queueing of its reply (R176, R184). -/
structure Served where
  state : State
  status : StatusCode
  body : ReplyBody
  idleExpired : Bool
  deriving DecidableEq, Repr

/-- A request answered without more. -/
def answered (status : StatusCode) (body : ReplyBody) (s : State) : Served := ⟨s, status, body, false⟩

/-- A refusal with the status alone, changing nothing (R176). -/
def refuse (status : StatusCode) (s : State) : Served := answered status .empty s

/-- The kind of the reply to a request (R174). -/
def replyKind (kind : Byte) : Byte := kind + 0x80#8

/-- The reply to a request as it is queued. -/
def replyTo (kind tag : Byte) (status : StatusCode) (body : ReplyBody) : Reply :=
  { kind := replyKind kind, tag := tag, status := status, body := body }

/-- A request that is taken: it becomes outstanding, its owning block serves it, its reply joins the queue, and an
expiry of the idle timer follows (R176, R184). -/
def takeRequest (kind tag : Byte) (serve : State → Served) (s : State) : State :=
  let r := serve (s.setMpt { s.mpt with outstanding := some (kind, tag) })
  let t := queueReply (replyTo kind tag r.status r.body) r.state
  if r.idleExpired then enterSleep t else t

/-- A well-formed request judged in R176's order: dropped, answered OVERLAP, or taken. -/
def judgeRequest (kind tag : Byte) (serve : State → Served) (s : State) : State :=
  if 2 ≤ s.mpt.replies.length then s.setMpt { s.mpt with dropped := true }
  else if s.mpt.outstanding.isSome then queueReply (replyTo kind tag .overlap .empty) s
  else takeRequest kind tag serve s

/-- The receiver back in HUNT, with no bytes (R175). -/
def toHunt (s : State) : State := s.setMpt { s.mpt with rx := .hunt, rxBytes := [], rxGap := 0 }

/-- A host frame's handling: in SHIP the line is not sensed, in SLEEP the frame's first byte has woken the part. The
transmitter, when free, has begun the oldest frame before this one completes and takes up what the frame left to send;
the frame is link activity (R175, R178, R184, R185). -/
def onHostFrame (f : State → State) (s : State) : State :=
  whilePowered (fun t => idleZero (f (beginTransmission (wakeIfAsleep .link t)))) s

/-- A well-formed host frame that carries a request (R176). -/
def onRequest (kind tag : Byte) (serve : State → Served) (s : State) : State :=
  onHostFrame (fun t => judgeRequest kind tag serve (toHunt t)) s

/-- A frame discarded: the LINK_ERR condition and the fault with the reason as detail (R175). -/
def discardFrame (reason : DiscardReason) (s : State) : State :=
  let t := toHunt s
  raiseNotified .linkErr (.reason reason) (t.setMpt { t.mpt with linkErr := true })

end Sys2Proof.Machine
end

