-- ==== Sys2Proof/Machine/ServePack.lean ====
section
/-! DEFINITION. What the pack side's blocks, the Message Port and the Sleep Controller do for a request and return
(R101, R122, R123, R139, R140, R157, R162, R163, R180 to R186). -/

namespace Sys2Proof.Machine

/-! ### Message Port and Sleep Controller -/

/-- IDENTIFY (R183). -/
def serveIdentify (s : State) : Served := answered .ok (.identity 0x0B#8 0x0310#16 1#8 1#8) s

/-- STATUS, which clears the two conditions it has reported (R182). -/
def serveStatus (s : State) : Served :=
  answered .ok (.status (statusReport s)) (s.setMpt { s.mpt with linkErr := false, dropped := false })

/-- GET_PARAM (R181). -/
def serveGetParam (id : Byte) (s : State) : Served :=
  match Param.ofId id.toNat with
  | some p => answered .ok (.param id (p.get s)) s
  | none => refuse .unknownId s

/-- A write of idle_sleep_s at or below the time already run is an expiry (R184). -/
def idleExpiredBy (p : Param) (v : Int) (s : State) : Bool :=
  decide (p = .idleSleepS) && decide (v ≠ 0) && idleRuns s && decide (v.toNat * 1000 ≤ s.slc.idle)

/-- SET_PARAM of a parameter of the table, judged in R181's order. -/
def serveSetKnown (id : Byte) (p : Param) (value : BitVec 32) (s : State) : Served :=
  if p.motorOffOnly ∧ s.mdr.state ≠ .off then refuse .wrongState s
  else
    match p.codes with
    | some cs =>
      if value.toInt ∈ cs then answered .ok (.param id value.toInt) (p.write value.toInt s)
      else refuse .badValue s
    | none =>
      let v := p.taken value.toInt s
      ⟨p.write v s, if v = value.toInt then .ok else .clamped, .param id v, idleExpiredBy p v s⟩

/-- SET_PARAM (R181). -/
def serveSetParam (id : Byte) (value : BitVec 32) (s : State) : Served :=
  match Param.ofId id.toNat with
  | some p => serveSetKnown id p value s
  | none => refuse .unknownId s

/-- The entry of a notice is still enabled (R180). -/
def keepsEntry (enables : BitVec 16) (e : NoticeEntry) : Bool := noticeEnabled enables e.notice.index

/-- NOTICE_MASK: the enables, the pending entries of the kinds newly disabled, and what the Intake Counters are told
(R180). Bits 14 and 15 are reserved. -/
def serveNoticeMask (enables : BitVec 16) (s : State) : Served :=
  if enables.getLsbD 14 ∨ enables.getLsbD 15 then refuse .malformed s
  else
    let e := enables ||| 1#16
    let lost := s.mpt.notices.any fun n => decide (n.notice.index = 10) && !keepsEntry e n
    let t := s.setMpt { s.mpt with enables := e, notices := s.mpt.notices.filter (keepsEntry e) }
    answered .ok (.enables e) (if lost then clearPendingReach t else t)

/-- SLEEP (R184). -/
def serveSleep (s : State) : Served :=
  if motorParked s.mdr.state ∧ s.dlk.state = .absent then
    answered .ok .empty (s.setSlc { s.slc with entry := .sleep })
  else refuse .wrongState s

/-- SHIP (R186). -/
def serveShip (s : State) : Served :=
  if s.mdr.state = .off ∧ s.dlk.state = .absent then
    answered .ok .empty (s.setSlc { s.slc with entry := .ship })
  else refuse .wrongState s

/-! ### Pack Monitor and Charge Gauge -/

/-- CELL_READ's values (R101). -/
def cellReport (s : State) : CellReport :=
  { cells := s.pkm.cells, vmin := vmin s.pkm, vmax := vmax s.pkm, spread := spread s.pkm
    current := s.pkm.current, tPack1 := s.pkm.tPack1, tPack2 := s.pkm.tPack2, tInv := s.pkm.tInv
    packT := s.pkm.packT, state := s.pkm.state, thermal := s.pkm.thermal, iSag := s.pkm.iSag
    discharge := s.pkm.discharge, chargeAllowance := s.pkm.chargeAllowance, interval := s.pkm.interval }

/-- CELL_READ (R101). -/
def serveCellRead (s : State) : Served := answered .ok (.cells (cellReport s)) s

/-- CELL_RESET_MINMAX (R101). -/
def serveCellResetMinmax (s : State) : Served :=
  answered .ok .empty
    (s.setPkm { s.pkm with cells := s.pkm.cells.map fun c => { c with min := none, max := none } })

/-- GAUGE_READ's values (R123). -/
def gaugeReport (g : Gge) : GaugeReport :=
  { r := remaining g, soc := soc g, f := g.f, current := g.current, estimatePending := g.estimatePending
    event := g.event, eventAt := g.eventAt }

/-- GAUGE_READ (R123). -/
def serveGaugeRead (s : State) : Served := answered .ok (.gauge (gaugeReport s.gge)) s

/-- The bound that cut a shift of a quantity to a range (R122, R163). -/
def saturationOf (hi : Nat) (v : Int) : Saturation :=
  if v < 0 then .low else if (hi : Int) < v then .high else .none

/-- GAUGE_ADJUST (R122). -/
def serveGaugeAdjust (delta : BitVec 16) (s : State) : Served :=
  let d := clampInt (-6000) 6000 delta.toInt
  let v : Int := (s.gge.q : Int) + d * 3600000
  let t := setCharge (clampNat 0 (fullCharge s.gge.f) v) .adjust s
  answered (if d = delta.toInt then .ok else .clamped)
    (.gaugeAdjust { before := remaining s.gge, delta := d, after := remaining t.gge, soc := soc t.gge
                    saturation := saturationOf (fullCharge s.gge.f) v }) t

/-! ### Charge Controller and Dock Link -/

/-- CHARGE_CONTROL's values (R139). -/
def chargeControlReport (c : Chc) : ChargeControlReport :=
  { state := c.state, enabled := c.enabled, pause := c.pause, suspend := c.suspend }

/-- A CHARGE_CONTROL action carried out. -/
def chargeAnswered (s : State) : Served := answered .ok (.chargeControl (chargeControlReport s.chc)) s

/-- CHARGE_CONTROL ENABLE (R128, R139). -/
def serveChargeEnable (s : State) : Served :=
  let t := s.setChc { s.chc with enabled := true }
  chargeAnswered
    (if t.chc.state = .idle ∧ t.dlk.state ≠ .absent then
      judgeQualify (changeCharge .qualify .enabled noSuspend t)
    else t)

/-- CHARGE_CONTROL DISABLE (R139, R155). -/
def serveChargeDisable (s : State) : Served :=
  let t := s.setChc { s.chc with enabled := false }
  chargeAnswered
    (if t.chc.state = .idle then t
    else demandRefresh (handRelease .disabled (changeCharge .idle .disabled noSuspend t)))

/-- CHARGE_CONTROL PAUSE (R139). -/
def serveChargePause (s : State) : Served :=
  if s.chc.state = .idle ∨ s.chc.state = .done ∨ s.chc.state = .fault then refuse .wrongState s
  else
    let t := s.setChc { s.chc with pause := true }
    chargeAnswered
      (if isCharging t.chc.state then enterSuspend false t
      else if t.chc.state = .suspend then
        t.setChc { t.chc with suspend := { t.chc.suspend with host := true } }
      else t)

/-- CHARGE_CONTROL RESUME (R139). -/
def serveChargeResume (s : State) : Served :=
  if s.chc.pause then
    let t := s.setChc { s.chc with pause := false }
    chargeAnswered
      (if t.chc.state = .suspend then
        let u := resumeIfClear (t.setChc { t.chc with suspend := { t.chc.suspend with host := false } })
        judgeQualify u
      else t)
  else refuse .wrongState s

/-- CHARGE_CONTROL CLEAR (R136, R139). -/
def serveChargeClear (s : State) : Served :=
  if s.chc.state = .fault then chargeAnswered (judgeQualify (changeCharge .qualify .cleared noSuspend s))
  else refuse .wrongState s

/-- CHARGE_READ's values (R140). -/
def chargeReport (s : State) : ChargeReport :=
  { control := chargeControlReport s.chc, faultCause := s.chc.faultCause, unbalanced := s.chc.unbalanced
    iSet := s.chc.iSet, iTgt := targetCurrent s, grantMa := grantInForce s.dlk
    allowance := s.pkm.chargeAllowance, measured := measuredCharge s.pkm, stageCount := s.chc.stageCount
    safety := s.chc.safety, precharge := s.chc.precharge, balance := s.chc.balance, taper := s.chc.taper
    bleedSet := s.chc.bleedSet }

/-- CHARGE_READ (R140). -/
def serveChargeRead (s : State) : Served := answered .ok (.charge (chargeReport s)) s

/-- DOCK_READ's values (R157). -/
def dockReport (d : Dlk) : DockReport :=
  { state := d.state, offer := d.offer, grant := d.grant, grantMa := grantInForce d, released := d.released
    lastRequest := d.lastRequest, exchange := d.exchange.map fun e => (e.msg, e.seq, e.attempt)
    nextSeq := d.nextSeq, keep := d.keep, settle := d.settle, retry := d.retry, misses := d.misses
    unanswered := d.unanswered, discarded := d.discarded, evacuations := d.evacuations }

/-- DOCK_READ (R157). -/
def serveDockRead (s : State) : Served := answered .ok (.dock (dockReport s.dlk)) s

/-! ### Intake Counters -/

/-- The source of a code (10.1). -/
def CounterSource.ofCode (n : Nat) : Option CounterSource :=
  match n with
  | 0 => some .runTime
  | 1 => some .boostTime
  | 2 => some .dirtSum
  | 3 => some .heavyWindows
  | 4 => some .blockages
  | 5 => some .trips
  | 6 => some .chargeIn
  | 7 => some .starts
  | _ => none

/-- The start a byte gives for counter k: 0x00 is FREE, 0x10 + j is AFTER j with j another counter (12.6, R162). -/
def counterStart (k : Nat) (b : Byte) : Option (Option Nat) :=
  if b.toNat = 0 then some none
  else if 0x10 ≤ b.toNat ∧ b.toNat ≤ 0x13 ∧ b.toNat ≠ 0x10 + k then some (some (b.toNat - 0x10))
  else none

/-- A record as COUNTER_SETUP writes it (R162). -/
def setupCounter (source : CounterSource) (threshold : Nat) (options : Byte) (start : Option Nat) : Counter :=
  { source := source, value := 0, threshold := threshold
    options := ⟨options.getLsbD 0, options.getLsbD 1, options.getLsbD 2⟩
    start := start, state := if start.isSome then .waiting else .counting, reached := false, residue := 0 }

/-- COUNTER_SETUP (R162). -/
def serveCounterSetup (k source : Byte) (threshold : BitVec 32) (options start : Byte) (s : State) : Served :=
  if 8 ≤ options.toNat then refuse .malformed s
  else if 3 < k.toNat then refuse .badValue s
  else
    match CounterSource.ofCode source.toNat, counterStart k.toNat start with
    | some src, some st =>
      let c := setupCounter src threshold.toNat options st
      answered .ok (.counter c) (putCounter k.toNat c s)
    | _, _ => refuse .badValue s

/-- COUNTER_READ (R162). -/
def serveCounterRead (s : State) : Served :=
  answered .ok (.counters s.icn.counters s.icn.pending) s

/-- A counter as an adjust leaves it before a reach: value, release from FROZEN, and reached cleared below the
threshold (R163). -/
def adjustedCounter (delta : Int) (c : Counter) : Counter :=
  let v := clampNat 0 counterMax ((c.value : Int) + delta)
  let st : CounterState := if c.state = .frozen then .counting else c.state
  { c with
    value := v, state := st
    reached := c.reached && !(decide (st = .counting) && (decide (c.threshold = 0) || decide (v < c.threshold))) }

/-- COUNTER_ADJUST (R163). -/
def serveCounterAdjust (k : Byte) (delta : BitVec 32) (s : State) : Served :=
  if 3 < k.toNat then refuse .badValue s
  else
    let c := s.icn.counters.get k.toNat
    let t := judgeReach k.toNat (putCounter k.toNat (adjustedCounter delta.toInt c) s)
    let a := t.icn.counters.get k.toNat
    let sat := saturationOf counterMax ((c.value : Int) + delta.toInt)
    answered (if sat = .none then .ok else .clamped)
      (.counterAdjust { old := c.value, delta := delta.toInt, new := a.value, state := a.state
                        reached := a.reached, saturation := sat }) t

end Sys2Proof.Machine
end

