-- ==== Sys2Proof/Machine/ServeSuction.lean ====
section
/-! DEFINITION. What the suction side's blocks do for a request and return: claims, step, edit, trip, fault table, band
table, dirt (R6 to R17, R62, R69, R70, R96, R172, R173). -/

namespace Sys2Proof.Machine

/-- The claims and run demand as they stand (R6). -/
def claimsBody (s : State) : ReplyBody :=
  .claims s.drs.triggerClaim s.drs.hostClaim s.drs.record.runDemand

/-- RUN START (R6). A refusal carries what R176 lets a refusal carry, DOCKED the status alone and INHIBITED its cause; the
claims and run demand that R6 gives the replies stand in the OK reply (DESIGN CHOICE, log 48; R6, R176). -/
def serveRunStart (s : State) : Served :=
  match firstInhibit s with
  | some .docked => refuse .docked s
  | some i => answered .inhibited (.cause i) s
  | none =>
    let t := demandRefresh (s.setDrs { s.drs with hostClaim := true })
    answered .ok (claimsBody t) t

/-- RUN STOP (R6). -/
def serveRunStop (s : State) : Served :=
  let t := demandRefresh (s.setDrs { s.drs with hostClaim := false })
  answered .ok (claimsBody t) t

/-- The step of a code (R9). -/
def Step.ofCode (n : Nat) : Option Step :=
  match n with
  | 0 => some .eco
  | 1 => some .standard
  | 2 => some .max
  | _ => none

/-- STEP_SELECT (R9). -/
def serveStepSelect (step : Byte) (s : State) : Served :=
  match Step.ofCode step.toNat with
  | none => refuse .badValue s
  | some st =>
    let t := evaluate (s.setDrs { s.drs with step := st })
    answered .ok (.step st t.drs.record.sReq t.drs.record.iC) t

/-- EDIT_BEGIN (R12). -/
def serveEditBegin (label : Byte) (s : State) : Served :=
  match s.drs.edit with
  | some e => answered .editOpen (.label e.label) s
  | none =>
    answered .ok (.label label)
      (s.setDrs { s.drs with edit := some { profile := s.drs.profile, label := label, timer := 0 } })

/-- The fields of one step (R10). -/
inductive StepField where
  | speed
  | limit
  | boostEnable
  | boostMax
  deriving DecidableEq, Repr

/-- The fields of a profile (R10). -/
inductive ProfileField where
  | step (s : Step) (f : StepField)
  | boostThreshold
  | boostSlope
  | upRate
  | downRate
  | blockedSpeed
  deriving DecidableEq, Repr

/-- The field with an identifier (R10). -/
def ProfileField.ofId (n : Nat) : Option ProfileField :=
  match n with
  | 0x00 => some (.step .eco .speed)
  | 0x01 => some (.step .eco .limit)
  | 0x02 => some (.step .eco .boostEnable)
  | 0x03 => some (.step .eco .boostMax)
  | 0x04 => some (.step .standard .speed)
  | 0x05 => some (.step .standard .limit)
  | 0x06 => some (.step .standard .boostEnable)
  | 0x07 => some (.step .standard .boostMax)
  | 0x08 => some (.step .max .speed)
  | 0x09 => some (.step .max .limit)
  | 0x0A => some (.step .max .boostEnable)
  | 0x0B => some (.step .max .boostMax)
  | 0x10 => some .boostThreshold
  | 0x11 => some .boostSlope
  | 0x12 => some .upRate
  | 0x13 => some .downRate
  | 0x14 => some .blockedSpeed
  | _ => none

/-- The range of a field (R10). -/
def ProfileField.range : ProfileField → Int × Int
  | .step _ .speed => (20000, 125000)
  | .step _ .limit => (2000, 35000)
  | .step _ .boostEnable => (0, 1)
  | .step _ .boostMax => (0, 40000)
  | .boostThreshold => (0, 255)
  | .boostSlope => (0, 1000)
  | .upRate => (1, 200)
  | .downRate => (1, 400)
  | .blockedSpeed => (20000, 60000)

/-- boost enable is an enumeration; every other field is numeric (R13). -/
def ProfileField.isFlag : ProfileField → Bool
  | .step _ .boostEnable => true
  | _ => false

/-- One step's settings with a field written. -/
def StepSettings.write (f : StepField) (v : Nat) (x : StepSettings) : StepSettings :=
  match f with
  | .speed => { x with speed := v }
  | .limit => { x with limit := v }
  | .boostEnable => { x with boostEnable := decide (v ≠ 0) }
  | .boostMax => { x with boostMax := v }

/-- A profile with a field written (R13). -/
def Profile.write (f : ProfileField) (v : Nat) (p : Profile) : Profile :=
  match f with
  | .step .eco g => { p with eco := p.eco.write g v }
  | .step .standard g => { p with standard := p.standard.write g v }
  | .step .max g => { p with max := p.max.write g v }
  | .boostThreshold => { p with boostThreshold := v }
  | .boostSlope => { p with boostSlope := v }
  | .upRate => { p with upRate := v }
  | .downRate => { p with downRate := v }
  | .blockedSpeed => { p with blockedSpeed := v }

/-- EDIT_SET (R13). -/
def serveEditSet (field : Byte) (value : BitVec 32) (s : State) : Served :=
  match s.drs.edit with
  | none => answered .editClosed (.aborted s.drs.lastAbort) s
  | some e =>
    match ProfileField.ofId field.toNat with
    | none => refuse .unknownId s
    | some f =>
      if f.isFlag ∧ value.toInt ≠ 0 ∧ value.toInt ≠ 1 then refuse .badValue s
      else
        let v := clampNat f.range.1.toNat f.range.2.toNat value.toInt
        answered (if (v : Int) = value.toInt then .ok else .clamped) (.field field v)
          (s.setDrs { s.drs with edit := some { e with profile := e.profile.write f v, timer := 0 } })

/-- EDIT_COMMIT (R14). -/
def serveEditCommit (s : State) : Served :=
  match s.drs.edit with
  | none => answered .editClosed (.aborted s.drs.lastAbort) s
  | some e =>
    match firstFailure e.profile with
    | some c => answered .inconsistent (.failed c e.label) s
    | none =>
      answered .ok (.label e.label) (evaluate (s.setDrs { s.drs with profile := e.profile, edit := none }))

/-- EDIT_ABORT (R15). -/
def serveEditAbort (s : State) : Served :=
  match s.drs.edit with
  | none => answered .editClosed (.aborted s.drs.lastAbort) s
  | some e =>
    answered .ok (.label e.label) (s.setDrs { s.drs with edit := none, lastAbort := ⟨.host, e.label⟩ })

/-- PROFILE_READ (R10). -/
def serveProfileRead (s : State) : Served :=
  answered .ok (.profile s.drs.profile (s.drs.edit.map (·.label))) s

/-- TRIP_CLEAR (R172). -/
def serveTripClear (s : State) : Served :=
  if s.mdr.state ≠ .tripped then answered .wrongState (.motor s.mdr.state) s
  else if inverterHot s then answered .inhibited (.hot .invHot s.mdr.tInv s.pkm.packT) s
  else if packHot s then answered .inhibited (.hot .packHot s.mdr.tInv s.pkm.packT) s
  else answered .ok (.trip s.fmg.trip) (demandRefresh (clearTrip .host s))

/-- FAULT_READ's values (R173). -/
def faultReport (f : Fmg) : FaultReport :=
  { trip := f.trip, syncLoss := f.syncLoss, blockagePersist := f.blockagePersist
    sensorBlocked := f.sensorBlocked, linkErr := f.linkErr, strict := f.strict, table := f.table }

/-- FAULT_READ (R173). -/
def serveFaultRead (clearCounts : Byte) (s : State) : Served :=
  if 1 < clearCounts.toNat then refuse .badValue s
  else
    answered .ok (.faults (faultReport s.fmg))
      (if clearCounts.toNat = 1 then
        s.setFmg { s.fmg with table := s.fmg.table.map fun e => { e with count := 0 } }
      else s)

/-- The table mode of a code (R62). -/
def TableMode.ofCode (n : Nat) : Option TableMode :=
  match n with
  | 0 => some .off
  | 1 => some .on
  | 2 => some .locked
  | _ => none

/-- BAND_MODE (R62). -/
def serveBandMode (mode : Byte) (s : State) : Served :=
  match TableMode.ofCode mode.toNat with
  | none => refuse .badValue s
  | some m => answered .ok (.tableMode m) (s.setSbt { s.sbt with mode := m })

/-- BAND_CLEAR (R69). -/
def serveBandClear (s : State) : Served :=
  if s.sbt.clearTimer.isSome then refuse .busy s
  else answered .ok .empty (s.setSbt { s.sbt with clearTimer := some 0 })

/-- BAND_READ (R70). -/
def serveBandRead (index : Byte) (s : State) : Served :=
  if 15 < index.toNat then refuse .badValue s
  else if s.sbt.clearTimer.isSome then refuse .busy s
  else answered .ok (.band (bandAt s.sbt index.toNat) s.sbt.mode s.sbt.clearTimer.isSome) s

/-- An entry as BAND_WRITE leaves it (R70). -/
def writtenBand (advance loadRef : Nat) (adv load : Bool) (e : Band) : Band :=
  { advance := advance, advValid := adv, loadRef := some loadRef, loadValid := load
    samples := if adv || load then 32 else e.samples, steps := 0 }

/-- BAND_WRITE (R70). The OK reply carries the advance and load_ref too, as the CLAMPED one does (DESIGN CHOICE, log 46;
R70, R176). -/
def serveBandWrite (index advance : Byte) (loadRef : BitVec 16) (flags : Byte) (s : State) : Served :=
  if 4 ≤ flags.toNat then refuse .malformed s
  else if 15 < index.toNat then refuse .badValue s
  else if s.sbt.clearTimer.isSome then refuse .busy s
  else
    let a := min 60 advance.toNat
    let l := min 40000 loadRef.toNat
    let ok := decide (a = advance.toNat) && decide (l = loadRef.toNat)
    answered (if ok then .ok else .clamped) (.bandWritten a l)
      (s.setSbt (putBand s.sbt index.toNat
        (writtenBand a l (flags.getLsbD 0) (flags.getLsbD 1) (bandAt s.sbt index.toNat))))

/-- DIRT_READ's values (R96). -/
def dirtReport (s : State) : DirtReport :=
  { seq := s.dse.seq, a := s.dse.lastA, c := s.dse.lastC, n := s.dse.lastN, sw := s.dse.lastSw
    opt := s.dse.lastOpt, ac := s.dse.lastAc, baseline := s.dse.baseline, working := s.dse.working
    optical := s.dse.optical, mode := s.dirtPar.mode, settle := s.dse.settle, kills := s.dse.kills
    recoveries := s.dse.recoveries, acoustic := s.dse.acoustic, d := s.dse.d, index := s.dse.index
    level := s.dse.level, hold := s.dse.hold, db := s.dse.db }

/-- DIRT_READ (R96). -/
def serveDirtRead (s : State) : Served := answered .ok (.dirt (dirtReport s)) s

end Sys2Proof.Machine
end

