-- ==== Sys2Proof/Machine/HostLine.lean ====
section
/-! DEFINITION. The host line: frames completed, discarded, assembled byte by byte, and the end of a transmission (R174 to R178). -/

namespace Sys2Proof.Machine

/-! ### The request catalogue (12.6) -/

/-- The action of CHARGE_CONTROL (R139). -/
def serveChargeControl (action : Byte) (s : State) : Served :=
  match action.toNat with
  | 0 => serveChargeEnable s
  | 1 => serveChargeDisable s
  | 2 => serveChargePause s
  | 3 => serveChargeResume s
  | 4 => serveChargeClear s
  | _ => refuse .badValue s

/-- A kind of the request catalogue (12.6). -/
def knownKind (kind : Nat) : Bool :=
  (decide (1 ≤ kind) && decide (kind ≤ 8)) || (decide (0x10 ≤ kind) && decide (kind ≤ 0x19)) ||
    (decide (0x20 ≤ kind) && decide (kind ≤ 0x24)) || (decide (0x28 ≤ kind) && decide (kind ≤ 0x2E)) ||
    (decide (0x30 ≤ kind) && decide (kind ≤ 0x32))

/-- The owning block's handling of a request with its payload; `none` where the payload has another length than the
catalogue gives. RESET with LEN 0 is taken before it comes here (R176, R177, 12.6). -/
def requestServed (kind : Nat) (payload : List Byte) : Option (State → Served) :=
  match kind, payload with
  | 0x01, [] => some serveIdentify
  | 0x02, [] => some serveStatus
  | 0x03, [id] => some (serveGetParam id)
  | 0x04, [id, a, b, c, d] => some (serveSetParam id (word32 a b c d))
  | 0x05, [a, b] => some (serveNoticeMask (word16 a b))
  | 0x07, [] => some serveSleep
  | 0x08, [] => some serveShip
  | 0x10, [] => some serveRunStart
  | 0x11, [] => some serveRunStop
  | 0x12, [st] => some (serveStepSelect st)
  | 0x13, [l] => some (serveEditBegin l)
  | 0x14, [f, a, b, c, d] => some (serveEditSet f (word32 a b c d))
  | 0x15, [] => some serveEditCommit
  | 0x16, [] => some serveEditAbort
  | 0x17, [] => some serveProfileRead
  | 0x18, [] => some serveTripClear
  | 0x19, [c] => some (serveFaultRead c)
  | 0x20, [m] => some (serveBandMode m)
  | 0x21, [] => some serveBandClear
  | 0x22, [i] => some (serveBandRead i)
  | 0x23, [i, a, l, h, f] => some (serveBandWrite i a (word16 l h) f)
  | 0x24, [] => some serveDirtRead
  | 0x28, [] => some serveCellRead
  | 0x29, [] => some serveCellResetMinmax
  | 0x2A, [] => some serveGaugeRead
  | 0x2B, [a, b] => some (serveGaugeAdjust (word16 a b))
  | 0x2C, [a] => some (serveChargeControl a)
  | 0x2D, [] => some serveChargeRead
  | 0x2E, [] => some serveDockRead
  | 0x30, [k, src, a, b, c, d, o, st] => some (serveCounterSetup k src (word32 a b c d) o st)
  | 0x31, [] => some serveCounterRead
  | 0x32, [k, a, b, c, d] => some (serveCounterAdjust k (word32 a b c d))
  | _, _ => none

/-- A request that is taken, by its kind and payload: UNKNOWN_KIND, MALFORMED, or its owning block (R176). -/
def serveFrame (kind : Byte) (payload : List Byte) (s : State) : Served :=
  if knownKind kind.toNat then
    match requestServed kind.toNat payload with
    | some f => f s
    | none => refuse .malformed s
  else refuse .unknownKind s

/-! ### Frames -/

/-- A well-formed frame dispatched: RESET with LEN 0 is exempt from R176's order (R176, R177). -/
def dispatchFrame (kind tag : Byte) (payload : List Byte) (s : State) : State :=
  if kind = 0x06#8 ∧ payload = [] then resetRequest tag s
  else judgeRequest kind tag (serveFrame kind payload) s

/-- HOST_FRAME_RECEIVED (R176): a frame that completes with none of the faults of R175. One whose kind or length the
receiver would have refused is discarded with that reason. -/
def execHostFrameReceived (kind tag : Byte) (payload : List Byte) (s : State) : Host.Outcome State Fault Refusal :=
  .next
    (if s.slc.power = .ship then s
    else if kind = 0x06#8 ∧ payload = [] then whilePowered (resetRequest tag) s
    else if 60 < payload.length then onHostFrame (discardFrame .length) s
    else if kind.toNat = 0 ∨ 0x3F < kind.toNat then onHostFrame (discardFrame .kind) s
    else onRequest kind tag (serveFrame kind payload) s)

/-- HOST_FRAME_DISCARD (R175). -/
def execHostFrameDiscard (reason : DiscardReason) (s : State) : Host.Outcome State Fault Refusal :=
  .next (onHostFrame (discardFrame reason) s)

/-- HOST_FRAME_GAP: more than 5 ms without a byte. No byte is received, so the part is not woken by it (R175). -/
def execHostFrameGap (s : State) : Host.Outcome State Fault Refusal :=
  .next (whilePowered (fun t => idleZero (discardFrame .gap (beginTransmission t))) s)

/-! ### Bytes -/

/-- A frame that has its CRC byte: compared, then dispatched (R175). The bytes are LEN, KIND, TAG, payload, CRC. -/
def completeFrame (bytes : List Byte) (s : State) : State :=
  match bytes with
  | l :: k :: tag :: rest =>
    let n := l.toNat
    if crc8 (l :: k :: tag :: rest.take n) = rest.getD n 0#8 then
      dispatchFrame k tag (rest.take n) (toHunt s)
    else discardFrame .crc s
  | _ => s

/-- A byte of a frame, with its stop bit, judged as it arrives (R175). -/
def frameByte (bytes : List Byte) (s : State) : State :=
  match bytes with
  | [l] =>
    if 60 < l.toNat then discardFrame .length s else s.setMpt { s.mpt with rxBytes := bytes, rxGap := 0 }
  | [_, k] =>
    if k.toNat = 0 ∨ 0x3F < k.toNat then discardFrame .kind s
    else s.setMpt { s.mpt with rxBytes := bytes, rxGap := 0 }
  | [_, _, _] => s.setMpt { s.mpt with rx := .body, rxBytes := bytes, rxGap := 0 }
  | l :: _ =>
    if l.toNat + 4 ≤ bytes.length then completeFrame bytes s
    else s.setMpt { s.mpt with rxBytes := bytes, rxGap := 0 }
  | [] => s

/-- The receiver takes a byte (R175). -/
def receiveByte (byte : Byte) (stopBit : Bool) (s : State) : State :=
  match s.mpt.rx with
  | .hunt =>
    if stopBit ∧ byte = 0xC3#8 then s.setMpt { s.mpt with rx := .header, rxBytes := [], rxGap := 0 } else s
  | _ => if stopBit then frameByte (s.mpt.rxBytes ++ [byte]) s else discardFrame .framing s

/-- A byte that completed or discarded its frame is link activity (R175, R184). -/
def linkActivity (before after : State) : State :=
  if before.mpt.rx ≠ .hunt ∧ after.mpt.rx = .hunt then idleZero after else after

/-- LINK_WAKE: the byte wakes the part from SLEEP and is assembled in ON; with the part ON it is the receiver's next
byte (R175, R185). A frame half received when SLEEP was entered, and not yet discarded for its gap, goes on with the waking
byte (DESIGN CHOICE, log 36). -/
def execLinkWake (byte : Byte) (stopBit : Bool) (s : State) : Host.Outcome State Fault Refusal :=
  .next (whilePowered (fun t =>
    let u := beginTransmission (wakeIfAsleep .link t)
    linkActivity u (receiveByte byte stopBit u)) s)

/-! ### The end of a transmission -/

/-- The last byte of a reply has been sent: it leaves the queue; the request it answers is no longer outstanding, and
an entry that awaited it is made. The reply of an OVERLAP answers no outstanding request. The entry is made before the
transmitter, free again, could start the next frame, which SLEEP then holds (DESIGN CHOICE, log 50; R176, R178, R184). -/
def replyEnded (r : Reply) (s : State) : State :=
  let t := s.setMpt { s.mpt with tx := none, replies := s.mpt.replies.tail }
  if r.status = .overlap then t else makeEntry (t.setMpt { t.mpt with outstanding := none })

/-- TRANSMIT_END (R178). -/
def execTransmitEnd (s : State) : Host.Outcome State Fault Refusal :=
  .next (whilePowered (fun t =>
    match t.mpt.tx with
    | some (.reply r) => replyEnded r t
    | some (.notice _) => t.setMpt { t.mpt with tx := none }
    | none => t) s)

end Sys2Proof.Machine
end

