-- ==== Sys2Proof/Machine/LinkCommands.lean ====
section
/-! DEFINITION. The requests of the Message Link and the Sleep Controller. -/

namespace Sys2Proof.Machine

/-- IDENTIFY (R183). -/
def execIdentify (tag : Byte) (s : State) : Host.Outcome State Fault Refusal :=
  .next (onRequest 0x01#8 tag (serveIdentify) s)

/-- STATUS (R182). -/
def execStatus (tag : Byte) (s : State) : Host.Outcome State Fault Refusal :=
  .next (onRequest 0x02#8 tag (serveStatus) s)

/-- GET_PARAM (R181). -/
def execGetParam (tag : Byte) (id : Byte) (s : State) : Host.Outcome State Fault Refusal :=
  .next (onRequest 0x03#8 tag (serveGetParam id) s)

/-- SET_PARAM (R181). -/
def execSetParam (tag : Byte) (id : Byte) (value : BitVec 32) (s : State) : Host.Outcome State Fault Refusal :=
  .next (onRequest 0x04#8 tag (serveSetParam id value) s)

/-- SET_PARAM of triggerMode, id 0x72 (R3). -/
def execSetTriggerMode (tag : Byte) (value : BitVec 32) (s : State) : Host.Outcome State Fault Refusal :=
  .next (onRequest 0x04#8 tag (serveSetKnown 0x72#8 .triggerMode value) s)

/-- SET_PARAM of opticalMode, id 0x57 (R87). -/
def execSetOpticalMode (tag : Byte) (value : BitVec 32) (s : State) : Host.Outcome State Fault Refusal :=
  .next (onRequest 0x04#8 tag (serveSetKnown 0x57#8 .opticalMode value) s)

/-- SET_PARAM of emitterCurrent, id 0x52 (R88). -/
def execSetEmitterCurrent (tag : Byte) (value : BitVec 32) (s : State) : Host.Outcome State Fault Refusal :=
  .next (onRequest 0x04#8 tag (serveSetKnown 0x52#8 .emitterCurrent value) s)

/-- SET_PARAM of emitterCarrier, id 0x51 (R88). -/
def execSetEmitterCarrier (tag : Byte) (value : BitVec 32) (s : State) : Host.Outcome State Fault Refusal :=
  .next (onRequest 0x04#8 tag (serveSetKnown 0x51#8 .emitterCarrier value) s)

/-- SET_PARAM of fullCapacity, id 0x3B (R121). -/
def execSetFullCapacity (tag : Byte) (value : BitVec 32) (s : State) : Host.Outcome State Fault Refusal :=
  .next (onRequest 0x04#8 tag (serveSetKnown 0x3B#8 .fullCapacity value) s)

/-- SET_PARAM of idleSleepS, id 0x70 (R184). -/
def execSetIdleSleepS (tag : Byte) (value : BitVec 32) (s : State) : Host.Outcome State Fault Refusal :=
  .next (onRequest 0x04#8 tag (serveSetKnown 0x70#8 .idleSleepS value) s)

/-- SET_PARAM of reserve, id 0x36 (R114). -/
def execSetReserve (tag : Byte) (value : BitVec 32) (s : State) : Host.Outcome State Fault Refusal :=
  .next (onRequest 0x04#8 tag (serveSetKnown 0x36#8 .reserve value) s)

/-- NOTICE_MASK (R180). -/
def execNoticeMask (tag : Byte) (enables : BitVec 16) (s : State) : Host.Outcome State Fault Refusal :=
  .next (onRequest 0x05#8 tag (serveNoticeMask enables) s)

/-- RESET: a RESET frame with LEN 0 is taken whatever the state of the Message Port, in every power state but SHIP
(R177, R187). -/
def execReset (tag : Byte) (s : State) : Host.Outcome State Fault Refusal :=
  .next (whilePowered (resetRequest tag) s)

/-- SLEEP (R184). -/
def execSleep (tag : Byte) (s : State) : Host.Outcome State Fault Refusal :=
  .next (onRequest 0x07#8 tag (serveSleep) s)

/-- SHIP (R186). -/
def execShip (tag : Byte) (s : State) : Host.Outcome State Fault Refusal :=
  .next (onRequest 0x08#8 tag (serveShip) s)

end Sys2Proof.Machine
end

