-- ==== Sys2Proof/Machine/MotorCommands.lean ====
section
/-! DEFINITION. The events of the Motor Drive: the timers of a start, crossings, commutations, windows, the comparator (R25 to R41). -/

namespace Sys2Proof.Machine

/-! ### The start -/

/-- PRECHECK's 5 ms have passed: the decision, held while T_INV has not been measured (R29). -/
def precheckEnd (s : State) : State :=
  if s.mdr.state = .precheck then
    match s.mdr.tInv with
    | some t => precheckDecide t s
    | none => s.setMdr { s.mdr with precheckHeld := true }
  else s

/-- PRECHECK_END (R29). -/
def execPrecheckEnd (s : State) : Host.Outcome State Fault Refusal :=
  .next (whilePowered (fun t =>
    precheckEnd t) s)

/-- ALIGN_END (R30). -/
def execAlignEnd (s : State) : Host.Outcome State Fault Refusal :=
  .next (whilePowered (fun t =>
    if t.mdr.state = .align then motorTo .ramp .aligned false t else t) s)

/-- The ramp speed (R31). -/
def rampSpeed (inc : BitVec 16) : Nat := inc.toNat * 1200000 / 65536

/-- The sector of a ramp angle (R31). -/
def rampSector (angle : BitVec 16) : Nat := angle.toNat * 6 / 65536

/-- The end of a ramp sector: its period is appended, a sector without a crossing clears the count, and the next
sector's pair is driven, with blank_frac as it now stands (R31, R32, R44). -/
def rampCommutated (blankFrac sector : Nat) (m : Mdr) : Mdr :=
  { m with sector := sector, gates := some sector, ts := m.rampTicks * 400, blankFrac := blankFrac
           periods := appendPeriod (m.rampTicks * 400) m.periods
           crossings := if m.seen then m.crossings else 0
           rampTicks := 0, rampFirst := false, seen := false, windowShut := false }

/-- A ramp tick (R31). -/
def rampTicked (blankFrac : Nat) (m : Mdr) : Mdr :=
  let n := { m with rampAngle := m.rampAngle + m.rampInc, rampTicks := m.rampTicks + 1 }
  if rampSector n.rampAngle = n.sector then n else rampCommutated blankFrac (rampSector n.rampAngle) n

/-- RAMP_TICK (R31, R32). -/
def execRampTick (s : State) : Host.Outcome State Fault Refusal :=
  .next (whilePowered (fun t =>
    if t.mdr.state = .ramp then t.setMdr (rampTicked t.motorPar.blankFrac t.mdr) else t) s)

/-- The increment grows; above handover_speed × 3 / 2 the attempt fails (R31, R33). -/
def rampAccelerated (s : State) : State :=
  let inc := s.mdr.rampInc + BitVec.ofNat 16 s.motorPar.rampAccel
  let t := s.setMdr { s.mdr with rampInc := inc, speed := rampSpeed inc }
  if t.motorPar.handoverSpeed * 3 / 2 < rampSpeed inc then startFail .rampOverspeed t else t

/-- RAMP_ACCEL_TICK (R31, R33). -/
def execRampAccelTick (s : State) : Host.Outcome State Fault Refusal :=
  .next (whilePowered (fun t =>
    if t.mdr.state = .ramp then rampAccelerated t else t) s)

/-- RAMP_TIMEOUT (R33). -/
def execRampTimeout (s : State) : Host.Outcome State Fault Refusal :=
  .next (whilePowered (fun t =>
    if t.mdr.state = .ramp then demandRefresh (startFail .rampTimeout t) else t) s)

/-- RESTART_WAIT_END (R36). -/
def execRestartWaitEnd (s : State) : Host.Outcome State Fault Refusal :=
  .next (whilePowered (fun t =>
    if t.mdr.state = .restartWait then motorTo .align .aligned false t else t) s)

/-! ### Crossings -/

/-- A crossing in COAST: below stop speed COAST ends (R38). -/
def coastCrossing (sector t : Nat) (s : State) : State :=
  let kind := sequenceKind sector s.mdr
  let u := s.setMdr (observeCrossing sector t s.mdr)
  if kind = .broken ∨ (kind = .next ∧ stopInterval < t) then coastEnd .slowed u else u

/-- A crossing in CATCH later than Ts × 3 / 2 after the previous one, with Ts the last interval (R37). -/
def catchLate (t : Nat) (m : Mdr) : Bool :=
  match m.lastInterval with
  | some ts => decide (windowCloseTime ts < t)
  | none => false

/-- A crossing in CATCH. One that is both out of sequence and later than Ts × 3 / 2, with no CATCH_CROSSING_TIMEOUT taken
before it, counts as out of sequence: it starts nothing, and the next crossing starts the sequence anew (DESIGN CHOICE,
log 14; R37). -/
def catchCrossing (sector t : Nat) (s : State) : State :=
  if sequenceKind sector s.mdr = .broken then s.setMdr (restartCatch s.mdr)
  else if catchLate t s.mdr then s.setMdr (startSequence sector (restartCatch s.mdr))
  else
    let m := observeCrossing sector t s.mdr
    let u := s.setMdr { m with catchLimit := if 6 ≤ m.crossings then none else m.catchLimit }
    if 12 ≤ m.crossings then enterRunCaught u else u

/-- A crossing seen in a ramp sector's window; the twelfth at or above handover_speed enters HANDOVER (R32, R34). -/
def rampCrossing (t d : Nat) (s : State) : State :=
  let n := min 12 (s.mdr.crossings + 1)
  let u := s.setMdr { s.mdr with seen := true, windowShut := true, crossings := n }
  if 12 ≤ n ∧ u.motorPar.handoverSpeed ≤ rampSpeed u.mdr.rampInc then enterHandover t d u else u

/-- A crossing seen in a HANDOVER window; the sixth is the first of RUN (R34, R35). -/
def handoverCrossing (t d : Nat) (s : State) : State :=
  let u := s.setMdr { s.mdr with handoverCount := s.mdr.handoverCount + 1 }
  scheduleCrossing t d (if 6 ≤ u.mdr.handoverCount then enterRun u else u)

/-- A crossing by the state of the motor; a crossing outside the open window of a driven sector is ignored (R25, R26,
R32 to R38). -/
def crossing (phase : Phase) (rising : Bool) (t d : Nat) (s : State) : State :=
  let sector := sectorNamed phase rising
  let open' := inWindow s.mdr phase rising t d
  match s.mdr.state with
  | .precheck => s.setMdr (observeCrossing sector t s.mdr)
  | .catching => catchCrossing sector t s
  | .coast => coastCrossing sector t s
  | .ramp => if open' ∧ ¬ s.mdr.rampFirst then rampCrossing t d s else s
  | .handover => if open' then handoverCrossing t d s else s
  | .run => if open' then scheduleCrossing t d s else s
  | _ => s

/-- BEMF_CROSSING (R25, R26, R32, R34, R35, R37, R38). -/
def execBemfCrossing (phase : Phase) (rising : Bool) (t d : Nat) (s : State) : Host.Outcome State Fault Refusal :=
  .next (whilePowered (fun u =>
    crossing phase rising t d u) s)

/-- The scheduled commutation, in HANDOVER and RUN (R26, R28). -/
def scheduledCommutation (im : Int) (s : State) : State :=
  if s.mdr.state = .handover ∨ s.mdr.state = .run then
    match s.mdr.schedule with
    | some p => commutate p im s
    | none => s
  else s

/-- COMMUTATION (R26, R28, R46). -/
def execCommutation (im : Int) (s : State) : Host.Outcome State Fault Refusal :=
  .next (whilePowered (fun t =>
    scheduledCommutation im t) s)

/-- A window of RUN closes with no crossing: the commutation at window close, the miss, and SYNC_LOSS on the sixth
(R27). -/
def missedCrossing (im : Int) (s : State) : State :=
  let t := commutate (windowCloseTime s.mdr.ts) im s
  let u := t.setMdr { t.mdr with misses := t.mdr.misses + 1 }
  if 6 ≤ u.mdr.misses then demandRefresh (raiseSyncLoss u) else u

/-- A window closes with no crossing (R27, R32, R35). -/
def windowClosed (im : Int) (s : State) : State :=
  if s.mdr.seen then s
  else
    match s.mdr.state with
    | .ramp => s.setMdr { s.mdr with windowShut := true }
    | .handover => demandRefresh (startFail .handoverMiss s)
    | .run => missedCrossing im s
    | _ => s

/-- WINDOW_CLOSE (R27, R35, R39). -/
def execWindowClose (im : Int) (s : State) : Host.Outcome State Fault Refusal :=
  .next (whilePowered (fun t =>
    windowClosed im t) s)

/-- CATCH_LIMIT_EXPIRY (R37). -/
def execCatchLimitExpiry (s : State) : Host.Outcome State Fault Refusal :=
  .next (whilePowered (fun t =>
    if t.mdr.state = .catching ∧ t.mdr.catchLimit.isSome then motorTo .coast .catchFail true t else t) s)

/-- 26,667 ticks without a crossing: the rotor is below stop speed, which ends COAST (R25, R38). -/
def rotorStopped (s : State) : State :=
  let t := s.setMdr { s.mdr with quiet := true, speed := 0 }
  match s.mdr.state with
  | .coast => coastEnd .slowed t
  | .precheck => t
  | .catching => t
  | _ => s

/-- ROTOR_STOP_TIMEOUT (R25, R38). -/
def execRotorStopTimeout (s : State) : Host.Outcome State Fault Refusal :=
  .next (whilePowered (fun t =>
    rotorStopped t) s)

/-- COAST_TIMEOUT (R38). -/
def execCoastTimeout (s : State) : Host.Outcome State Fault Refusal :=
  .next (whilePowered (fun t =>
    if t.mdr.state = .coast then coastEnd .coastTimeout t else t) s)

/-- CATCH_CROSSING_TIMEOUT: the crossing expected within Ts × 3 / 2, with Ts the last interval, has not come (R37). -/
def execCatchCrossingTimeout (s : State) : Host.Outcome State Fault Refusal :=
  .next (whilePowered (fun t =>
    if t.mdr.state = .catching ∧ t.mdr.lastInterval.isSome then t.setMdr (restartCatch t.mdr) else t) s)

/-- The inverter current comparator trips in a state in which it is watched: STOP, or a later cause where another STOP
raised together with it was taken first (R41, R170). -/
def overcurrent (s : State) : State :=
  if motorWatched s.mdr.state then
    demandRefresh (raiseStop .ocHw (.motor s.mdr.state) (s.setMdr { s.mdr with gates := none }))
  else
    match overtakenOc s with
    | some m => raiseStop .ocHw (.motor m) s
    | none => s

/-- OC_HW (R41). -/
def execOcHw (s : State) : Host.Outcome State Fault Refusal :=
  .next (whilePowered (fun t =>
    overcurrent t) s)

end Sys2Proof.Machine
end

