-- ==== Sys2Proof/Machine/PackCommands.lean ====
section
/-! DEFINITION. The requests of the pack side. -/

namespace Sys2Proof.Machine

/-- CELL_READ (R101). -/
def execCellRead (tag : Byte) (s : State) : Host.Outcome State Fault Refusal :=
  .next (onRequest 0x28#8 tag (serveCellRead) s)

/-- CELL_RESET_MINMAX (R101). -/
def execCellResetMinmax (tag : Byte) (s : State) : Host.Outcome State Fault Refusal :=
  .next (onRequest 0x29#8 tag (serveCellResetMinmax) s)

/-- GAUGE_READ (R123). -/
def execGaugeRead (tag : Byte) (s : State) : Host.Outcome State Fault Refusal :=
  .next (onRequest 0x2A#8 tag (serveGaugeRead) s)

/-- GAUGE_ADJUST (R122). -/
def execGaugeAdjust (tag : Byte) (delta : BitVec 16) (s : State) : Host.Outcome State Fault Refusal :=
  .next (onRequest 0x2B#8 tag (serveGaugeAdjust delta) s)

/-- CHARGE_CONTROL ENABLE (R139). -/
def execChargeEnable (tag : Byte) (s : State) : Host.Outcome State Fault Refusal :=
  .next (onRequest 0x2C#8 tag (serveChargeEnable) s)

/-- CHARGE_CONTROL DISABLE (R139). -/
def execChargeDisable (tag : Byte) (s : State) : Host.Outcome State Fault Refusal :=
  .next (onRequest 0x2C#8 tag (serveChargeDisable) s)

/-- CHARGE_CONTROL PAUSE (R139). -/
def execChargePause (tag : Byte) (s : State) : Host.Outcome State Fault Refusal :=
  .next (onRequest 0x2C#8 tag (serveChargePause) s)

/-- CHARGE_CONTROL RESUME (R139). -/
def execChargeResume (tag : Byte) (s : State) : Host.Outcome State Fault Refusal :=
  .next (onRequest 0x2C#8 tag (serveChargeResume) s)

/-- CHARGE_CONTROL CLEAR (R139). -/
def execChargeClear (tag : Byte) (s : State) : Host.Outcome State Fault Refusal :=
  .next (onRequest 0x2C#8 tag (serveChargeClear) s)

/-- CHARGE_READ (R140). -/
def execChargeRead (tag : Byte) (s : State) : Host.Outcome State Fault Refusal :=
  .next (onRequest 0x2D#8 tag (serveChargeRead) s)

/-- DOCK_READ (R157). -/
def execDockRead (tag : Byte) (s : State) : Host.Outcome State Fault Refusal :=
  .next (onRequest 0x2E#8 tag (serveDockRead) s)

/-- COUNTER_SETUP (R162). -/
def execCounterSetup (tag : Byte) (k source : Byte) (threshold : BitVec 32) (options start : Byte) (s : State) : Host.Outcome State Fault Refusal :=
  .next (onRequest 0x30#8 tag (serveCounterSetup k source threshold options start) s)

/-- COUNTER_READ (R162). -/
def execCounterRead (tag : Byte) (s : State) : Host.Outcome State Fault Refusal :=
  .next (onRequest 0x31#8 tag (serveCounterRead) s)

/-- COUNTER_ADJUST (R163). -/
def execCounterAdjust (tag : Byte) (k : Byte) (delta : BitVec 32) (s : State) : Host.Outcome State Fault Refusal :=
  .next (onRequest 0x32#8 tag (serveCounterAdjust k delta) s)

end Sys2Proof.Machine
end

