-- ==== Sys2Proof/Machine/PowerCommands.lean ====
section
/-! DEFINITION. The idle timer and the power-on resets (R184, R186, R187). -/

namespace Sys2Proof.Machine

/-- IDLE_TIMER_EXPIRY. A frame or an edge taken first has returned the timer to 0, and the expiry is void (R184). -/
def execIdleTimerExpiry (s : State) : Host.Outcome State Fault Refusal :=
  .next (whilePowered (fun t =>
    if idleRuns t ∧ t.idleSleepS ≠ 0 ∧ t.idleSleepS * 1000 ≤ t.slc.idle then enterSleep t else t) s)

/-- POWER_ON: the connection of the pack (R187). -/
def execPowerOn (s : State) : Host.Outcome State Fault Refusal := .next (powerReset .powerOn s)

/-- BROWNOUT: the internal supply falls below its hold level while powered; in SHIP the supply is off (R186, R187). -/
def execBrownout (s : State) : Host.Outcome State Fault Refusal :=
  .next (if s.slc.power = .ship then s else powerReset .brownout s)

/-- SHIP_WAKE: a contact voltage above the threshold in SHIP; the dock is there, so SETTLING begins with the start-up (R186,
R187). -/
def execShipWake (s : State) : Host.Outcome State Fault Refusal :=
  .next (if s.slc.power = .ship then powerReset .shipWake (s.setDlk { s.dlk with contact := true }) else s)

end Sys2Proof.Machine
end

