-- ==== Sys2Proof/Machine/ScanCommands.lean ====
section
/-! DEFINITION. The start of a scan, its seventh cell, its end (R98 to R100). -/

namespace Sys2Proof.Machine

/-- SCAN_START (R98, R99). A scan in progress runs to its end, and a change of the interval taken first that has moved the
next start to a later moment has made this one void. -/
def execScanStart (s : State) : Host.Outcome State Fault Refusal :=
  .next (whilePowered (fun t =>
    startDueScan t) s)

/-- SCAN_END (R100). -/
def execScanEnd (reading : ScanReading) (s : State) : Host.Outcome State Fault Refusal :=
  .next (whilePowered (fun t =>
    scanEnd reading t) s)

/-- SEVENTH_CELL_MEASURED (R98, R113). -/
def execSeventhCellMeasured (s : State) : Host.Outcome State Fault Refusal :=
  .next (whilePowered (fun t =>
    match t.pkm.scan with
    | some sc => if sc.measuring then seventhCell sc t else t
    | none => t) s)

end Sys2Proof.Machine
end

