-- ==== Sys2Proof/Machine/SuctionCommands.lean ====
section
/-! DEFINITION. The requests of the suction side. -/

namespace Sys2Proof.Machine

/-- RUN START (R6). -/
def execRunStart (tag : Byte) (s : State) : Host.Outcome State Fault Refusal :=
  .next (onRequest 0x10#8 tag (serveRunStart) s)

/-- RUN STOP (R6). -/
def execRunStop (tag : Byte) (s : State) : Host.Outcome State Fault Refusal :=
  .next (onRequest 0x11#8 tag (serveRunStop) s)

/-- STEP_SELECT (R9). -/
def execStepSelect (tag : Byte) (step : Byte) (s : State) : Host.Outcome State Fault Refusal :=
  .next (onRequest 0x12#8 tag (serveStepSelect step) s)

/-- EDIT_BEGIN (R12). -/
def execEditBegin (tag : Byte) (label : Byte) (s : State) : Host.Outcome State Fault Refusal :=
  .next (onRequest 0x13#8 tag (serveEditBegin label) s)

/-- EDIT_SET (R13). -/
def execEditSet (tag : Byte) (field : Byte) (value : BitVec 32) (s : State) : Host.Outcome State Fault Refusal :=
  .next (onRequest 0x14#8 tag (serveEditSet field value) s)

/-- EDIT_COMMIT (R14). -/
def execEditCommit (tag : Byte) (s : State) : Host.Outcome State Fault Refusal :=
  .next (onRequest 0x15#8 tag (serveEditCommit) s)

/-- EDIT_ABORT (R15). -/
def execEditAbort (tag : Byte) (s : State) : Host.Outcome State Fault Refusal :=
  .next (onRequest 0x16#8 tag (serveEditAbort) s)

/-- PROFILE_READ (R10). -/
def execProfileRead (tag : Byte) (s : State) : Host.Outcome State Fault Refusal :=
  .next (onRequest 0x17#8 tag (serveProfileRead) s)

/-- TRIP_CLEAR (R172). -/
def execTripClear (tag : Byte) (s : State) : Host.Outcome State Fault Refusal :=
  .next (onRequest 0x18#8 tag (serveTripClear) s)

/-- FAULT_READ (R173). -/
def execFaultRead (tag : Byte) (clearCounts : Byte) (s : State) : Host.Outcome State Fault Refusal :=
  .next (onRequest 0x19#8 tag (serveFaultRead clearCounts) s)

/-- BAND_MODE (R62). -/
def execBandMode (tag : Byte) (mode : Byte) (s : State) : Host.Outcome State Fault Refusal :=
  .next (onRequest 0x20#8 tag (serveBandMode mode) s)

/-- BAND_CLEAR (R69). -/
def execBandClear (tag : Byte) (s : State) : Host.Outcome State Fault Refusal :=
  .next (onRequest 0x21#8 tag (serveBandClear) s)

/-- BAND_READ (R70). -/
def execBandRead (tag : Byte) (index : Byte) (s : State) : Host.Outcome State Fault Refusal :=
  .next (onRequest 0x22#8 tag (serveBandRead index) s)

/-- BAND_WRITE (R70). -/
def execBandWrite (tag : Byte) (index advance : Byte) (loadRef : BitVec 16) (flags : Byte) (s : State) : Host.Outcome State Fault Refusal :=
  .next (onRequest 0x23#8 tag (serveBandWrite index advance loadRef flags) s)

/-- DIRT_READ (R96). -/
def execDirtRead (tag : Byte) (s : State) : Host.Outcome State Fault Refusal :=
  .next (onRequest 0x24#8 tag (serveDirtRead) s)

end Sys2Proof.Machine
end

