-- ==== Sys2Proof/Machine/TriggerCommands.lean ====
section
/-! DEFINITION. The trigger input, its debounce, and the edit timer (R1 to R5, R17, R171). -/

namespace Sys2Proof.Machine

/-- The TRIGGER notice of an edge (R5). -/
def raiseTriggerNotice (edge : Level) (inhibited : Bool) (cause : Option Inhibit) (s : State) : State :=
  raise (.trigger { edge := edge, mode := s.trg.mode, claim := s.drs.triggerClaim, inhibited := inhibited
                    cause := cause, rearm := s.trg.rearm }) s

/-- The trigger claim after an accepted press (R2). -/
def pressedClaim (m : TriggerMode) (claim : Bool) : Bool :=
  match m with
  | .hold => true
  | .toggle => !claim
  | .hostOnly => false

/-- The trigger claim after a release (R2). -/
def releasedClaim (m : TriggerMode) (claim : Bool) : Bool :=
  match m with
  | .toggle => claim
  | _ => false

/-- A press in ON: inhibited, with the re-arm flag pending, or accepted (R2, R4, R5). -/
def triggerPress (s : State) : State :=
  match firstInhibit s with
  | some c =>
    let t := s.setDrs { s.drs with triggerClaim := false }
    raiseTriggerNotice .pressed true (some c) (t.setTrg { t.trg with rearm := true })
  | none =>
    if s.trg.rearm then raiseTriggerNotice .pressed true none s
    else
      raiseTriggerNotice .pressed false none
        (s.setDrs { s.drs with triggerClaim := pressedClaim s.trg.mode s.drs.triggerClaim })

/-- A release clears the trip under LENIENT with no temperature cause persisting (R171). -/
def lenientClear (s : State) : State :=
  if s.mdr.state = .tripped ∧ ¬ s.fmg.strict ∧ ¬ inverterHot s ∧ ¬ packHot s then clearTrip .release s else s

/-- A release in ON; its notice carries the first inhibit present, and is raised before the lenient clear (R2, R4, R5,
R171, log 28). -/
def triggerRelease (s : State) : State :=
  let t := s.setDrs { s.drs with triggerClaim := releasedClaim s.trg.mode s.drs.triggerClaim }
  lenientClear (raiseTriggerNotice .released false (firstInhibit t) (t.setTrg { t.trg with rearm := false }))

/-- A press or release completed by the debounce. The TRIGGER notice is queued before run demand acts, so before the
MOTOR_STATE notice of a start or stop the edge causes (DESIGN CHOICE, log 28; R1, R5, R185). -/
def triggerEdge (level : Level) (s : State) : State :=
  match level with
  | .pressed => idleZero (demandRefresh (triggerPress (wakeIfAsleep .trigger s)))
  | .released =>
    if s.slc.power = .sleep then s.setTrg { s.trg with rearm := false }
    else idleZero (demandRefresh (triggerRelease s))

/-- The debounced level takes the raw level after 10 ms; the first determination after a reset is no edge (R1). -/
def debounced (s : State) : State :=
  match s.trg.debounced with
  | none =>
    s.setTrg { s.trg with
      debounced := some s.trg.raw, timer := 0, rearm := decide (s.trg.raw = .pressed) }
  | some l =>
    if l = s.trg.raw then s
    else triggerEdge s.trg.raw (s.setTrg { s.trg with debounced := some s.trg.raw, timer := 0 })

/-- TRIGGER_DEBOUNCE (R1). -/
def execTriggerDebounce (s : State) : Host.Outcome State Fault Refusal :=
  .next (whilePowered (fun t =>
    debounced t) s)

/-- The open edit's timer stands at 2,000 ms (R17). -/
def editOverdue (s : State) : Bool :=
  match s.drs.edit with
  | some e => decide (2000 ≤ e.timer)
  | none => false

/-- EDIT_TIMEOUT. A request taken first that restarted the timer or closed the edit has made the expiry void (R17). -/
def execEditTimeout (s : State) : Host.Outcome State Fault Refusal :=
  .next (whilePowered (fun t =>
    if editOverdue t then abortEdit .timeout t else t) s)

/-- TRIGGER_RAW_CHANGE: the debounce timer stands at 0 at every change of the raw level, and then runs or stays there
(R1). The pin is followed in SHIP too, where nothing senses it. -/
def execTriggerRawChange (level : Level) (s : State) : Host.Outcome State Fault Refusal :=
  .next
    (if level = s.trg.raw then whilePowered id s
    else whilePowered id (s.setTrg { s.trg with raw := level, timer := 0 }))

end Sys2Proof.Machine
end

