-- ==== Sys2Proof/Machine/Dispatch.lean ====
section
/-! DEFINITION. The dispatch: one arm for each command, one call of its meaning. -/

namespace Sys2Proof.Machine

def exec (i : Instr) (s : State) : Host.Outcome State Fault Refusal :=
  match i with
  | .identify tag => Sys2Proof.Machine.execIdentify tag s
  | .status tag => Sys2Proof.Machine.execStatus tag s
  | .getParam tag id => Sys2Proof.Machine.execGetParam tag id s
  | .setParam tag id value => Sys2Proof.Machine.execSetParam tag id value s
  | .setTriggerMode tag value => Sys2Proof.Machine.execSetTriggerMode tag value s
  | .setOpticalMode tag value => Sys2Proof.Machine.execSetOpticalMode tag value s
  | .setEmitterCurrent tag value => Sys2Proof.Machine.execSetEmitterCurrent tag value s
  | .setEmitterCarrier tag value => Sys2Proof.Machine.execSetEmitterCarrier tag value s
  | .setFullCapacity tag value => Sys2Proof.Machine.execSetFullCapacity tag value s
  | .setIdleSleepS tag value => Sys2Proof.Machine.execSetIdleSleepS tag value s
  | .setReserve tag value => Sys2Proof.Machine.execSetReserve tag value s
  | .noticeMask tag enables => Sys2Proof.Machine.execNoticeMask tag enables s
  | .reset tag => Sys2Proof.Machine.execReset tag s
  | .sleep tag => Sys2Proof.Machine.execSleep tag s
  | .ship tag => Sys2Proof.Machine.execShip tag s
  | .runStart tag => Sys2Proof.Machine.execRunStart tag s
  | .runStop tag => Sys2Proof.Machine.execRunStop tag s
  | .stepSelect tag step => Sys2Proof.Machine.execStepSelect tag step s
  | .editBegin tag label => Sys2Proof.Machine.execEditBegin tag label s
  | .editSet tag field value => Sys2Proof.Machine.execEditSet tag field value s
  | .editCommit tag => Sys2Proof.Machine.execEditCommit tag s
  | .editAbort tag => Sys2Proof.Machine.execEditAbort tag s
  | .profileRead tag => Sys2Proof.Machine.execProfileRead tag s
  | .tripClear tag => Sys2Proof.Machine.execTripClear tag s
  | .faultRead tag clearCounts => Sys2Proof.Machine.execFaultRead tag clearCounts s
  | .bandMode tag mode => Sys2Proof.Machine.execBandMode tag mode s
  | .bandClear tag => Sys2Proof.Machine.execBandClear tag s
  | .bandRead tag index => Sys2Proof.Machine.execBandRead tag index s
  | .bandWrite tag index advance loadRef flags => Sys2Proof.Machine.execBandWrite tag index advance loadRef flags s
  | .dirtRead tag => Sys2Proof.Machine.execDirtRead tag s
  | .cellRead tag => Sys2Proof.Machine.execCellRead tag s
  | .cellResetMinmax tag => Sys2Proof.Machine.execCellResetMinmax tag s
  | .gaugeRead tag => Sys2Proof.Machine.execGaugeRead tag s
  | .gaugeAdjust tag delta => Sys2Proof.Machine.execGaugeAdjust tag delta s
  | .chargeEnable tag => Sys2Proof.Machine.execChargeEnable tag s
  | .chargeDisable tag => Sys2Proof.Machine.execChargeDisable tag s
  | .chargePause tag => Sys2Proof.Machine.execChargePause tag s
  | .chargeResume tag => Sys2Proof.Machine.execChargeResume tag s
  | .chargeClear tag => Sys2Proof.Machine.execChargeClear tag s
  | .chargeRead tag => Sys2Proof.Machine.execChargeRead tag s
  | .dockRead tag => Sys2Proof.Machine.execDockRead tag s
  | .counterSetup tag k source threshold options start => Sys2Proof.Machine.execCounterSetup tag k source threshold options start s
  | .counterRead tag => Sys2Proof.Machine.execCounterRead tag s
  | .counterAdjust tag k delta => Sys2Proof.Machine.execCounterAdjust tag k delta s
  | .hostFrameReceived kind tag payload => Sys2Proof.Machine.execHostFrameReceived kind tag payload s
  | .hostFrameDiscard reason => Sys2Proof.Machine.execHostFrameDiscard reason s
  | .hostFrameGap => Sys2Proof.Machine.execHostFrameGap s
  | .linkWake byte stopBit => Sys2Proof.Machine.execLinkWake byte stopBit s
  | .transmitEnd => Sys2Proof.Machine.execTransmitEnd s
  | .triggerDebounce => Sys2Proof.Machine.execTriggerDebounce s
  | .editTimeout => Sys2Proof.Machine.execEditTimeout s
  | .precheckEnd => Sys2Proof.Machine.execPrecheckEnd s
  | .alignEnd => Sys2Proof.Machine.execAlignEnd s
  | .rampTick => Sys2Proof.Machine.execRampTick s
  | .rampAccelTick => Sys2Proof.Machine.execRampAccelTick s
  | .rampTimeout => Sys2Proof.Machine.execRampTimeout s
  | .restartWaitEnd => Sys2Proof.Machine.execRestartWaitEnd s
  | .bemfCrossing phase rising t d => Sys2Proof.Machine.execBemfCrossing phase rising t d s
  | .commutation im => Sys2Proof.Machine.execCommutation im s
  | .windowClose im => Sys2Proof.Machine.execWindowClose im s
  | .catchLimitExpiry => Sys2Proof.Machine.execCatchLimitExpiry s
  | .rotorStopTimeout => Sys2Proof.Machine.execRotorStopTimeout s
  | .coastTimeout => Sys2Proof.Machine.execCoastTimeout s
  | .ocHw => Sys2Proof.Machine.execOcHw s
  | .bandClearComplete => Sys2Proof.Machine.execBandClearComplete s
  | .blockTimerExpiry => Sys2Proof.Machine.execBlockTimerExpiry s
  | .retryTimerExpiry => Sys2Proof.Machine.execRetryTimerExpiry s
  | .clearTimerExpiry => Sys2Proof.Machine.execClearTimerExpiry s
  | .noReferenceTimerExpiry => Sys2Proof.Machine.execNoReferenceTimerExpiry s
  | .normalTimerExpiry => Sys2Proof.Machine.execNormalTimerExpiry s
  | .dirtWindowEnd amplitude level signal => Sys2Proof.Machine.execDirtWindowEnd amplitude level signal s
  | .scanStart => Sys2Proof.Machine.execScanStart s
  | .scanEnd reading => Sys2Proof.Machine.execScanEnd reading s
  | .prechargeTimeout => Sys2Proof.Machine.execPrechargeTimeout s
  | .chargeTimeout => Sys2Proof.Machine.execChargeTimeout s
  | .balanceTimeout => Sys2Proof.Machine.execBalanceTimeout s
  | .dockContactRise => Sys2Proof.Machine.execDockContactRise s
  | .dockLoss => Sys2Proof.Machine.execDockLoss s
  | .settleTimerExpiry => Sys2Proof.Machine.execSettleTimerExpiry s
  | .dockFrameSent => Sys2Proof.Machine.execDockFrameSent s
  | .dockFrameReceived bytes => Sys2Proof.Machine.execDockFrameReceived bytes s
  | .dockFrameAbandon => Sys2Proof.Machine.execDockFrameAbandon s
  | .dockReplyTimeout => Sys2Proof.Machine.execDockReplyTimeout s
  | .keepTimerExpiry => Sys2Proof.Machine.execKeepTimerExpiry s
  | .dockRetryExpiry => Sys2Proof.Machine.execDockRetryExpiry s
  | .idleTimerExpiry => Sys2Proof.Machine.execIdleTimerExpiry s
  | .powerOn => Sys2Proof.Machine.execPowerOn s
  | .brownout => Sys2Proof.Machine.execBrownout s
  | .shipWake => Sys2Proof.Machine.execShipWake s
  | .triggerRawChange level => Sys2Proof.Machine.execTriggerRawChange level s
  | .contactVoltageFall => Sys2Proof.Machine.execContactVoltageFall s
  | .dockReceptionBegin => Sys2Proof.Machine.execDockReceptionBegin s
  | .seventhCellMeasured => Sys2Proof.Machine.execSeventhCellMeasured s
  | .catchCrossingTimeout => Sys2Proof.Machine.execCatchCrossingTimeout s

end Sys2Proof.Machine
end

