-- ==== Sys2Proof/Machine/Tick.lean ====
section
/-! DEFINITION. The passing of one millisecond, which is what the part does with no command waiting (log 7): the uptime,
every timer the chapters give in ms, and the commands whose moment has come, appended to the queue. What needs a
measurement, or a moment finer than a ms, comes from outside, but for the end of a dirt window (log 51). -/

namespace Sys2Proof.Machine

/-- The debounce timer runs: the raw level differs from the debounced level, or none is established yet (R1). -/
def debounceRuns (g : Trg) : Bool := decide (g.debounced ≠ some g.raw)

/-- The debounce timer a ms later; 0..10 (R1). -/
def tickTrg (g : Trg) : Trg := { g with timer := if debounceRuns g then min 10 (g.timer + 1) else 0 }

/-- The edit timer a ms later; 0..2,000 (R17). -/
def tickDrs (d : Drs) : Drs := { d with edit := d.edit.map fun e => { e with timer := min 2000 (e.timer + 1) } }

/-- The motor states whose length is timed from their entry (R29, R30, R33, R36, R38). -/
def timedMotor (m : MotorState) : Bool :=
  match m with
  | .precheck => true
  | .align => true
  | .ramp => true
  | .restartWait => true
  | .coast => true
  | _ => false

/-- The state timer and the CATCH limit a ms later (R29 to R38). -/
def tickMdr (m : Mdr) : Mdr :=
  { m with stateTimer := if timedMotor m.state then m.stateTimer + 1 else m.stateTimer
           catchLimit := tickTimer 100 m.catchLimit }

/-- The clear timer a ms later (R69). -/
def tickSbt (t : Sbt) : Sbt := { t with clearTimer := tickTimer 2 t.clearTimer }

/-- The blockage timers a ms later (R71 to R74). -/
def tickBlm (b : Blm) : Blm :=
  { b with blockTimer := b.blockTimer.map (· + 1), retryTimer := b.retryTimer.map (· + 1)
           clearTimer := tickTimer 200 b.clearTimer, noRefTimer := tickTimer 1000 b.noRefTimer
           normalTimer := tickTimer 10000 b.normalTimer }

/-- The window timer a ms later, up to the length at which the window ends (R76). -/
def tickDse (d : Dse) : Dse :=
  { d with window := d.window.map fun w => { w with timer := min w.length (w.timer + 1) } }

/-- The charge timers a ms later, each in the states in which it counts (R130, R132, R133, R137). -/
def tickChc (c : Chc) : Chc :=
  { c with safety := if isCharging c.state then c.safety + 1 else c.safety
           precharge := if c.state = .precharge then c.precharge + 1 else c.precharge
           balance := if c.state = .balance then c.balance + 1 else c.balance
           taper := c.taper.map (· + 1) }

/-- The wait for a reply a ms later; it begins when the attempt's frame has been sent (R147). -/
def tickExchange (e : Exchange) : Exchange := { e with wait := if e.sending then e.wait else min 50 (e.wait + 1) }

/-- The dock timers a ms later (R143, R147, R151, R156). -/
def tickDlk (d : Dlk) : Dlk :=
  { d with lossTimer := tickTimer 2 d.lossTimer, settle := tickTimer 200 d.settle
           keep := d.keep.map (· + 1), retry := tickTimer 1000 d.retry, exchange := d.exchange.map tickExchange }

/-- The time since the last byte of a frame a ms later (R175). -/
def tickMpt (m : Mpt) : Mpt := { m with rxGap := if m.rx = .hunt then m.rxGap else min 6 (m.rxGap + 1) }

/-- The idle timer a ms later: within its bound while it runs, 0 otherwise (R184). -/
def tickIdle (s : State) : Nat := if idleRuns s then min (s.idleSleepS * 1000) (s.slc.idle + 1) else 0

/-- Every timer and the uptime a ms later. -/
def tickTimers (s : State) : State :=
  { s with trg := tickTrg s.trg, drs := tickDrs s.drs, mdr := tickMdr s.mdr, sbt := tickSbt s.sbt
           blm := tickBlm s.blm, dse := tickDse s.dse, chc := tickChc s.chc, dlk := tickDlk s.dlk
           mpt := tickMpt s.mpt, slc := { s.slc with idle := tickIdle s, uptime := s.slc.uptime + 1 } }

/-! ### The commands whose moment has come -/

/-- A command where its moment has come. -/
def dueIf (b : Bool) (i : Instr) : List Instr := if b then [i] else []

/-- The trigger's and the edit's (R1, R17). -/
def dueDemand (s : State) : List Instr :=
  dueIf (debounceRuns s.trg && decide (10 ≤ s.trg.timer)) .triggerDebounce ++
    dueIf (reached 2000 (s.drs.edit.map (·.timer))) .editTimeout

/-- The Motor Drive's: in RAMP twenty ramp ticks of 50 µs and then the ms tick (R29 to R38). -/
def dueMotor (s : State) : List Instr :=
  let t := s.mdr.stateTimer
  (match s.mdr.state with
  | .precheck => dueIf (decide (5 ≤ t) && !s.mdr.precheckHeld) .precheckEnd
  | .align => dueIf (decide (s.motorPar.alignTime ≤ t)) .alignEnd
  | .ramp =>
    List.replicate 20 .rampTick ++ [.rampAccelTick] ++ dueIf (decide (s.motorPar.rampTimeLimit ≤ t)) .rampTimeout
  | .restartWait => dueIf (decide (200 ≤ t)) .restartWaitEnd
  | .coast => dueIf (decide (s.motorPar.coastTimeout ≤ t)) .coastTimeout
  | _ => []) ++ dueIf (reached 100 s.mdr.catchLimit) .catchLimitExpiry

/-- The band table's and the Blockage Monitor's (R69, R71 to R74). -/
def dueBands (s : State) : List Instr :=
  dueIf (reached 2 s.sbt.clearTimer) .bandClearComplete ++
    dueIf (reached s.blockPar.blockTime s.blm.blockTimer) .blockTimerExpiry ++
    dueIf (reached s.blockPar.retryTime s.blm.retryTimer) .retryTimerExpiry ++
    dueIf (reached 200 s.blm.clearTimer) .clearTimerExpiry ++
    dueIf (reached 1000 s.blm.noRefTimer) .noReferenceTimerExpiry ++
    dueIf (reached 10000 s.blm.normalTimer) .normalTimerExpiry

/-- The Dirt Sensing Engine's: a window ends at its length. What it measured is a free value, unless a DIRT_WINDOW_END
put in front of this one in the same ms gives it (DESIGN CHOICE, log 51; R76). -/
def dueDirt (s : State) : List Instr :=
  match s.dse.window with
  | some w =>
    let n := s.slc.uptime.toNat
    dueIf (windowOver w) (.dirtWindowEnd (Config.windowAmplitude n) (Config.windowLevel n) (Config.windowSignal n))
  | none => []

/-- The Charge Controller's, each in the states in which its timer counts (R130, R133, R137). -/
def dueCharge (s : State) : List Instr :=
  dueIf (decide (s.chc.state = .precharge) && decide (minutes s.chargePar.prechargeTimeout ≤ s.chc.precharge))
      .prechargeTimeout ++
    dueIf (isCharging s.chc.state && decide (minutes s.chargePar.chargeTimeout ≤ s.chc.safety)) .chargeTimeout ++
    dueIf (decide (s.chc.state = .balance) && decide (minutes s.chargePar.balanceTimeout ≤ s.chc.balance))
      .balanceTimeout

/-- The wait of an attempt has run out (R147). -/
def replyOverdue (d : Dlk) : Bool :=
  match d.exchange with
  | some e => !e.sending && !e.expired && decide (50 ≤ e.wait)
  | none => false

/-- The Dock Link's (R143, R147, R151, R156). -/
def dueDock (s : State) : List Instr :=
  dueIf (reached 2 s.dlk.lossTimer) .dockLoss ++
    dueIf (reached 200 s.dlk.settle) .settleTimerExpiry ++
    dueIf (replyOverdue s.dlk) .dockReplyTimeout ++
    dueIf (decide (s.dlk.keep = some 1000)) .keepTimerExpiry ++
    dueIf (reached 1000 s.dlk.retry) .dockRetryExpiry

/-- The Message Port's and the Sleep Controller's (R175, R184). -/
def dueLink (s : State) : List Instr :=
  dueIf (decide (s.mpt.rx ≠ .hunt) && decide (6 ≤ s.mpt.rxGap)) .hostFrameGap ++
    dueIf (idleRuns s && decide (0 < s.idleSleepS) && decide (s.idleSleepS * 1000 ≤ s.slc.idle)) .idleTimerExpiry

/-- The commands whose moment has come, in the blocks' order. -/
def dueCommands (s : State) : List Instr :=
  dueDemand s ++ dueMotor s ++ dueBands s ++ dueDirt s ++ dueIf (scanDue s) .scanStart ++ dueCharge s ++ dueDock s ++ dueLink s

/-- One ms passes. In SHIP nothing runs (R186). What the present moment brings comes first, before the ms passes: a scan that
a change of the interval has made due, and the arrival of a dock that is there in ABSENT (R99, R143). -/
def tick (s : State) : State :=
  if s.slc.power = .ship then s
  else
    let t := tickTimers (beginTransmission (startAtOnce s))
    t.setPending (t.pending ++ dueCommands t)

end Sys2Proof.Machine
end

