-- ==== Sys2Proof/Safety.lean ====
section
/-! DEFINITION. What holds of the part at every moment between two commands: the invariants the claims are about, one
for each kind of state; what a rule makes of a value, written out from the rule for the statements; and what a request
meets when it is taken. -/

namespace Sys2Proof.Safety

open Sys2Proof.Machine

/-! ### Message Port -/

/-- No two entries of the notice queue are of one kind (R179). -/
def NoticesDistinct (m : Mpt) : Prop := (m.notices.map fun e => e.notice.index).Nodup

/-- The queue holds no entry of a kind whose notices are masked (R179, R180). -/
def NoticesEnabled (m : Mpt) : Prop := ∀ e ∈ m.notices, noticeEnabled m.enables e.notice.index = true

/-- At most two replies wait or are being sent, besides RESTARTED's bit standing in the enables (R176, R178, R180). -/
def RepliesBounded (m : Mpt) : Prop := m.replies.length ≤ 2 ∧ m.enables.getLsbD 0 = true

/-- A reply being sent is the oldest of the queue (R178). -/
def ReplyIsOldest (m : Mpt) : Prop := ∀ r, m.tx = some (.reply r) → m.replies.head? = some r

/-! ### Suction Demand -/

/-- The fields of one step lie in their ranges (R10). -/
def StepInRange (x : StepSettings) : Prop :=
  20000 ≤ x.speed ∧ x.speed ≤ 125000 ∧ 2000 ≤ x.limit ∧ x.limit ≤ 35000 ∧ x.boostMax ≤ 40000

/-- The fields of a profile lie in their ranges (R10). -/
def ProfileInRange (p : Profile) : Prop :=
  StepInRange p.eco ∧ StepInRange p.standard ∧ StepInRange p.max ∧ p.boostThreshold ≤ 255 ∧ p.boostSlope ≤ 1000 ∧
    1 ≤ p.upRate ∧ p.upRate ≤ 200 ∧ 1 ≤ p.downRate ∧ p.downRate ≤ 400 ∧ 20000 ≤ p.blockedSpeed ∧
    p.blockedSpeed ≤ 60000

/-- The profile in force passes the consistency checks, and it and the open edit lie in their ranges (R10, R11, R14). -/
def ProfileSound (d : Drs) : Prop :=
  firstFailure d.profile = none ∧ ProfileInRange d.profile ∧ ∀ e, d.edit = some e → ProfileInRange e.profile

/-- The record's values lie in their ranges, and they are the idle ones with run demand false (R18). -/
def RecordSound (r : DemandRecord) : Prop :=
  if r.runDemand then 20000 ≤ r.sReq ∧ r.sReq ≤ 125000 ∧ r.boost ≤ 40000 ∧ r.iC ≤ 35000 else r = DemandRecord.idle

/-- Run demand is what the claims and the inhibits make it (R7). -/
def DemandFollows (s : State) : Prop := s.drs.record.runDemand = wantsToRun s

/-! ### Motor Drive and Speed Regulator -/

/-- The motor states that a fall of run demand ends (R24). -/
def runningMotor (m : MotorState) : Bool := motorWatched m || decide (m = .restartWait)

/-- Run demand stands exactly while the motor runs or coasts toward a pending start, and a start is pending in COAST
alone (R24, R38). -/
def MotorFollows (s : State) : Prop :=
  (s.drs.record.runDemand = true ↔
    runningMotor s.mdr.state = true ∨ (s.mdr.state = .coast ∧ s.mdr.startPending = true)) ∧
    (s.mdr.startPending = true → s.mdr.state = .coast)

/-- The bridge is driven only in ALIGN, RAMP, HANDOVER and RUN (2.1). -/
def GatesSound (m : Mdr) : Prop :=
  m.gates.isSome = true → m.state = .align ∨ m.state = .ramp ∨ m.state = .handover ∨ m.state = .run

/-- The counts and lists of the Motor Drive lie in their ranges (2). -/
def MotorInRange (m : Mdr) : Prop :=
  m.sector ≤ 5 ∧ (∀ n, m.lastNamed = some n → n ≤ 5) ∧ m.periods.length ≤ 6 ∧ m.crossings ≤ 12 ∧ m.misses ≤ 6 ∧ m.attempts ≤ 3 ∧ m.restarts.length ≤ 2 ∧
    m.derate ≤ 35000 ∧ ∀ g, m.gates = some g → g ≤ 5

/-- The regulator's values lie under its ceiling, and the ceiling at most at full duty; the duty of RAMP, which seeds
it, lies there too (R44, R49, R51, R52, R55). -/
def RegulatorSound (s : State) : Prop :=
  s.srg.dc ≤ 4095 ∧ s.srg.duty ≤ s.srg.dc ∧ s.srg.acc ≤ s.srg.dc * 1024 ∧ s.motorPar.rampDuty ≤ 2000

/-! ### Bands, blockage, dirt -/

/-- A band entry's values lie in their ranges (4.1). -/
def BandInRange (b : Band) : Prop :=
  b.advance ≤ 60 ∧ (∀ l, b.loadRef = some l → l ≤ 40000) ∧ b.samples ≤ 255 ∧ b.steps ≤ 7

/-- Every entry of the table lies in its ranges, and so do the advance last served and the one served without an
entry (4.1, R44, R63). -/
def TableInRange (s : State) : Prop :=
  (∀ i < 16, BandInRange (bandAt s.sbt i)) ∧ s.sbt.lastAdvance ≤ 60 ∧ s.motorPar.fixedAdvance ≤ 60

/-- The monitor stands in NORMAL with every timer stopped outside RUN, and its timers run only in their states (R71 to
R74). -/
def BlockageSound (s : State) : Prop :=
  (s.mdr.state ≠ .run → s.blm.state = .normal ∧ s.blm.retries = 0 ∧ s.blm.normalTimer = none) ∧ s.blm.retries ≤ 7 ∧
    (s.blm.retryTimer.isSome = true ↔ s.blm.state = .blocked) ∧
    (s.blm.state = .suspect → s.blm.blockTimer.isSome = true) ∧
    (s.blm.blockTimer.isSome = true → s.blm.state = .suspect ∨ s.blm.state = .retrying)

/-- Windows run exactly in RUN, and outside it the engine's indices are 0 and CLEAN (R76, R77). -/
def DirtSound (s : State) : Prop :=
  (s.dse.window.isSome = true ↔ s.mdr.state = .run) ∧
    (s.mdr.state ≠ .run → s.dse.d = 0 ∧ s.dse.db = 0 ∧ s.dse.level = .clean ∧ s.dse.index = .idle)

/-- The optical channel stands in OFF exactly under FORCE_OFF, and is killed only under AUTO (R85, R87). -/
def OpticalSound (s : State) : Prop :=
  (s.dse.optical = .off ↔ s.dirtPar.mode = .forceOff) ∧ (s.dse.optical = .killed → s.dirtPar.mode = .auto) ∧
    s.dse.working ≤ 63

/-! ### Pack, gauge, charge, dock -/

/-- The gauge lies between empty and full, and its residue below a whole mAh (R116, R124). -/
def GaugeSound (g : Gge) : Prop := 500 ≤ g.f ∧ g.f ≤ 6000 ∧ g.q ≤ fullCharge g.f ∧ g.residue < 3600000

/-- The setpoint stands under the target, and is 0 where no current is drawn (R126). -/
def SetpointSound (s : State) : Prop :=
  s.chc.iSet ≤ targetCurrent s ∧ (isCharging s.chc.state = false → s.chc.iSet = 0)

/-- Beyond IDLE and QUALIFY the gates are off (R129). -/
def ChargeParked (s : State) : Prop :=
  s.chc.state ≠ .idle → s.chc.state ≠ .qualify → motorParked s.mdr.state = true

/-- No two neighbouring cells bleed, and at most three do (R138). -/
def BleedSound (set : Seven Bool) : Prop :=
  (set.toList.filter id).length ≤ 3 ∧
    ¬ (set.c1 ∧ set.c2) ∧ ¬ (set.c2 ∧ set.c3) ∧ ¬ (set.c3 ∧ set.c4) ∧ ¬ (set.c4 ∧ set.c5) ∧ ¬ (set.c5 ∧ set.c6) ∧
    ¬ (set.c6 ∧ set.c7)

/-- The bleed set is CHC's, sound, and empty outside CV and BALANCE (R113, R138). -/
def BleedFollows (s : State) : Prop :=
  s.pkm.bleedSet = s.chc.bleedSet ∧ BleedSound s.chc.bleedSet ∧
    (mayBleed s.chc.state = false → s.chc.bleedSet = Seven.replicate false)

/-- What the Dock Link holds fits its state (R142 to R156). -/
def DockSound (d : Dlk) : Prop :=
  (d.settle.isSome = true ↔ d.state = .settling) ∧ (d.keep.isSome = true ↔ d.state = .active) ∧
    (d.retry.isSome = true ↔ d.state = .lost) ∧ (d.grant.isSome = true ↔ d.state = .active) ∧
    (d.state = .absent → d.exchange = none ∧ d.offer = none ∧ d.released = false) ∧
    (d.released = true → d.state = .active → d.grant = some 0) ∧ d.misses ≤ 3 ∧
    (d.dueKeep = true → d.state = .active) ∧ ∀ q, d.dueRequest = some q → q.forKeep = true → d.state = .active

/-- Every counter's value and threshold lie within 32 bits, and its tick residue below a ms (10.1, R158, R159). -/
def CountersInRange (i : Icn) : Prop :=
  ∀ c ∈ i.counters.toList, c.value ≤ 4294967295 ∧ c.threshold ≤ 4294967295 ∧ c.residue < 8000

/-! ### Faults and power -/

/-- A trip record stands exactly while the motor is TRIPPED (R168, R172). -/
def TripFollows (s : State) : Prop := s.fmg.trip.isSome = true ↔ s.mdr.state = .tripped

/-- Without a dock nothing is charged; in SLEEP, moreover, the gates are off, no dock is there and no edit is open
(R128, R184, R185). -/
def SleepQuiet (s : State) : Prop :=
  (s.dlk.state = .absent → s.chc.state = .idle) ∧
    (s.slc.power = .sleep → motorParked s.mdr.state = true ∧ s.dlk.state = .absent ∧ s.drs.edit = none)

/-- The pack is watched at the interval of its power, motor and charge states (R99). -/
def IntervalFollows (s : State) : Prop :=
  s.slc.power ≠ .ship → s.pkm.interval = intervalOf s.slc.power s.mdr.state s.chc.state

/-- Every parameter lies in its range and within its dependencies (R181). -/
def ParamsInRange (s : State) : Prop :=
  ∀ p : Param, p.range.1 ≤ p.get s ∧ p.get s ≤ p.range.2 ∧ (∀ l, p.depLow s = some l → l ≤ p.get s) ∧
    ∀ h, p.depHigh s = some h → p.get s ≤ h

/-! ### What a rule makes of a value, written out for the statements -/

/-- CHC in QUALIFY as `c`, once the five checks of R129 have been judged: with the motor parked or not, the dock state,
the grant in force, the charge allowance, an OV flag set or not, and the lowest cell voltage against precharge_mV. -/
def qualifyJudged (parked : Bool) (dock : DockState) (grant allowance prechargeMv : Nat) (ov : Bool)
    (low : Option Nat) (c : Chc) : Chc :=
  if parked = false then c
  else if c.pause then enteredChc .suspend ⟨false, decide (grant = 0), true⟩ c
  else if grant = 0 then
    if dock = .lost ∨ dock = .active then enteredChc .suspend ⟨false, true, false⟩ c else c
  else if allowance = 0 then enteredChc .suspend ⟨true, false, false⟩ c
  else if ov then enteredChc .fault noSuspend { c with faultCause := some .cellOv }
  else enteredChc (if low.getD prechargeMv < prechargeMv then .precharge else .cc) noSuspend c

/-- `qualifyJudged` on what stands in a state. -/
def judgedIn (s : State) (c : Chc) : Chc :=
  qualifyJudged (motorParked s.mdr.state) s.dlk.state (grantInForce s.dlk) s.pkm.chargeAllowance
    s.chargePar.prechargeMv (s.pkm.cells.toList.any (·.ov)) (vmin s.pkm) c

/-- A cell record after a scan that reads `v` mV: the voltage, the extremes, the three counts and flags (R101, R102). -/
def scannedCell (p : PackPar) (c : CellRecord) (v : Int) : CellRecord :=
  let n := clampNat 0 5000 v
  let moved := fun (shown : Bool) (count : Nat) (flag : Bool) =>
    if shown then (min 15 (count + 1), flag || decide (p.debounce ≤ min 15 (count + 1))) else (0, false)
  let uv := moved (decide (n < p.cellUv)) c.uvCount c.uv
  let deep := moved (decide (n < p.deepUv)) c.deepCount c.deep
  let ov := moved (decide (p.cellOv < n)) c.ovCount c.ov
  { mv := some n, min := some (min (c.min.getD n) n), max := some (max ((c.min.bind fun _ => c.max).getD n) n)
    bleeding := c.bleeding, uvCount := uv.1, uv := uv.2, deepCount := deep.1, deep := deep.2, ovCount := ov.1
    ov := ov.2 }

/-- The seven records after a scan. -/
def scannedCells (r : ScanReading) (s : State) : Seven CellRecord :=
  s.pkm.cells.zipWith (scannedCell s.packPar) r.cells

/-- The pack state of R108 outside CUTOFF. -/
def judgedPack (s : State) : PackState :=
  if soc s.gge ≤ s.packPar.lowSoc then .low else if s.pkm.discharge < s.packPar.iMax then .derated else .normal

/-- The charge allowance of R112 for two pack temperatures. -/
def allowanceAt (p : ChargePar) (t1 t2 : Int) : Nat :=
  if min t1 t2 < p.tLow ∨ p.tHigh < max t1 t2 then 0
  else if p.tHigh - 5 < max t1 t2 then p.current / 2
  else p.current

/-- A band entry that has learned a sample, with the advance `served` for it, its load only where the dirt level lets
it (R66 to R68). -/
def learnedBand (x : Sample) (served : Nat) (clear : Bool) (e : Band) : Band :=
  let im := min 40000 x.im
  let samples := min 255 (e.samples + 1)
  let load := if clear then
      some (match e.loadRef with
        | none => im
        | some r => clampNat 0 40000 ((r : Int) + ((im : Int) - r).tdiv 16))
    else e.loadRef
  let bound : Int := ((x.period / 6 / 64 : Nat) : Int)
  let projected := x.offset + (((x.period / 6 : Nat) : Int) * ((e.advance : Int) - served)).tdiv 120
  let stepped := if bound < projected then e.advance - 1
    else if projected < -bound then min 60 (e.advance + 1) else e.advance
  { advance := if e.samples = 0 then served else if e.steps = 7 then stepped else e.advance
    steps := if e.samples = 0 then 1 else if e.steps = 7 then 0 else e.steps + 1
    samples := samples, loadRef := load, advValid := e.advValid || decide (32 ≤ samples)
    loadValid := e.loadValid || (decide (32 ≤ samples) && load.isSome) }

/-- The optical channel after a window end of amplitude `a` (R82 to R86). -/
def opticalMoved (p : DirtPar) (a : Nat) (d : Dse) : Dse :=
  match d.optical with
  | .settle =>
    if d.settle < 3 then { d with settle := d.settle + 1 }
    else
      { d with
        optical := .track, settle := 4, baseline := if d.baseline = 0 ∨ d.rebase then a else d.baseline
        rebase := false, kills := 0, recoveries := 0 }
  | .track =>
    let opt := if d.baseline = 0 then 255 else (d.baseline - a) * 255 / d.baseline
    let b := if opt ≤ p.trackLimit then
        ((d.baseline : Int) + ((a : Int) - d.baseline).tdiv (2 ^ p.tcShift)).toNat
      else d.baseline
    let w := if b < p.agcTarget * 7 / 8 ∧ d.working < 63 then d.working + 1
      else if p.agcTarget * 9 / 8 < b ∧ 0 < d.working then d.working - 1
      else d.working
    let n := { d with baseline := b, working := w }
    if w ≠ d.working then { n with optical := .settle, settle := 0, kills := 0, rebase := true }
    else if p.mode ≠ .auto then n
    else if w = 63 ∧ b < p.agcTarget / 2 then
      let kills := min 250 (d.kills + 1)
      if p.killWindows ≤ kills then { n with optical := .killed, kills := kills, recoveries := 0 }
      else { n with kills := kills }
    else { n with kills := 0 }
  | .killed =>
    if a < p.agcTarget * 3 / 4 then { d with recoveries := 0 }
    else if d.recoveries < 9 then { d with recoveries := d.recoveries + 1 }
    else { d with optical := .track, baseline := a, working := 63, kills := 0, recoveries := 0 }
  | _ => d

/-- The units of a REQUEST for a wanted current under an offer (R150). -/
def unitsFor (offer : Option Offer) (w : Nat) : Nat :=
  let u := max 1 ((w + 99) / 100)
  match offer with
  | some o => min o.max u
  | none => u

/-- A new exchange's first attempt, sent at once at the next sequence (R147). -/
def sentDlk (m : DockMsg) (d : Dlk) : Dlk :=
  { d with
    exchange := some { msg := m, seq := d.nextSeq, attempt := 1, sending := true, wait := 0, expired := false }
    nextSeq := d.nextSeq + 1 }

/-- The link as the end of an exchange leaves it with messages held: the first of them is sent, RELEASE before REQUEST
before KEEP, a KEEP as it then stands (R148). -/
def heldSent (keep : DockMsg) (d : Dlk) : Dlk :=
  match d.dueRelease, d.dueRequest, d.dueKeep with
  | some r, _, _ => { sentDlk (.release r) d with dueRelease := none, firstSent := true }
  | none, some q, _ =>
    { sentDlk (.request q.u q.w) d with
      dueRequest := none, firstSent := true, lastRequest := some (q.u, q.w)
      keep := if q.forKeep then some 0 else d.keep }
  | none, none, true => { sentDlk keep d with dueKeep := false, keep := some 0 }
  | none, none, false => d

/-- A REQUEST held stands for a KEEP that fell due with the grant at 0 (R151). -/
def heldForKeep (d : Dlk) : Bool := d.dueRequest.any (·.forKeep)

/-- The link once a REQUEST for a wanted current has fallen due with no RELEASE held: sent, with U and W stored as the
last request, where no exchange is in progress, and otherwise held in place of one held before (R148, R150, R152). -/
def requestedDlk (w : Nat) (d : Dlk) : Dlk :=
  let u := unitsFor d.offer w
  if d.exchange = none then
    { sentDlk (.request u w) d with
      lastRequest := some (u, w), dueRequest := none, firstSent := true
      keep := if heldForKeep d then some 0 else d.keep }
  else { d with dueRequest := some { u := u, w := w, forKeep := heldForKeep d } }

/-- The link once CHC has handed it a RELEASE: released, with a grant of 0 in ACTIVE; the RELEASE is sent where no
exchange is in progress and otherwise held, and a REQUEST held is dropped, whose KEEP stays due (R148, R155). -/
def releasedDlk (r : ReleaseReason) (d : Dlk) : Dlk :=
  let marked := { d with
    released := true, grant := if d.state = .active then some 0 else d.grant, dueRequest := none
    dueKeep := d.dueKeep || heldForKeep d }
  if d.state = .active ∨ (d.state = .negotiating ∧ d.firstSent = true) then
    if d.exchange = none then { sentDlk (.release r) marked with dueRelease := none, firstSent := true }
    else { marked with dueRelease := some r }
  else d

/-- The link once CHC has entered QUALIFY, with a wanted current: a released link is so no longer, a RELEASE held is
dropped, and a REQUEST falls due (R152). -/
def requalifiedDlk (w : Nat) (d : Dlk) : Dlk :=
  if d.released = true ∧ (d.state = .active ∨ (d.state = .negotiating ∧ d.firstSent = true)) then
    requestedDlk w { d with released := false, dueRelease := none }
  else d

/-- A bleed set follows R138: a cell is in it exactly where it stands at or above the lowest voltage plus balance_mV, no
cell of the set that comes before it is its neighbour, and fewer than three of the set come before it; the cells come by
falling voltage, and at one voltage by rising number. -/
def BleedsHighest (balanceMv : Nat) (mvs : Seven Nat) (set : Seven Bool) : Prop :=
  let cells := ((Seven.numbers.zipWith (fun i v => (i, v)) mvs).zipWith (fun x b => (x.1, x.2, b)) set).toList
  let lowest := mvs.toList.min?.getD 0
  let earlier := fun (y x : Nat × Nat × Bool) => decide (x.2.1 < y.2.1 ∨ (y.2.1 = x.2.1 ∧ y.1 < x.1))
  ∀ x ∈ cells, x.2.2 = (decide (lowest + balanceMv ≤ x.2.1) &&
    cells.all (fun y => !(y.2.2 && earlier y x && decide (y.1 + 1 = x.1 ∨ x.1 + 1 = y.1))) &&
    decide ((cells.filter fun y => y.2.2 && earlier y x).length < 3))

/-! ### What start-up leaves, written out for the statements -/

/-- PKM right after a reset: the reset values, with the first scan begun at uptime 0 (R97, R98, R187). -/
def startedPkm : Pkm :=
  { Pkm.reset with
    scan := some { watch := false, fast := false, motor := .off, dt := 0, measuring := true }
    lastStart := some 0, lastOnStart := some 0 }

/-- DLK right after a reset, by the contact voltage: settling from uptime 0 where a dock is there (R142, R143, R187). -/
def startedDlk (contact : Bool) : Dlk :=
  if contact then { Dlk.reset with contact := true, state := .settling, settle := some 0 } else Dlk.reset

/-- CHC right after a reset: a dock that is there takes it, enabled as a reset leaves it, to QUALIFY (R125, R128). -/
def startedChc (contact : Bool) : Chc := { Chc.reset with state := if contact then .qualify else .idle }

/-- MPT right after a reset, before any reply: RESTARTED, and behind it the notices of an arrival at once (R144, R177, R187).
That DOCK_STATE is queued before CHARGE_STATE is the model's choice (log 20). -/
def startedMpt (cause : ResetCause) (contact : Bool) : Mpt :=
  let entry := fun (n : Notice) => { notice := n, repeats := 0, uptime := 0 : NoticeEntry }
  { Mpt.reset cause with
    notices := entry (.restarted cause) ::
      if contact then
        [entry (.dockState { grantEvent := false, new := .settling, old := .absent, cause := .contact, offer := none
                             grantMa := 0, released := false, misses := 0 }),
         entry (.chargeState { new := .qualify, old := .idle, cause := .docked, suspend := ⟨false, false, false⟩
                               faultCause := none, unbalanced := false, iSet := 0, measured := none, vmin := none
                               vmax := none })]
      else [] }

/-! ### What a request meets, and what it leaves -/

/-- A command completes, and the state it leaves has a property. -/
def Yields (o : Host.Outcome State Fault Refusal) (P : State → Prop) : Prop := ∃ t, o = .next t ∧ P t

/-- The state a command leaves. -/
def after (c : Instr) (s : State) : State :=
  match exec c s with
  | .next t => t
  | _ => s

/-- The state a byte string on the host line leaves, each byte with its stop bit. -/
def afterBytes (bytes : List Byte) (s : State) : State := bytes.foldl (fun t b => after (.linkWake b true) t) s

/-- The state the bytes of commands leave, one after another. -/
def afterAll (cs : List Instr) (s : State) : State := cs.foldl (fun t c => after c t) s

/-- In ON, with no request outstanding and fewer than two replies queued, a request is taken (R176). -/
def Accepts (s : State) : Prop := s.slc.power = .on ∧ s.mpt.outstanding = none ∧ s.mpt.replies.length < 2

/-- The Message Port with a request taken and its reply queued, which a free transmitter begins (R176, R178). -/
def repliedMpt (kind tag : Byte) (status : StatusCode) (body : ReplyBody) (m : Mpt) : Mpt :=
  { m with rx := .hunt, rxBytes := [], rxGap := 0, outstanding := some (kind, tag)
           replies := m.replies ++ [replyTo kind tag status body]
           tx := some (m.tx.getD (.reply (replyTo kind tag status body))) }

/-- A state with the idle timer at 0, as link activity leaves it (R184). -/
def idled (s : State) : State := s.setSlc { s.slc with idle := 0 }

/-- A state, as the owning block left it, once the request has been answered and taken as link activity (R176, R184). -/
def replied (kind tag : Byte) (status : StatusCode) (body : ReplyBody) (u : State) : State :=
  idled (u.setMpt (repliedMpt kind tag status body u.mpt))

/-- The trigger and demand side, the motor and what hangs on it stand as they stood. -/
def SuctionKept (s t : State) : Prop :=
  t.trg = s.trg ∧ t.drs = s.drs ∧ t.mdr = s.mdr ∧ t.srg = s.srg ∧ t.sbt = s.sbt ∧ t.blm = s.blm ∧ t.dse = s.dse

/-- The pack, gauge, charge and dock side stands as it stood. -/
def PackKept (s t : State) : Prop := t.pkm = s.pkm ∧ t.gge = s.gge ∧ t.chc = s.chc ∧ t.dlk = s.dlk

/-- The parameters of the five groups and idle_sleep_s stand as they stood. -/
def ParamsKept (s t : State) : Prop :=
  t.motorPar = s.motorPar ∧ t.blockPar = s.blockPar ∧ t.packPar = s.packPar ∧ t.chargePar = s.chargePar ∧
    t.dirtPar = s.dirtPar ∧ t.idleSleepS = s.idleSleepS

/-- The counters' records and the waiting commands stand as they stood. -/
def RestKept (s t : State) : Prop := t.icn.counters = s.icn.counters ∧ t.pending = s.pending

end Sys2Proof.Safety
end

