-- ==== Sys2Proof/Certificates/Slice0/Obligations.lean ====
section
/-! DEFINITION. The statements about the model. In the statements of requests, `u` is the part as the request finds it: a
free transmitter has taken up what waits (R178). In the statements of events the transmitter takes up, after the event,
what it left to send; `raise` puts a notice into the queue by R179, and `motorTo` is a change of motor state with its
deliveries, of which `MotorChange` says what it does. -/

open Sys2Proof Sys2Proof.Machine Sys2Proof.Safety

/-! ### The step -/

/-- The command at the front of the queue is carried out on the state with the queue's rest. The queue is the model's
(log 2). -/
def Obligations.StepRunsFront : Prop :=
  ∀ (c : Instr) (rest : List Instr) (s : State), s.pending = c :: rest → step s = exec c (s.setPending rest)

/-- With no command waiting a ms passes, outside SHIP. A contact voltage that stands above the threshold in ABSENT is first
taken as the arrival that DOCK_CONTACT_RISE is, before the ms. In every other state a scan due at the present moment
starts, a free transmitter takes up what waits, the uptime and the timers move, and everything else stands as it stood. The
commands whose moment has come wait in the queue, each written out with the value of its timer at which it falls due; in RAMP twenty ticks
and an acceleration tick fall due every ms. What a ms is, the order of the commands that fall due in one, and when the
transmitter begins, is the model's choice (log 7, 11), as are the start of a scan before the ms (log 25) and the
measures of a dirt window's end (log 51). -/
def Obligations.IdleStep : Prop :=
  ∀ s : State, s.pending = [] →
    (s.slc.power = .ship → step s = .next s) ∧
    (s.slc.power ≠ .ship → s.dlk.state = .absent → s.dlk.contact = true →
      step s = step (after .dockContactRise s) ∧ (after .dockContactRise s).dlk.state = .settling ∧
        (after .dockContactRise s).slc.uptime = s.slc.uptime) ∧
    (s.slc.power ≠ .ship → s.dlk.state ≠ .absent ∨ s.dlk.contact = false → Yields (step s) fun t =>
      let b := beginTransmission s
      let up := fun (bound : Nat) (timer : Option Nat) => timer.map fun n => min bound (n + 1)
      let on := fun (timer : Option Nat) => timer.map fun n => n + 1
      t.slc = { s.slc with
        idle := if idleRuns s then min (s.idleSleepS * 1000) (s.slc.idle + 1) else 0, uptime := s.slc.uptime + 1 } ∧
      t.trg = { s.trg with
        timer := if s.trg.debounced = some s.trg.raw then 0 else min 10 (s.trg.timer + 1) } ∧
      t.drs = { s.drs with edit := s.drs.edit.map fun e => { e with timer := min 2000 (e.timer + 1) } } ∧
      t.mdr = { s.mdr with
        stateTimer := if s.mdr.state ∈ [MotorState.precheck, .align, .ramp, .restartWait, .coast] then
            s.mdr.stateTimer + 1
          else s.mdr.stateTimer
        catchLimit := up 100 s.mdr.catchLimit } ∧
      t.sbt = { s.sbt with clearTimer := up 2 s.sbt.clearTimer } ∧
      t.blm = { s.blm with
        blockTimer := on s.blm.blockTimer, retryTimer := on s.blm.retryTimer, clearTimer := up 200 s.blm.clearTimer
        noRefTimer := up 1000 s.blm.noRefTimer, normalTimer := up 10000 s.blm.normalTimer } ∧
      t.dse = { s.dse with window := s.dse.window.map fun w => { w with timer := min w.length (w.timer + 1) } } ∧
      t.chc = { s.chc with
        safety := if isCharging s.chc.state then s.chc.safety + 1 else s.chc.safety
        precharge := if s.chc.state = .precharge then s.chc.precharge + 1 else s.chc.precharge
        balance := if s.chc.state = .balance then s.chc.balance + 1 else s.chc.balance
        taper := on s.chc.taper } ∧
      t.dlk = { s.dlk with
        lossTimer := up 2 s.dlk.lossTimer, settle := up 200 s.dlk.settle, keep := on s.dlk.keep
        retry := up 1000 s.dlk.retry
        exchange := s.dlk.exchange.map fun e => if e.sending then e else { e with wait := min 50 (e.wait + 1) } } ∧
      t.mpt = { b.mpt with rxGap := if b.mpt.rx = .hunt then b.mpt.rxGap else min 6 (b.mpt.rxGap + 1) } ∧
      t.icn = b.icn ∧ t.srg = s.srg ∧ t.pkm = (if scanDue s then (startScan s).pkm else s.pkm) ∧
      t.gge = s.gge ∧ t.fmg = s.fmg ∧ ParamsKept s t ∧
      (let if_ := fun (b : Bool) (c : Instr) => if b then [c] else []
       let past := fun (n : Nat) (timer : Option Nat) => timer.any fun v => decide (n ≤ v)
       let state := t.mdr.stateTimer
       let minutes := fun (n : Nat) => n * 60000
       t.pending =
         if_ (decide (t.trg.debounced ≠ some t.trg.raw) && decide (10 ≤ t.trg.timer)) .triggerDebounce ++
         if_ (past 2000 (t.drs.edit.map (·.timer))) .editTimeout ++
         (match t.mdr.state with
           | .precheck => if_ (decide (5 ≤ state) && !t.mdr.precheckHeld) .precheckEnd
           | .align => if_ (decide (t.motorPar.alignTime ≤ state)) .alignEnd
           | .ramp => List.replicate 20 .rampTick ++ [.rampAccelTick] ++
               if_ (decide (t.motorPar.rampTimeLimit ≤ state)) .rampTimeout
           | .restartWait => if_ (decide (200 ≤ state)) .restartWaitEnd
           | .coast => if_ (decide (t.motorPar.coastTimeout ≤ state)) .coastTimeout
           | _ => []) ++
         if_ (past 100 t.mdr.catchLimit) .catchLimitExpiry ++
         if_ (past 2 t.sbt.clearTimer) .bandClearComplete ++
         if_ (past t.blockPar.blockTime t.blm.blockTimer) .blockTimerExpiry ++
         if_ (past t.blockPar.retryTime t.blm.retryTimer) .retryTimerExpiry ++
         if_ (past 200 t.blm.clearTimer) .clearTimerExpiry ++
         if_ (past 1000 t.blm.noRefTimer) .noReferenceTimerExpiry ++
         if_ (past 10000 t.blm.normalTimer) .normalTimerExpiry ++
         if_ (t.dse.window.any fun w => decide (w.length ≤ w.timer))
           (.dirtWindowEnd (Config.windowAmplitude t.slc.uptime.toNat) (Config.windowLevel t.slc.uptime.toNat)
             (Config.windowSignal t.slc.uptime.toNat)) ++
         if_ (t.pkm.scan.isNone && t.pkm.lastStart.all fun t0 => decide
           ((match t.pkm.interval with
             | .fast => 8
             | .slow => 250
             | .watch => 4000) ≤ (t.slc.uptime - t0).toNat)) .scanStart ++
         if_ (decide (t.chc.state = .precharge) &&
           decide (minutes t.chargePar.prechargeTimeout ≤ t.chc.precharge)) .prechargeTimeout ++
         if_ (decide (t.chc.state = .precharge ∨ t.chc.state = .cc ∨ t.chc.state = .cv ∨ t.chc.state = .balance) &&
           decide (minutes t.chargePar.chargeTimeout ≤ t.chc.safety)) .chargeTimeout ++
         if_ (decide (t.chc.state = .balance) &&
           decide (minutes t.chargePar.balanceTimeout ≤ t.chc.balance)) .balanceTimeout ++
         if_ (past 2 t.dlk.lossTimer) .dockLoss ++
         if_ (past 200 t.dlk.settle) .settleTimerExpiry ++
         if_ (t.dlk.exchange.any fun e => !e.sending && !e.expired && decide (50 ≤ e.wait)) .dockReplyTimeout ++
         if_ (decide (t.dlk.keep = some 1000)) .keepTimerExpiry ++
         if_ (past 1000 t.dlk.retry) .dockRetryExpiry ++
         if_ (decide (t.mpt.rx ≠ .hunt) && decide (6 ≤ t.mpt.rxGap)) .hostFrameGap ++
         if_ (decide (t.slc.power = .on ∧ t.mdr.state = .off ∧ t.dlk.state = .absent ∧ 0 < t.idleSleepS) &&
           decide (t.idleSleepS * 1000 ≤ t.slc.idle)) .idleTimerExpiry))

/-- Every command completes and leaves the waiting commands alone. The model's choices in it: log 2, 9. -/
def Obligations.CommandsComplete : Prop :=
  ∀ (c : Instr) (s : State), Yields (exec c s) fun t => t.pending = s.pending

/-- In SHIP nothing but a reset acts; the two pins are followed. A dock that arrives resets the part, which begins SETTLING and
its first scan within that step. The model's choices in it: log 1, 9, 54, 55. -/
def Obligations.ShipIgnores : Prop :=
  ∀ (c : Instr) (level : Level) (s : State), s.slc.power = .ship →
    (c ∉ [Instr.powerOn, .shipWake, .dockContactRise, .contactVoltageFall, .triggerRawChange .pressed,
        .triggerRawChange .released] → exec c s = .next s) ∧
    (c = .shipWake ∨ c = .dockContactRise → Yields (exec c s) fun t =>
      t.slc = Slc.reset .shipWake ∧ t.mdr = Mdr.reset ∧ t.gge = Gge.reset ∧ t.pkm = startedPkm ∧
        t.dlk = startedDlk true ∧ t.chc = startedChc true ∧ t.mpt = startedMpt .shipWake true) ∧
    exec .contactVoltageFall s = .next (s.setDlk { s.dlk with
      contact := false, lossTimer := if s.dlk.state = .absent then none else some 0 }) ∧
    exec (.triggerRawChange level) s = .next (s.setTrg (if level = s.trg.raw then s.trg
      else { s.trg with raw := level, timer := 0 }))

/-! ### Requests that read -/

/-- IDENTIFY is answered OK in every state in which a request is taken, with the four numbers, and no block's state
moves. The model's choices in it: log 10, 11. -/
def Obligations.IdentifyAnswers : Prop :=
  ∀ (tag : Byte) (s : State), Accepts s → Yields (exec (.identify tag) s) fun t =>
    t.mpt.replies = s.mpt.replies ++ [replyTo 0x01#8 tag .ok (.identity 0x0B#8 0x0310#16 1#8 1#8)] ∧
      SuctionKept s t ∧ PackKept s t ∧ ParamsKept s t ∧ RestKept s t ∧ t.fmg = s.fmg

/-- The requests that return values standing in the part: the reply holds them, and nothing else changes. STATUS
reports what stands and clears the two conditions it has reported. The model's choices in it: log 10, 11. -/
def Obligations.ReadsAnswer : Prop :=
  ∀ (tag : Byte) (s : State),
    (Accepts s →
     let u := beginTransmission s
     exec (.profileRead tag) s =
         .next (replied 0x17#8 tag .ok (.profile s.drs.profile (s.drs.edit.map (·.label))) u) ∧
       exec (.dirtRead tag) s = .next (replied 0x24#8 tag .ok (.dirt (dirtReport s)) u) ∧
       exec (.cellRead tag) s = .next (replied 0x28#8 tag .ok (.cells (cellReport s)) u) ∧
       exec (.gaugeRead tag) s = .next (replied 0x2A#8 tag .ok (.gauge (gaugeReport s.gge)) u) ∧
       exec (.chargeRead tag) s = .next (replied 0x2D#8 tag .ok (.charge (chargeReport s)) u) ∧
       exec (.dockRead tag) s = .next (replied 0x2E#8 tag .ok (.dock (dockReport s.dlk)) u) ∧
       exec (.counterRead tag) s = .next (replied 0x31#8 tag .ok (.counters s.icn.counters u.icn.pending) u)) ∧
    (Accepts s →
     let u := beginTransmission s
     exec (.status tag) s =
       .next (replied 0x02#8 tag .ok (.status (statusReport s))
         (u.setMpt { u.mpt with linkErr := false, dropped := false })))

/-! ### Parameters and the Message Port -/

/-- GET_PARAM returns the value of a parameter of the table as it stands; an id the table lacks is refused.
SET_PARAM in the order of its judgement: an unknown id, a parameter written in OFF alone, an enumeration's code,
and a number clamped to its range and dependencies, answered OK or CLAMPED with the value taken. The model's
choices in it: log 10, 11, 12. -/
def Obligations.ParamRequests : Prop :=
  ∀ (tag id : Byte) (p : Param) (value : BitVec 32) (codes : List Int) (s : State),
    (Accepts s →
     let u := beginTransmission s
     (Param.ofId id.toNat = some p →
       exec (.getParam tag id) s = .next (replied 0x03#8 tag .ok (.param id (p.get s)) u)) ∧
     (Param.ofId id.toNat = none → exec (.getParam tag id) s = .next (replied 0x03#8 tag .unknownId .empty u))) ∧
    (Accepts s →
     let u := beginTransmission s
     (Param.ofId id.toNat = none → exec (.setParam tag id value) s = .next (replied 0x04#8 tag .unknownId .empty u)) ∧
     (Param.ofId id.toNat = some p →
       (p.motorOffOnly = true → s.mdr.state ≠ .off →
         exec (.setParam tag id value) s = .next (replied 0x04#8 tag .wrongState .empty u)) ∧
       ((p.motorOffOnly = false ∨ s.mdr.state = .off) →
         (p.codes = some codes → value.toInt ∉ codes →
           exec (.setParam tag id value) s = .next (replied 0x04#8 tag .badValue .empty u)) ∧
         (p.codes = some codes → value.toInt ∈ codes →
           exec (.setParam tag id value) s =
             .next (replied 0x04#8 tag .ok (.param id value.toInt) (p.write value.toInt u))) ∧
         (p.codes = none → p ≠ .idleSleepS →
           exec (.setParam tag id value) s =
             .next (replied 0x04#8 tag (if p.taken value.toInt s = value.toInt then .ok else .clamped)
               (.param id (p.taken value.toInt s)) (p.write (p.taken value.toInt s) u))))))

/-- A value in range that is written is the value then read, and no other parameter's value moves. -/
def Obligations.ParamWriteReads : Prop :=
  ∀ (p q : Param) (v : Int) (s : State), p.range.1 ≤ v → v ≤ p.range.2 → (∀ cs ∈ p.codes, v ∈ cs) →
    p.get (p.write v s) = v ∧ (q ≠ p → q.get (p.write v s) = q.get s)

/-- The parameters with a command of their own: what each write does. The model's choices in it: log 10, 11, 12,
27. -/
def Obligations.OwnParamsWritten : Prop :=
  ∀ (tag : Byte) (v : BitVec 32) (m : TriggerMode) (o : OpticalMode) (s : State), Accepts s →
    let u := beginTransmission s
    ((v.toInt, m) ∈ [((0 : Int), TriggerMode.hold), (1, .toggle), (2, .hostOnly)] → s.mdr.state = .off →
      (m = s.trg.mode → exec (.setTriggerMode tag v) s =
        .next (replied 0x04#8 tag .ok (.param 0x72#8 v.toInt) u)) ∧
      (m ≠ s.trg.mode → s.drs.record.runDemand = false → s.drs.hostClaim = false →
        exec (.setTriggerMode tag v) s =
          .next (replied 0x04#8 tag .ok (.param 0x72#8 v.toInt)
            ((u.setTrg { s.trg with
                mode := m, rearm := s.trg.rearm || decide (s.trg.debounced = some .pressed) }).setDrs
              { s.drs with triggerClaim := false })))) ∧
    (s.mdr.state ≠ .off → exec (.setTriggerMode tag v) s = .next (replied 0x04#8 tag .wrongState .empty u)) ∧
    (v.toInt = 2 → s.dse.optical ≠ .killed → s.dirtPar.mode ≠ .forceOff →
      exec (.setOpticalMode tag v) s =
        .next (replied 0x04#8 tag .ok (.param 0x57#8 2)
          ((u.setDirtPar { s.dirtPar with mode := .forceOff }).setDse
            { s.dse with optical := .off, settle := 0, kills := 0, recoveries := 0 }))) ∧
    ((v.toInt, o) ∈ [((0 : Int), OpticalMode.auto), (1, .forceOn), (2, .forceOff)] →
      let mode := u.setDirtPar { s.dirtPar with mode := o }
      let becomes := fun (t : State) => exec (.setOpticalMode tag v) s =
        .next (replied 0x04#8 tag .ok (.param 0x57#8 v.toInt) t)
      (o = s.dirtPar.mode → becomes u) ∧
      (o ≠ s.dirtPar.mode → s.dse.optical = .killed → o = .forceOff → becomes (reportSensor .cleared .mode
        (mode.setDse { s.dse with optical := .off, settle := 0, kills := 0, recoveries := 0 }))) ∧
      (o ≠ s.dirtPar.mode → s.dse.optical = .killed → o = .forceOn → becomes (reportSensor .cleared .mode
        (mode.setDse { s.dse with optical := .settle, settle := 0, kills := 0, rebase := true, recoveries := 0 }))) ∧
      (o ≠ s.dirtPar.mode → o ≠ .forceOff → s.dse.optical = .settle ∨ s.dse.optical = .track →
        becomes (mode.setDse { s.dse with kills := 0 })) ∧
      (o ≠ s.dirtPar.mode → o ≠ .forceOff → s.dse.optical = .off → s.dse.window.isSome = true →
        becomes (mode.setDse { s.dse with optical := .settle, settle := 0, kills := 0 })) ∧
      (o ≠ s.dirtPar.mode → o ≠ .forceOff → s.dse.optical = .off → s.dse.window = none →
        becomes (mode.setDse { s.dse with optical := .idle }))) ∧
    (0 ≤ v.toInt → v.toInt ≤ 63 → s.dse.optical = .settle ∨ s.dse.optical = .track → v.toNat ≠ s.dse.working →
      exec (.setEmitterCurrent tag v) s =
        .next (replied 0x04#8 tag .ok (.param 0x52#8 v.toInt)
          ((u.setDirtPar { s.dirtPar with emitter := v.toNat }).setDse
            { s.dse with working := v.toNat, rebase := true, optical := .settle, settle := 0, kills := 0 }))) ∧
    (0 ≤ v.toInt → v.toInt ≤ 2 → v.toNat ≠ s.dirtPar.carrier → s.dse.optical = .settle ∨ s.dse.optical = .track →
      exec (.setEmitterCarrier tag v) s =
        .next (replied 0x04#8 tag .ok (.param 0x51#8 v.toInt)
          ((u.setDirtPar { s.dirtPar with carrier := v.toNat }).setDse
            { s.dse with rebase := true, optical := .settle, settle := 0, kills := 0 }))) ∧
    (500 ≤ v.toInt → v.toInt ≤ 6000 → v.toNat ≠ s.gge.f →
      exec (.setFullCapacity tag v) s =
        .next (replied 0x04#8 tag .ok (.param 0x3B#8 v.toInt)
          (u.setGge { s.gge with
            f := v.toNat, q := s.gge.q * v.toNat / s.gge.f, event := .capacity, eventAt := s.slc.uptime }))) ∧
    (2000 < v.toInt →
      exec (.setReserve tag v) s =
        .next (replied 0x04#8 tag .clamped (.param 0x36#8 2000)
          (evaluate (u.setPackPar { s.packPar with reserve := 2000 })))) ∧
    (0 ≤ v.toInt → v.toInt ≤ 2000 →
      exec (.setReserve tag v) s =
        .next (replied 0x04#8 tag .ok (.param 0x36#8 v.toInt)
          (evaluate (u.setPackPar { s.packPar with reserve := v.toNat })))) ∧
    (0 ≤ v.toInt → v.toInt ≤ 3600 →
      exec (.setIdleSleepS tag v) s =
        .next (if idleRuns s ∧ v.toInt ≠ 0 ∧ v.toNat * 1000 ≤ s.slc.idle then
            enterSleep (queueReply (replyTo 0x04#8 tag .ok (.param 0x70#8 v.toInt))
              ((u.setMpt { u.mpt with
                outstanding := some (0x04#8, tag), rx := .hunt, rxBytes := [], rxGap := 0 }).setIdleSleepS v.toNat))
          else replied 0x04#8 tag .ok (.param 0x70#8 v.toInt) (u.setIdleSleepS v.toNat))) ∧
    (3600 < v.toInt →
      exec (.setIdleSleepS tag v) s =
        .next (if idleRuns s ∧ 3600000 ≤ s.slc.idle then
            enterSleep (queueReply (replyTo 0x04#8 tag .clamped (.param 0x70#8 3600))
              ((u.setMpt { u.mpt with
                outstanding := some (0x04#8, tag), rx := .hunt, rxBytes := [], rxGap := 0 }).setIdleSleepS 3600))
          else replied 0x04#8 tag .clamped (.param 0x70#8 3600) (u.setIdleSleepS 3600)))

/-- NOTICE_MASK writes the enables, bit 0 standing, and takes out the entries of the kinds newly disabled. The
model's choices in it: log 10, 11, 32. -/
def Obligations.NoticeMaskWrites : Prop :=
  ∀ (tag : Byte) (e : BitVec 16) (s : State), Accepts s →
    let u := beginTransmission s
    (e.getLsbD 14 = false → e.getLsbD 15 = false → Yields (exec (.noticeMask tag e) s) fun t =>
      t.mpt = repliedMpt 0x05#8 tag .ok (.enables (e ||| 1#16))
        { u.mpt with
          enables := e ||| 1#16
          notices := u.mpt.notices.filter fun n => noticeEnabled (e ||| 1#16) n.notice.index } ∧
      t.icn = (if u.mpt.notices.any (fun n => decide (n.notice.index = 10)) ∧ e.getLsbD 10 = false then
          { u.icn with pending := Four.replicate false } else u.icn) ∧
      SuctionKept s t ∧ PackKept s t ∧ ParamsKept s t ∧ RestKept s t ∧ t.fmg = s.fmg) ∧
    (e.getLsbD 14 = true ∨ e.getLsbD 15 = true →
      exec (.noticeMask tag e) s = .next (replied 0x05#8 tag .malformed .empty u))

/-- RESET in any power state but SHIP: the resets of the chapters, what they keep, the re-arm flag pending where the trigger
was held, the OK reply ahead of RESTARTED, and the start-up, in which the first scan begins and a dock that is there begins
SETTLING. The model's choices in it: log 1, 20, 33, 39, 54. -/
def Obligations.ResetRestarts : Prop :=
  ∀ (tag : Byte) (s : State), s.slc.power ≠ .ship →
    Yields (exec (.reset tag) s) fun t =>
      t.mpt = { startedMpt .hostReset s.dlk.contact with
        outstanding := some (0x06#8, tag), replies := [replyTo 0x06#8 tag .ok .empty]
        tx := some (.reply (replyTo 0x06#8 tag .ok .empty)) } ∧
      t.slc = Slc.reset .hostReset ∧
      t.trg = { Trg.reset with raw := s.trg.raw, rearm := decide (s.trg.debounced = some .pressed) } ∧ t.drs = Drs.reset ∧
      t.mdr = Mdr.reset ∧ t.srg = Srg.reset ∧ t.blm = Blm.reset ∧ t.dse = Dse.reset ∧ t.pkm = startedPkm ∧
      t.chc = startedChc s.dlk.contact ∧ t.dlk = startedDlk s.dlk.contact ∧ t.fmg = Fmg.reset ∧
      t.sbt = { mode := .off, clearTimer := none, lastAdvance := 16
                bands := if s.sbt.clearTimer.isSome then Four.replicate (Four.replicate Band.cleared) else s.sbt.bands } ∧
      t.gge = { f := 2500, q := if s.gge.f = 2500 then s.gge.q else s.gge.q * 2500 / s.gge.f, estimatePending := false
                event := .none, eventAt := 0, current := none, residue := 0 } ∧
      t.icn.counters = s.icn.counters ∧ t.icn.pending = Four.replicate false ∧ ParamsKept State.reset t ∧
      t.pending = s.pending

/-- SLEEP and SHIP: accepted in the states the rules give, with the entry awaiting the end of the reply; refused
WRONG_STATE in the others. The entry that awaited its reply is made at the end of that reply: SLEEP, or SHIP with all
state lost, which a contact voltage already above the threshold ends at once in the SHIP_WAKE start-up; with the motor
running or the dock there it is abandoned. The model's choices in it: log 10, 11, 26, 50, 54. -/
def Obligations.SleepAndShip : Prop :=
  ∀ (tag : Byte) (r : Reply) (s : State),
    (Accepts s →
     let u := beginTransmission s
     exec (.sleep tag) s =
         .next (if (s.mdr.state = .off ∨ s.mdr.state = .tripped) ∧ s.dlk.state = .absent then
             replied 0x07#8 tag .ok .empty (u.setSlc { s.slc with entry := .sleep })
           else replied 0x07#8 tag .wrongState .empty u) ∧
       exec (.ship tag) s =
         .next (if s.mdr.state = .off ∧ s.dlk.state = .absent then
             replied 0x08#8 tag .ok .empty (u.setSlc { s.slc with entry := .ship })
           else replied 0x08#8 tag .wrongState .empty u)) ∧
    (s.slc.power = .on → s.mpt.tx = some (.reply r) → r.status ≠ .overlap →
     s.slc.entry ≠ .none →
     (motorParked s.mdr.state = true → s.dlk.state = .absent → s.slc.entry = .sleep →
       Yields (exec .transmitEnd s) fun t =>
         t.slc.power = .sleep ∧ t.slc.idle = 0 ∧ t.slc.entry = .none ∧ t.pkm.interval = .watch ∧
         t.drs.edit = none ∧ t.drs.triggerClaim = false ∧ t.drs.hostClaim = false ∧
         t.drs.record.runDemand = false ∧ t.mpt.tx = none ∧ t.mpt.replies = s.mpt.replies.tail ∧ ParamsKept s t ∧
         RestKept s t) ∧
     (motorParked s.mdr.state = true → s.dlk.state = .absent → s.slc.entry = .ship → s.dlk.contact = false →
       Yields (exec .transmitEnd s) fun t =>
         t.slc.power = .ship ∧ t.mdr = Mdr.reset ∧ t.gge = Gge.reset ∧ t.icn = Icn.reset ∧ t.pkm = Pkm.reset ∧
         t.trg = { Trg.reset with raw := s.trg.raw }) ∧
     (motorParked s.mdr.state = true → s.dlk.state = .absent → s.slc.entry = .ship → s.dlk.contact = true →
       Yields (exec .transmitEnd s) fun t =>
         t.slc = Slc.reset .shipWake ∧ t.mdr = Mdr.reset ∧ t.gge = Gge.reset ∧ t.icn = Icn.reset ∧ t.pkm = startedPkm ∧
         t.dlk = startedDlk true ∧ t.chc = startedChc true ∧ t.trg = { Trg.reset with raw := s.trg.raw }) ∧
     (motorParked s.mdr.state = false ∨ s.dlk.state ≠ .absent → Yields (exec .transmitEnd s) fun t =>
       t.slc.power = .on ∧ t.slc.entry = .none ∧ SuctionKept s t ∧ PackKept s t))

/-! ### Requests of the suction side -/

/-- RUN START raises the host claim when no inhibit stands, and run demand with it; with an inhibit it is refused with
the first one. RUN STOP drops the host claim; run demand stays under the trigger's claim, and falls without it: a
running motor coasts, and a pending start is dropped. STEP_SELECT takes effect at once: with a run demanded the record
is evaluated with the new step's settings. The record is written out: boost, requested speed with its clamp, the least
of the three currents, the cause set, all 0 and empty with run demand false. The model's choices in it: log 10, 11, 48.
-/
def Obligations.ClaimRequests : Prop :=
  ∀ (tag : Byte) (i : Inhibit) (code : Byte) (st : Step) (s : State),
    let record := fun (step : Step) (s : State) =>
      let p := s.drs.profile
      let x := match step with
        | .eco => p.eco
        | .standard => p.standard
        | .max => p.max
      let allowed := x.boostEnable = true ∧ s.pkm.state ≠ .low ∧ s.pkm.state ≠ .cutoff ∧ s.blm.state ≠ .blocked ∧
        s.blm.state ≠ .retrying
      let boost := if allowed then min x.boostMax ((s.dse.db - p.boostThreshold) * p.boostSlope) else 0
      let speed := if s.blm.state = .blocked then p.blockedSpeed else x.speed + boost
      let allowance := s.pkm.discharge - s.packPar.reserve
      let iC := min x.limit (min allowance s.mdr.derate)
      ({ runDemand := true, sReq := max 20000 (min 125000 speed), boost := boost, iC := iC
         causes := { stepLimit := decide (iC = x.limit), packAllowance := decide (iC = allowance)
                     inverterDerate := decide (iC = s.mdr.derate), blocked := decide (s.blm.state = .blocked)
                     packLow := x.boostEnable && decide (s.pkm.state = .low)
                     clampMax := decide (125000 < speed) } } : DemandRecord)
    (Accepts s →
     let u := beginTransmission s
     let claimed := u.setDrs { s.drs with hostClaim := true }
     let demanded := u.setDrs { s.drs with hostClaim := true, record := record s.drs.step s }
     (firstInhibit s = some i → exec (.runStart tag) s =
       .next (if i = .docked then replied 0x10#8 tag .docked .empty u
         else replied 0x10#8 tag .inhibited (.cause i) u)) ∧
     (firstInhibit s = none → s.drs.record.runDemand = true → exec (.runStart tag) s =
       .next (replied 0x10#8 tag .ok (.claims s.drs.triggerClaim true true) claimed)) ∧
     (firstInhibit s = none → s.drs.record.runDemand = false → s.mdr.state = .off → exec (.runStart tag) s =
       .next (replied 0x10#8 tag .ok (.claims s.drs.triggerClaim true true)
         (motorTo .precheck .demand false demanded)))) ∧
    (Accepts s → DemandFollows s →
     let u := beginTransmission s
     let idle := u.setDrs { s.drs with hostClaim := false, record := DemandRecord.idle }
     (s.drs.record.runDemand = false ∨ s.drs.triggerClaim = true → exec (.runStop tag) s =
       .next (replied 0x11#8 tag .ok (.claims s.drs.triggerClaim false s.drs.record.runDemand)
         (u.setDrs { s.drs with hostClaim := false }))) ∧
     (s.drs.record.runDemand = true → s.drs.triggerClaim = false → runningMotor s.mdr.state = true →
       exec (.runStop tag) s =
         .next (replied 0x11#8 tag .ok (.claims false false false) (motorTo .coast .demandFall false idle))) ∧
     (s.drs.record.runDemand = true → s.drs.triggerClaim = false → s.mdr.state = .coast → exec (.runStop tag) s =
       .next (replied 0x11#8 tag .ok (.claims false false false)
         (idle.setMdr { s.mdr with startPending := false })))) ∧
    (Accepts s →
     let u := beginTransmission s
     let r := if s.drs.record.runDemand then record st s
       else { runDemand := false, sReq := 0, boost := 0, iC := 0, causes := ⟨false, false, false, false, false, false⟩ }
     (code.toNat ≤ 2 → Step.ofCode code.toNat = some st → exec (.stepSelect tag code) s =
       .next (replied 0x12#8 tag .ok (.step st r.sReq r.iC) (u.setDrs { s.drs with step := st, record := r }))) ∧
     (2 < code.toNat → exec (.stepSelect tag code) s = .next (replied 0x12#8 tag .badValue .empty u)))

/-- The staged edit: opened on a copy of the profile in force, written field by field with each value clamped to its
range, a flag with 0 or 1 alone, an unknown field refused UNKNOWN_ID, committed when the checks pass, with the record
evaluated by the new profile, dropped by an abort. With no edit open, a set, a commit and an abort are refused
EDIT_CLOSED with the last abort. The model's choices in it: log 10, 11, 29. -/
def Obligations.EditStaged : Prop :=
  ∀ (tag label field : Byte) (v : BitVec 32) (f : ProfileField) (e : Edit) (s : State),
    (Accepts s →
     let u := beginTransmission s
     let taken := clampNat f.range.1.toNat f.range.2.toNat v.toInt
     (s.drs.edit = none → exec (.editBegin tag label) s =
       .next (replied 0x13#8 tag .ok (.label label)
         (u.setDrs { s.drs with edit := some { profile := s.drs.profile, label := label, timer := 0 } }))) ∧
     (s.drs.edit = some e → exec (.editBegin tag label) s = .next (replied 0x13#8 tag .editOpen (.label e.label) u)) ∧
     (s.drs.edit = some e → ProfileField.ofId field.toNat = some f → f.isFlag = false →
       exec (.editSet tag field v) s =
         .next (replied 0x14#8 tag (if (taken : Int) = v.toInt then .ok else .clamped) (.field field taken)
           (u.setDrs { s.drs with edit := some { e with profile := e.profile.write f taken, timer := 0 } }))) ∧
     (s.drs.edit = some e → ProfileField.ofId field.toNat = some f → f.isFlag = true → v.toInt ≠ 0 → v.toInt ≠ 1 →
       exec (.editSet tag field v) s = .next (replied 0x14#8 tag .badValue .empty u)) ∧
     (s.drs.edit = some e → ProfileField.ofId field.toNat = some f → f.isFlag = true → v = 0#32 ∨ v = 1#32 →
       exec (.editSet tag field v) s = .next (replied 0x14#8 tag .ok (.field field v.toNat)
         (u.setDrs { s.drs with edit := some { e with profile := e.profile.write f v.toNat, timer := 0 } }))) ∧
     (s.drs.edit = some e → ¬ (field.toNat ≤ 0x0B ∨ (0x10 ≤ field.toNat ∧ field.toNat ≤ 0x14)) →
       exec (.editSet tag field v) s = .next (replied 0x14#8 tag .unknownId .empty u)) ∧
     let p := e.profile
     let c1 := p.eco.speed ≤ p.standard.speed ∧ p.standard.speed ≤ p.max.speed
     let c2 := p.eco.limit ≤ p.standard.limit ∧ p.standard.limit ≤ p.max.limit
     let c3 := p.blockedSpeed ≤ p.eco.speed
     (s.drs.edit = some e → c1 → c2 → c3 → s.drs.record.runDemand = true →
       exec (.editCommit tag) s =
         .next (replied 0x15#8 tag .ok (.label e.label)
           (u.setDrs { s.drs with
             profile := e.profile, edit := none
             record := runningRecord (s.setDrs { s.drs with profile := e.profile }) }))) ∧
     (s.drs.edit = some e → c1 → c2 → c3 → s.drs.record.runDemand = false →
       exec (.editCommit tag) s =
         .next (replied 0x15#8 tag .ok (.label e.label)
           (u.setDrs { s.drs with profile := e.profile, edit := none, record := DemandRecord.idle }))) ∧
     (s.drs.edit = some e → ¬ (c1 ∧ c2 ∧ c3) → exec (.editCommit tag) s =
       .next (replied 0x15#8 tag .inconsistent
         (.failed (if ¬ c1 then .c1 else if ¬ c2 then .c2 else .c3) e.label) u)) ∧
     (s.drs.edit = some e → exec (.editAbort tag) s =
       .next (replied 0x16#8 tag .ok (.label e.label)
         (u.setDrs { s.drs with edit := none, lastAbort := ⟨.host, e.label⟩ })))) ∧
    (Accepts s → s.drs.edit = none →
     let u := beginTransmission s
     let body := ReplyBody.aborted s.drs.lastAbort
     exec (.editSet tag field v) s = .next (replied 0x14#8 tag .editClosed body u) ∧
       exec (.editCommit tag) s = .next (replied 0x15#8 tag .editClosed body u) ∧
       exec (.editAbort tag) s = .next (replied 0x16#8 tag .editClosed body u))

/-- TRIP_CLEAR is refused outside TRIPPED and while a temperature cause persists; otherwise the record goes, the motor
goes to OFF, and a trigger still held needs its release; a CHC that waited in QUALIFY is judged with it. FAULT_READ
returns the record, the responses and the table, and clears the counts alone when asked to. The model's choices in it:
log 10, 11, 21, 47. -/
def Obligations.TripRequests : Prop :=
  ∀ (tag clear : Byte) (s : State),
    (Accepts s →
     let u := beginTransmission s
     (s.mdr.state ≠ .tripped → exec (.tripClear tag) s =
       .next (replied 0x18#8 tag .wrongState (.motor s.mdr.state) u)) ∧
     (s.mdr.state = .tripped → inverterHot s = true → exec (.tripClear tag) s =
       .next (replied 0x18#8 tag .inhibited (.hot .invHot s.mdr.tInv s.pkm.packT) u)) ∧
     (s.mdr.state = .tripped → inverterHot s = false → packHot s = true → exec (.tripClear tag) s =
       .next (replied 0x18#8 tag .inhibited (.hot .packHot s.mdr.tInv s.pkm.packT) u)) ∧
     (s.mdr.state = .tripped → inverterHot s = false → packHot s = false → s.drs.triggerClaim = false →
       s.drs.hostClaim = false → s.drs.record.runDemand = false → Yields (exec (.tripClear tag) s) fun t =>
         t.mdr = enteredMdr .off false s.mdr ∧ t.fmg.trip = none ∧
         t.chc = (if s.chc.state = .qualify then judgedIn s s.chc else s.chc) ∧
         (s.chc.state ≠ .qualify → t.fmg = { s.fmg with trip := none } ∧ t.dlk = s.dlk ∧ t.drs = s.drs) ∧
         (RecordSound s.drs.record → t.drs = s.drs) ∧
         t.trg = { s.trg with rearm := s.trg.rearm || decide (s.trg.debounced = some .pressed) } ∧
         t.srg = Srg.reset ∧ t.sbt = s.sbt ∧ t.blm = s.blm ∧ t.dse = s.dse ∧
         t.mpt.replies = s.mpt.replies ++ [replyTo 0x18#8 tag .ok (.trip s.fmg.trip)] ∧ ParamsKept s t ∧ RestKept s t)) ∧
    (Accepts s →
     let u := beginTransmission s
     (1 < clear.toNat → exec (.faultRead tag clear) s = .next (replied 0x19#8 tag .badValue .empty u)) ∧
     (clear = 0#8 → exec (.faultRead tag clear) s = .next (replied 0x19#8 tag .ok (.faults (faultReport s.fmg)) u)) ∧
     (clear = 1#8 → exec (.faultRead tag clear) s =
       .next (replied 0x19#8 tag .ok (.faults (faultReport s.fmg))
         (u.setFmg { s.fmg with table := s.fmg.table.map fun e => { e with count := 0 } }))))

/-- The band table's requests: the mode, a clear begun when none is in progress, an entry read, and an entry written
with its values clamped. The model's choices in it: log 10, 11, 46. -/
def Obligations.BandRequests : Prop :=
  ∀ (tag code index advance flags : Byte) (load : BitVec 16) (m : TableMode) (s : State), Accepts s →
    let u := beginTransmission s
    let a := min 60 advance.toNat
    let l := min 40000 load.toNat
    (TableMode.ofCode code.toNat = some m → exec (.bandMode tag code) s =
      .next (replied 0x20#8 tag .ok (.tableMode m) (u.setSbt { s.sbt with mode := m }))) ∧
    (s.sbt.clearTimer = none → exec (.bandClear tag) s =
      .next (replied 0x21#8 tag .ok .empty (u.setSbt { s.sbt with clearTimer := some 0 }))) ∧
    (s.sbt.clearTimer.isSome = true → exec (.bandClear tag) s = .next (replied 0x21#8 tag .busy .empty u)) ∧
    (index.toNat ≤ 15 → s.sbt.clearTimer = none → exec (.bandRead tag index) s =
      .next (replied 0x22#8 tag .ok (.band (bandAt s.sbt index.toNat) s.sbt.mode false) u)) ∧
    (index.toNat ≤ 15 → s.sbt.clearTimer.isSome = true →
      exec (.bandRead tag index) s = .next (replied 0x22#8 tag .busy .empty u)) ∧
    (index.toNat ≤ 15 → flags.toNat ≤ 3 → s.sbt.clearTimer = none → exec (.bandWrite tag index advance load flags) s =
      .next (replied 0x23#8 tag (if advance.toNat ≤ 60 ∧ load.toNat ≤ 40000 then .ok else .clamped)
        (.bandWritten a l)
        (u.setSbt (putBand s.sbt index.toNat
          { advance := a, advValid := flags.getLsbD 0, loadRef := some l, loadValid := flags.getLsbD 1
            samples := if flags = 0#8 then (bandAt s.sbt index.toNat).samples else 32, steps := 0 }))))

/-! ### Requests of the pack side -/

/-- CELL_RESET_MINMAX and GAUGE_ADJUST: the extremes are forgotten; the charge moves by whole mAh and stays
between empty and full. The model's choices in it: log 10, 11, 34. -/
def Obligations.PackRequests : Prop :=
  ∀ (tag : Byte) (delta : BitVec 16) (s : State), Accepts s →
    let u := beginTransmission s
    let d := clampInt (-6000) 6000 delta.toInt
    let q := clampNat 0 (fullCharge s.gge.f) ((s.gge.q : Int) + d * 3600000)
    exec (.cellResetMinmax tag) s =
        .next (replied 0x29#8 tag .ok .empty
          (u.setPkm { s.pkm with cells := s.pkm.cells.map fun c => { c with min := none, max := none } })) ∧
      Yields (exec (.gaugeAdjust tag delta) s) fun t =>
        t.gge = { s.gge with q := q, event := .adjust, eventAt := s.slc.uptime } ∧
        t.mpt.replies = s.mpt.replies ++
          [replyTo 0x2B#8 tag (if d = delta.toInt then .ok else .clamped)
            (.gaugeAdjust { before := remaining s.gge, delta := d, after := remaining t.gge, soc := soc t.gge
                            saturation := saturationOf (fullCharge s.gge.f) ((s.gge.q : Int) + d * 3600000) })] ∧
        t = replied 0x2B#8 tag (if d = delta.toInt then .ok else .clamped)
          (.gaugeAdjust { before := remaining s.gge, delta := d, after := remaining t.gge, soc := soc t.gge
                          saturation := saturationOf (fullCharge s.gge.f) ((s.gge.q : Int) + d * 3600000) })
          (u.setGge t.gge)

/-- The charge actions. ENABLE in IDLE with the dock there, and CLEAR in FAULT, begin a cycle in QUALIFY, which is
judged at once; RESUME ends the suspension for HOST and, with no cause left, passes through QUALIFY's judgement in the
same cycle; PAUSE suspends a charge with cause HOST, joins a suspension, and in QUALIFY is noted alone; DISABLE goes to
IDLE, and hands the dock a RELEASE; an entry to QUALIFY asks a released dock anew, and drops a RELEASE held. Each is
refused WRONG_STATE where its state does not stand, and each one carried out is answered OK with the state it leaves.
The model's choices in it: log 10, 11, 21, 22, 23, 42, 43. -/
def Obligations.ChargeActions : Prop :=
  ∀ (tag : Byte) (s : State), Accepts s →
    let u := beginTransmission s
    let done := fun (t : State) =>
      t.mpt.replies = s.mpt.replies ++ [replyTo 0x2C#8 tag .ok (.chargeControl (chargeControlReport t.chc))] ∧
        t.trg = s.trg ∧ t.gge = s.gge ∧ t.sbt = s.sbt ∧ ParamsKept s t ∧ RestKept s t
    let still := fun (t : State) => t.mdr = s.mdr ∧ t.srg = s.srg ∧ t.blm = s.blm ∧ t.dse = s.dse ∧
      (s.pkm.state ≠ .cutoff → t.drs = s.drs)
    let asked := requalifiedDlk (min s.chargePar.current s.pkm.chargeAllowance) s.dlk
    let linked := fun (t : State) => t.dlk = if t.chc.state = .fault then releasedDlk .fault asked else asked
    (s.chc.state ≠ .idle ∨ s.dlk.state = .absent → exec (.chargeEnable tag) s =
      .next (replied 0x2C#8 tag .ok (.chargeControl (chargeControlReport { s.chc with enabled := true }))
        (u.setChc { s.chc with enabled := true }))) ∧
    (s.chc.state = .idle → s.dlk.state ≠ .absent → Yields (exec (.chargeEnable tag) s) fun t =>
      t.chc = judgedIn s (enteredChc .qualify noSuspend { s.chc with enabled := true }) ∧ linked t ∧ done t ∧ still t) ∧
    Yields (exec (.chargeDisable tag) s) (fun t =>
      t.chc = (if s.chc.state = .idle then { s.chc with enabled := false }
        else enteredChc .idle noSuspend { s.chc with enabled := false }) ∧
      t.dlk = (if s.chc.state = .idle then s.dlk else releasedDlk .disabled s.dlk) ∧ done t) ∧
    (s.chc.state = .idle ∨ s.chc.state = .done ∨ s.chc.state = .fault → exec (.chargePause tag) s =
      .next (replied 0x2C#8 tag .wrongState .empty u)) ∧
    (isCharging s.chc.state = true → Yields (exec (.chargePause tag) s) fun t =>
      t.chc = enteredChc .suspend ⟨false, decide (grantInForce s.dlk = 0), true⟩ { s.chc with pause := true } ∧
      t.chc.iSet = 0 ∧ t.dlk = s.dlk ∧ t.drs = s.drs ∧ done t ∧ still t) ∧
    (s.chc.state = .qualify → exec (.chargePause tag) s =
      .next (replied 0x2C#8 tag .ok (.chargeControl (chargeControlReport { s.chc with pause := true }))
        (u.setChc { s.chc with pause := true }))) ∧
    (s.chc.state = .suspend →
      let held := { s.chc with pause := true, suspend := { s.chc.suspend with host := true } }
      exec (.chargePause tag) s =
        .next (replied 0x2C#8 tag .ok (.chargeControl (chargeControlReport held)) (u.setChc held))) ∧
    (s.chc.pause = false → exec (.chargeResume tag) s = .next (replied 0x2C#8 tag .wrongState .empty u)) ∧
    (s.chc.pause = true → s.chc.state ≠ .suspend → exec (.chargeResume tag) s =
      .next (replied 0x2C#8 tag .ok (.chargeControl (chargeControlReport { s.chc with pause := false }))
        (u.setChc { s.chc with pause := false }))) ∧
    (s.chc.pause = true → s.chc.state = .suspend → Yields (exec (.chargeResume tag) s) fun t =>
      let left := { s.chc with pause := false, suspend := { s.chc.suspend with host := false } }
      (s.chc.suspend.temp = true ∨ s.chc.suspend.dock = true → t.chc = left ∧ PackKept { s with chc := left } t ∧
        SuctionKept s t) ∧
      (s.chc.suspend.temp = false → s.chc.suspend.dock = false →
        t.chc = judgedIn s (enteredChc .qualify noSuspend left) ∧ linked t) ∧ done t ∧ still t) ∧
    (s.chc.state ≠ .fault → exec (.chargeClear tag) s = .next (replied 0x2C#8 tag .wrongState .empty u)) ∧
    (s.chc.state = .fault → Yields (exec (.chargeClear tag) s) fun t =>
      t.chc = judgedIn s (enteredChc .qualify noSuspend s.chc) ∧ linked t ∧ done t ∧ still t)

/-- COUNTER_SETUP writes a fresh record, FREE or waiting on another counter; COUNTER_ADJUST shifts the value, releases a
frozen counter, and clears reached below the threshold or makes a reach at it. An event is counted by every counter
COUNTING one of its sources, saturating, the time sources in whole ms of their ticks; a counter whose value then stands
at its threshold reaches: reached is set, it freezes if its options say so, COUNTER_REACHED carries the pending set, and
the counters that wait on it count from the next event. The model's choices in it: log 10, 11, 32, 45. -/
def Obligations.CounterRequests : Prop :=
  ∀ (tag k source options start : Byte) (threshold delta : BitVec 32) (src : CounterSource) (j : Nat)
    (amounts : List (CounterSource × CountAmount)) (s : State),
    let quiet := fun (c : Counter) (more : Nat) =>
      c.reached = true ∨ c.threshold = 0 ∨ min 4294967295 (c.value + more) < c.threshold
    let freed := fun (c : Counter) =>
      if c.state = .waiting ∧ c.start = some k.toNat then { c with state := .counting } else c
    let reachedNow := fun (c : Counter) =>
      { c with reached := true, state := if c.options.freezeOnReach then .frozen else .counting }
    (Accepts s →
     let u := beginTransmission s
     let c := s.icn.counters.get k.toNat
     let v := clampNat 0 4294967295 ((c.value : Int) + delta.toInt)
     let a := adjustedCounter delta.toInt c
     let clamped := decide (0 ≤ (c.value : Int) + delta.toInt ∧ (c.value : Int) + delta.toInt ≤ 4294967295)
     let reply := fun (a : Counter) => ReplyBody.counterAdjust
       { old := c.value, delta := delta.toInt, new := v, state := a.state, reached := a.reached
         saturation := saturationOf 4294967295 ((c.value : Int) + delta.toInt) }
     let written := fun (st : Option Nat) => exec (.counterSetup tag k source threshold options start) s =
       .next (replied 0x30#8 tag .ok (.counter (setupCounter src threshold.toNat options st))
         (u.setIcn { u.icn with
           counters := s.icn.counters.put k.toNat
             { source := src, value := 0, threshold := threshold.toNat
               options := ⟨options.getLsbD 0, options.getLsbD 1, options.getLsbD 2⟩
               start := st, state := if st = none then .counting else .waiting, reached := false, residue := 0 } }))
     (k.toNat ≤ 3 → options.toNat ≤ 7 → CounterSource.ofCode source.toNat = some src → start = 0#8 → written none) ∧
     (k.toNat ≤ 3 → options.toNat ≤ 7 → CounterSource.ofCode source.toNat = some src → j ≤ 3 → j ≠ k.toNat →
       start.toNat = 0x10 + j → written (some j)) ∧
     (options.toNat ≤ 7 → 3 < k.toNat ∨ CounterSource.ofCode source.toNat = none ∨ start.toNat = 0x10 + k.toNat ∨
         (start ≠ 0#8 ∧ ¬ (0x10 ≤ start.toNat ∧ start.toNat ≤ 0x13)) →
       exec (.counterSetup tag k source threshold options start) s = .next (replied 0x30#8 tag .badValue .empty u)) ∧
     (3 < k.toNat → exec (.counterAdjust tag k delta) s = .next (replied 0x32#8 tag .badValue .empty u)) ∧
     (k.toNat ≤ 3 → reaches a = false → exec (.counterAdjust tag k delta) s =
       .next (replied 0x32#8 tag (if clamped then .ok else .clamped) (reply a)
         (u.setIcn { u.icn with counters := s.icn.counters.put k.toNat a }))) ∧
     (k.toNat ≤ 3 → reaches a = true → CountersInRange s.icn →
       (∀ i < 4, i ≠ k.toNat → (s.icn.counters.get i).state = .waiting →
         (s.icn.counters.get i).start = some k.toNat → quiet (s.icn.counters.get i) 0) →
       Yields (exec (.counterAdjust tag k delta) s) fun t =>
         t.icn.counters = (s.icn.counters.map freed).put k.toNat (reachedNow a) ∧
         t.mpt.replies = s.mpt.replies ++
           [replyTo 0x32#8 tag (if clamped then .ok else .clamped) (reply (reachedNow a))] ∧
         SuctionKept s t ∧ PackKept s t ∧ ParamsKept s t ∧ t.fmg = s.fmg)) ∧
    (let counts := fun (c : Counter) => c.state = .counting ∧ (amounts.lookup c.source).isSome = true
     let more := fun (c : Counter) =>
       match amounts.lookup c.source with
       | some (.units n) => n
       | some (.ticks p) => (c.residue + p) / 8000
       | none => 0
     let added := fun (c : Counter) =>
       if counts c then
         { c with
           value := min 4294967295 (c.value + more c)
           residue := match amounts.lookup c.source with
             | some (.ticks p) => (c.residue + p) % 8000
             | _ => c.residue }
       else c
     ((∀ c ∈ s.icn.counters.toList, counts c → quiet c (more c)) →
       countEvents amounts s = s.setIcn { s.icn with counters := s.icn.counters.map added }) ∧
     (let c := s.icn.counters.get k.toNat
      let t := countEvents amounts s
      k.toNat ≤ 3 → counts c → 1 ≤ more c → ¬ quiet c (more c) → CountersInRange s.icn →
      (∀ i < 4, i ≠ k.toNat →
        (counts (s.icn.counters.get i) → quiet (s.icn.counters.get i) (more (s.icn.counters.get i))) ∧
        ((s.icn.counters.get i).state = .waiting → (s.icn.counters.get i).start = some k.toNat →
          quiet (s.icn.counters.get i) 0)) →
      t.icn.counters = ((s.icn.counters.map added).map freed).put k.toNat (reachedNow (added c)) ∧
      (c.options.notify = false → t.mpt = s.mpt ∧ t.icn.pending = s.icn.pending) ∧
      (c.options.notify = true →
        t.mpt = (raise (.counterReached (s.icn.pending.put k.toNat true) s.slc.uptime) s).mpt ∧
        t.icn.pending = (if s.mpt.enables.getLsbD 10 then s.icn.pending.put k.toNat true
          else Four.replicate false))))

/-! ### The host line -/

/-- A frame of the catalogue is its request: HOST_FRAME_RECEIVED with the request's kind and payload does what the
request's own command does, and SET_PARAM with the identifier of a parameter that has a command of its own does what
that command does. The model's choices in it: log 10. -/
def Obligations.FrameIsItsRequest : Prop :=
  ∀ (tag x y z w b c o r : Byte) (s : State),
    let f := fun (kind : Byte) (payload : List Byte) => exec (.hostFrameReceived kind tag payload) s
    f 0x01#8 [] = exec (.identify tag) s ∧ f 0x02#8 [] = exec (.status tag) s ∧
    f 0x03#8 [x] = exec (.getParam tag x) s ∧ f 0x04#8 [b, x, y, z, w] = exec (.setParam tag b (word32 x y z w)) s ∧
    (let own := fun (id : Byte) => f 0x04#8 [id, x, y, z, w]
     let v := word32 x y z w
     own 0x72#8 = exec (.setTriggerMode tag v) s ∧ own 0x57#8 = exec (.setOpticalMode tag v) s ∧
     own 0x52#8 = exec (.setEmitterCurrent tag v) s ∧ own 0x51#8 = exec (.setEmitterCarrier tag v) s ∧
     own 0x3B#8 = exec (.setFullCapacity tag v) s ∧ own 0x70#8 = exec (.setIdleSleepS tag v) s ∧
     own 0x36#8 = exec (.setReserve tag v) s) ∧
    f 0x05#8 [x, y] = exec (.noticeMask tag (word16 x y)) s ∧ f 0x06#8 [] = exec (.reset tag) s ∧
    f 0x07#8 [] = exec (.sleep tag) s ∧ f 0x08#8 [] = exec (.ship tag) s ∧
    f 0x10#8 [] = exec (.runStart tag) s ∧ f 0x11#8 [] = exec (.runStop tag) s ∧
    f 0x12#8 [x] = exec (.stepSelect tag x) s ∧ f 0x13#8 [x] = exec (.editBegin tag x) s ∧
    f 0x14#8 [b, x, y, z, w] = exec (.editSet tag b (word32 x y z w)) s ∧ f 0x15#8 [] = exec (.editCommit tag) s ∧
    f 0x16#8 [] = exec (.editAbort tag) s ∧ f 0x17#8 [] = exec (.profileRead tag) s ∧
    f 0x18#8 [] = exec (.tripClear tag) s ∧ f 0x19#8 [x] = exec (.faultRead tag x) s ∧
    f 0x20#8 [x] = exec (.bandMode tag x) s ∧ f 0x21#8 [] = exec (.bandClear tag) s ∧
    f 0x22#8 [x] = exec (.bandRead tag x) s ∧ f 0x23#8 [b, c, x, y, z] = exec (.bandWrite tag b c (word16 x y) z) s ∧
    f 0x24#8 [] = exec (.dirtRead tag) s ∧ f 0x28#8 [] = exec (.cellRead tag) s ∧
    f 0x29#8 [] = exec (.cellResetMinmax tag) s ∧ f 0x2A#8 [] = exec (.gaugeRead tag) s ∧
    f 0x2B#8 [x, y] = exec (.gaugeAdjust tag (word16 x y)) s ∧ f 0x2C#8 [0#8] = exec (.chargeEnable tag) s ∧
    f 0x2C#8 [1#8] = exec (.chargeDisable tag) s ∧ f 0x2C#8 [2#8] = exec (.chargePause tag) s ∧
    f 0x2C#8 [3#8] = exec (.chargeResume tag) s ∧ f 0x2C#8 [4#8] = exec (.chargeClear tag) s ∧
    f 0x2D#8 [] = exec (.chargeRead tag) s ∧ f 0x2E#8 [] = exec (.dockRead tag) s ∧
    f 0x30#8 [b, c, x, y, z, w, o, r] = exec (.counterSetup tag b c (word32 x y z w) o r) s ∧
    f 0x31#8 [] = exec (.counterRead tag) s ∧ f 0x32#8 [b, x, y, z, w] = exec (.counterAdjust tag b (word32 x y z w)) s

/-- A well-formed frame that is no RESET, judged in order: dropped with two replies queued, OVERLAP with a request
outstanding, UNKNOWN_KIND outside the catalogue, MALFORMED at another length, and otherwise served. A frame in
SLEEP wakes the part, with cause LINK, and is served in ON. The model's choices in it: log 10, 11, 36. -/
def Obligations.FrameJudged : Prop :=
  ∀ (kind tag : Byte) (payload : List Byte) (s : State),
    (s.slc.power = .on → 1 ≤ kind.toNat → kind.toNat ≤ 0x3F →
     payload.length ≤ 60 → kind ≠ 0x06#8 →
     let u := beginTransmission s
     let heard := { u.mpt with rx := .hunt, rxBytes := [], rxGap := 0 }
     let overlap := replyTo kind tag .overlap .empty
     let c := Instr.hostFrameReceived kind tag payload
     (2 ≤ s.mpt.replies.length → exec c s = .next (idled (u.setMpt { heard with dropped := true }))) ∧
     (s.mpt.replies.length < 2 → s.mpt.outstanding.isSome = true → exec c s =
       .next (idled (u.setMpt { heard with
         replies := s.mpt.replies ++ [overlap], tx := some (u.mpt.tx.getD (.reply overlap)) }))) ∧
     (Accepts s → knownKind kind.toNat = false → exec c s = .next (replied kind tag .unknownKind .empty u)) ∧
     (Accepts s → knownKind kind.toNat = true → requestServed kind.toNat payload = none →
       exec c s = .next (replied kind tag .malformed .empty u)) ∧
     (Accepts s → kind = 0x01#8 → payload = [] →
       exec c s = .next (replied kind tag .ok (.identity 0x0B#8 0x0310#16 1#8 1#8) u))) ∧
    (s.slc.power = .sleep → kind ≠ 0x06#8 →
     exec (.hostFrameReceived kind tag payload) s = exec (.hostFrameReceived kind tag payload) (wake .link s) ∧
       (s.drs.triggerClaim = false → s.drs.hostClaim = false → s.drs.record.runDemand = false →
         (wake .link s).slc = { s.slc with power := .on, wakeCause := .link, idle := 0 } ∧
           (wake .link s).mdr = s.mdr ∧ (wake .link s).drs = s.drs ∧
           (wake .link s).pkm = { s.pkm with
             lastOnStart := none, interval := intervalOf .on s.mdr.state s.chc.state }))

/-- A frame discarded, for a fault of the bytes or for a gap: the receiver hunts again, LINK_ERR is set and raised
with the reason, and the line was active. A byte on the host line: in HUNT one other than SYNC is ignored, SYNC
begins a frame, and a byte of a frame without its stop bit discards it. The model's choices in it: log 10, 11, 36. -/
def Obligations.LineBytes : Prop :=
  ∀ (reason : DiscardReason) (b : Byte) (stop : Bool) (s : State),
    (s.slc.power = .on → reason ≠ .gap →
     let u := beginTransmission s
     let hunting := u.setMpt { u.mpt with rx := .hunt, rxBytes := [], rxGap := 0, linkErr := true }
     exec (.hostFrameDiscard reason) s =
         .next (beginTransmission (idled (raiseNotified .linkErr (.reason reason) hunting))) ∧
       exec .hostFrameGap s = .next (beginTransmission (idled (raiseNotified .linkErr (.reason .gap) hunting))) ∧
       (raiseNotified .linkErr (.reason reason) hunting).fmg.table.linkErr =
         { count := min 255 (s.fmg.table.linkErr.count + 1), uptime := s.slc.uptime, detail := .reason reason }) ∧
    (s.slc.power = .on →
     let u := beginTransmission s
     (s.mpt.rx = .hunt → b ≠ 0xC3#8 ∨ stop = false → exec (.linkWake b stop) s = .next u) ∧
     (s.mpt.rx = .hunt → exec (.linkWake 0xC3#8 true) s =
       .next (u.setMpt { u.mpt with rx := .header, rxBytes := [], rxGap := 0 })) ∧
     (s.mpt.rx ≠ .hunt → exec (.linkWake b false) s = exec (.hostFrameDiscard .framing) s))

/-- The receiver reads back what the line's frames spell: the bytes of a frame, from SYNC to CRC, each taken by
LINK_WAKE, leave the part as the frame received whole leaves it. The model's choices in it: log 10, 11, 36. -/
def Obligations.BytesSpellFrame : Prop :=
  ∀ (kind tag : Byte) (payload : List Byte) (s : State), s.slc.power ≠ .ship → s.mpt.rx = .hunt →
    1 ≤ kind.toNat → kind.toNat ≤ 0x3F → payload.length ≤ 60 →
    afterBytes (hostFrame kind tag payload) s = after (.hostFrameReceived kind tag payload) s

/-- The transmitter, when free, takes the oldest reply, and otherwise the oldest notice, which then leaves its queue;
it begins nothing while a frame is being sent or the part is not ON. The end of a transmission: a notice's frees the
transmitter; a reply's takes it from the queue and ends the outstanding request, unless it answered OVERLAP; the
transmitter then takes up what waits. The model's choices in it: log 9, 11, 49. -/
def Obligations.Transmissions : Prop :=
  ∀ (r : Reply) (rs : List Reply) (e : NoticeEntry) (es : List NoticeEntry) (s : State),
    ((s.slc.power ≠ .on ∨ s.mpt.tx.isSome = true → beginTransmission s = s) ∧
     (s.slc.power = .on → s.mpt.tx = none → s.mpt.replies = r :: rs →
       beginTransmission s = s.setMpt { s.mpt with tx := some (.reply r) }) ∧
     (s.slc.power = .on → s.mpt.tx = none → s.mpt.replies = [] → s.mpt.notices = e :: es →
       (beginTransmission s).mpt = { s.mpt with tx := some (.notice e), notices := es } ∧
         (beginTransmission s).icn.pending = (if e.notice.index = 10 then Four.replicate false else s.icn.pending))) ∧
    (s.slc.power ≠ .ship →
     (s.mpt.tx = none → exec .transmitEnd s = .next (beginTransmission s)) ∧
     (s.mpt.tx = some (.notice e) →
       exec .transmitEnd s = .next (beginTransmission (s.setMpt { s.mpt with tx := none }))) ∧
     (s.mpt.tx = some (.reply r) → r.status = .overlap → exec .transmitEnd s =
       .next (beginTransmission (s.setMpt { s.mpt with tx := none, replies := s.mpt.replies.tail }))) ∧
     (s.mpt.tx = some (.reply r) → r.status ≠ .overlap → s.slc.entry = .none → exec .transmitEnd s =
       .next (beginTransmission (s.setMpt { s.mpt with
         tx := none, replies := s.mpt.replies.tail, outstanding := none }))))

/-- A notice raised, RESTARTED or one of an enabled kind: with none pending of its kind it joins the tail; with one
pending it keeps that place, with the newer payload and uptime and one more repeat. A masked kind is not queued, and a
masked COUNTER_REACHED empties the pending reach set. The queue never holds two entries of one kind. -/
def Obligations.NoticeRaised : Prop :=
  ∀ (n : Notice) (e : NoticeEntry) (s : State),
    let queued := n.index = 0 ∨ s.mpt.enables.getLsbD n.index = true
    (queued → (∀ x ∈ s.mpt.notices, x.notice.index ≠ n.index) →
      raise n s = s.setMpt { s.mpt with
        notices := s.mpt.notices ++ [{ notice := n, repeats := 0, uptime := s.slc.uptime }] }) ∧
    (queued → NoticesDistinct s.mpt → e ∈ s.mpt.notices → e.notice.index = n.index →
      raise n s = s.setMpt { s.mpt with
        notices := s.mpt.notices.map fun x =>
          if x.notice.index = n.index then
            { notice := n, repeats := min 255 (x.repeats + 1), uptime := s.slc.uptime }
          else x }) ∧
    (¬ queued → raise n s =
      if n.index = 10 then s.setIcn { s.icn with pending := Four.replicate false } else s) ∧
    (NoticesDistinct s.mpt → NoticesDistinct (raise n s).mpt ∧ s.mpt.notices.length ≤ 14)

/-! ### Trigger and edit timer -/

/-- The debounce: the first determination after a reset is no edge and leaves the re-arm flag with a held trigger; a
press raises a HOLD claim, turns a TOGGLE claim over and leaves HOST_ONLY without one, unless an inhibit stands (the
claim clears and a release is needed) or a release is still needed; a release drops a HOLD claim, leaves a TOGGLE one,
re-arms, and under LENIENT clears a trip whose heat has gone; the host's claim keeps the motor running through both. A
release in SLEEP re-arms alone. Every change of the raw level starts the debounce anew; the edit timer's expiry, at
2,000 ms and not before, discards the edit, records TIMEOUT and raises PROFILE_ABORTED. The model's choices in it: log
9, 11, 28, 36, 47. -/
def Obligations.TriggerAndEditTimer : Prop :=
  ∀ (i : Inhibit) (level : Level) (e : Edit) (s : State),
    (s.slc.power = .on →
     let set := fun (level : Level) (rearm : Bool) =>
       { s.trg with debounced := some level, timer := 0, rearm := rearm }
     let notice := fun (edge : Level) (claim inhibited : Bool) (cause : Option Inhibit) (rearm : Bool) =>
       Notice.trigger { edge := edge, mode := s.trg.mode, claim := claim, inhibited := inhibited, cause := cause
                        rearm := rearm }
     (s.trg.debounced = none → exec .triggerDebounce s =
       .next (beginTransmission (s.setTrg (set s.trg.raw (decide (s.trg.raw = .pressed)))))) ∧
     (s.trg.debounced = some s.trg.raw → exec .triggerDebounce s = .next (beginTransmission s)) ∧
     (s.trg.debounced = some .released → s.trg.raw = .pressed → firstInhibit s = none → s.trg.rearm = false →
       s.trg.mode = .hold ∨ (s.trg.mode = .toggle ∧ s.drs.triggerClaim = false) → s.drs.record.runDemand = false →
       s.mdr.state = .off ∨ (s.mdr.state = .coast ∧ s.mdr.startPending = false) → exec .triggerDebounce s =
         .next (beginTransmission (idled (motorTo .precheck .demand false
           (raise (notice .pressed true false none false)
             ((s.setTrg (set .pressed false)).setDrs { s.drs with
               triggerClaim := true, record := runningRecord s })))))) ∧
     (s.trg.debounced = some .released → s.trg.raw = .pressed → firstInhibit s = none → s.trg.rearm = false →
       s.trg.mode = .toggle → s.drs.triggerClaim = true → s.drs.hostClaim = false →
       runningMotor s.mdr.state = true → s.drs.record.runDemand = true → exec .triggerDebounce s =
         .next (beginTransmission (idled (motorTo .coast .demandFall false
           (raise (notice .pressed false false none false)
             ((s.setTrg (set .pressed false)).setDrs { s.drs with
               triggerClaim := false, record := DemandRecord.idle })))))) ∧
     (s.trg.debounced = some .released → s.trg.raw = .pressed → firstInhibit s = none → s.trg.rearm = false →
       s.trg.mode = .hostOnly → s.drs.triggerClaim = false → DemandFollows s → exec .triggerDebounce s =
         .next (beginTransmission (idled (raise (notice .pressed false false none false)
           (s.setTrg (set .pressed false)))))) ∧
     (s.trg.debounced = some .released → s.trg.raw = .pressed → firstInhibit s = none → s.trg.rearm = false →
       s.drs.hostClaim = true → DemandFollows s →
       let claim := decide (s.trg.mode = .hold) || (decide (s.trg.mode = .toggle) && !s.drs.triggerClaim)
       exec .triggerDebounce s =
         .next (beginTransmission (idled (raise (notice .pressed claim false none false)
           ((s.setTrg (set .pressed false)).setDrs { s.drs with triggerClaim := claim }))))) ∧
     (s.trg.debounced = some .released → s.trg.raw = .pressed → firstInhibit s = some i →
       s.drs.record.runDemand = false → exec .triggerDebounce s =
         .next (beginTransmission (idled (raise (notice .pressed false true (some i) true)
           ((s.setTrg (set .pressed true)).setDrs { s.drs with triggerClaim := false }))))) ∧
     (s.trg.debounced = some .released → s.trg.raw = .pressed → firstInhibit s = none → s.trg.rearm = true →
       DemandFollows s → exec .triggerDebounce s =
         .next (beginTransmission (idled (raise (notice .pressed s.drs.triggerClaim true none true)
           (s.setTrg (set .pressed true)))))) ∧
     (s.trg.debounced = some .pressed → s.trg.raw = .released → s.trg.mode = .hold → s.drs.hostClaim = false →
       runningMotor s.mdr.state = true → s.drs.record.runDemand = true → exec .triggerDebounce s =
         .next (beginTransmission (idled (motorTo .coast .demandFall false
           (raise (notice .released false false (firstInhibit s) false)
             ((s.setTrg (set .released false)).setDrs { s.drs with
               triggerClaim := false, record := DemandRecord.idle })))))) ∧
     (s.trg.debounced = some .pressed → s.trg.raw = .released → s.trg.mode = .hold →
       s.drs.hostClaim = true ∨ s.drs.record.runDemand = false → s.mdr.state ≠ .tripped → DemandFollows s →
       exec .triggerDebounce s =
         .next (beginTransmission (idled (raise (notice .released false false (firstInhibit s) false)
           ((s.setTrg (set .released false)).setDrs { s.drs with triggerClaim := false }))))) ∧
     (s.trg.debounced = some .pressed → s.trg.raw = .released →
       s.trg.mode = .toggle ∨ (s.trg.mode = .hostOnly ∧ s.drs.triggerClaim = false) → s.mdr.state ≠ .tripped →
       DemandFollows s → exec .triggerDebounce s =
         .next (beginTransmission (idled (raise (notice .released s.drs.triggerClaim false (firstInhibit s) false)
           (s.setTrg (set .released false)))))) ∧
     (s.trg.debounced = some .pressed → s.trg.raw = .released → s.mdr.state = .tripped →
       s.drs.triggerClaim = false → s.drs.hostClaim = false → s.drs.record.runDemand = false →
       (s.fmg.strict = false → inverterHot s = false → packHot s = false → Yields (exec .triggerDebounce s) fun t =>
         t.mdr = enteredMdr .off false s.mdr ∧ t.fmg.trip = none ∧ t.trg = set .released false ∧
           t.srg = Srg.reset ∧ (s.chc.state ≠ .qualify ∨ RecordSound s.drs.record → t.drs = s.drs) ∧ t.sbt = s.sbt ∧
           t.slc.idle = 0) ∧
       (s.fmg.strict = true ∨ inverterHot s = true ∨ packHot s = true → exec .triggerDebounce s =
         .next (beginTransmission (idled (raise (notice .released false false (firstInhibit s) false)
           (s.setTrg (set .released false)))))))) ∧
    (s.slc.power = .sleep → s.trg.debounced = some .pressed → s.trg.raw = .released → exec .triggerDebounce s =
      .next (beginTransmission (s.setTrg { s.trg with debounced := some .released, timer := 0, rearm := false }))) ∧
    (s.slc.power ≠ .ship →
     exec (.triggerRawChange level) s =
         .next (beginTransmission (s.setTrg (if level = s.trg.raw then s.trg
           else { s.trg with raw := level, timer := 0 }))) ∧
       (s.drs.edit = none → exec .editTimeout s = .next (beginTransmission s)) ∧
       (s.drs.edit = some e → e.timer < 2000 → exec .editTimeout s = .next (beginTransmission s)) ∧
       (s.drs.edit = some e → 2000 ≤ e.timer → exec .editTimeout s =
         .next (beginTransmission (raise (.profileAborted e.label .timeout)
           (s.setDrs { s.drs with edit := none, lastAbort := ⟨.timeout, e.label⟩ })))))

/-! ### The motor -/

/-- A change of motor state to a state other than OFF, RUN and TRIPPED, from a state other than RUN: the entry,
the notice with the speed at the change, the scan interval, the idle timer and a pending entry; nothing else. The
model's choices in it: log 13. -/
def Obligations.MotorChange : Prop :=
  ∀ (new : MotorState) (cause : MotorCause) (start : Bool) (s : State), s.slc.power = .on →
    new ≠ .off → new ≠ .run → new ≠ .tripped → s.mdr.state ≠ .run →
    motorTo new cause start s =
      raise (.motorState { new := new, old := s.mdr.state, cause := cause, speed := s.mdr.speed
                           attempts := s.mdr.attempts })
        { s with mdr := enteredMdr new start s.mdr, pkm := { s.pkm with interval := .fast }
                 slc := { s.slc with idle := 0, entry := .none } }

/-- PRECHECK's end in its order: a hot inverter stops, a fast rotor is caught, a rotor at rest is aligned, any
other coasts with the start pending; with T_INV not yet measured the decision is held. The model's choices in it:
log 11, 17. -/
def Obligations.PrecheckDecides : Prop :=
  ∀ (t : Int) (s : State), s.slc.power = .on → s.mdr.state = .precheck →
    (s.mdr.tInv = none → exec .precheckEnd s =
      .next (beginTransmission (s.setMdr { s.mdr with precheckHeld := true }))) ∧
    (s.mdr.tInv = some t → t < s.motorPar.invCut → s.motorPar.catchSpeed ≤ offGatesSpeed s.mdr → exec .precheckEnd s =
      .next (beginTransmission (motorTo .catching .catchable false s))) ∧
    (s.mdr.tInv = some t → t < s.motorPar.invCut → offGatesSpeed s.mdr < s.motorPar.catchSpeed →
      belowStop s.mdr = true → exec .precheckEnd s = .next (beginTransmission (motorTo .align .atRest false s))) ∧
    (s.mdr.tInv = some t → t < s.motorPar.invCut → offGatesSpeed s.mdr < s.motorPar.catchSpeed →
      belowStop s.mdr = false → exec .precheckEnd s =
        .next (beginTransmission (motorTo .coast .spinning true s))) ∧
    (s.mdr.tInv = some t → s.motorPar.invCut ≤ t → Yields (exec .precheckEnd s) fun x =>
      x.mdr.state = .tripped ∧ x.mdr.gates = none ∧
        (∃ r, x.fmg.trip = some r ∧ r.first = .invHot ∧ r.detail = .celsius t ∧ r.motor = .precheck))

/-- ALIGN ends in RAMP with the field at sector 0 and at rest; RESTART_WAIT ends in ALIGN, the pair of sector 5
driven. The ramp: every ramp tick turns the field by the increment and changes the sector where the angle crosses
into the next, appending the sector's period; every ms adds ramp_accel; the ramp speed is the reported speed. The
model's choices in it: log 11, 18. -/
def Obligations.StartTurns : Prop :=
  ∀ (s : State),
    (s.slc.power = .on →
     (s.mdr.state = .align → Yields (exec .alignEnd s) fun t =>
       t.mdr = { s.mdr with
         state := .ramp, startPending := false, stateTimer := 0, precheckHeld := false, catchLimit := none
         gates := some 0, schedule := none, sector := 0, rampAngle := 0, rampInc := 0, rampTicks := 0
         rampFirst := true, ts := 0, seen := false, windowShut := false, speed := 0 } ∧
       t.trg = s.trg ∧ t.drs = s.drs ∧ t.srg = s.srg ∧ t.sbt = s.sbt ∧ t.blm = s.blm ∧ t.dse = s.dse ∧
       t.gge = s.gge ∧ t.chc = s.chc ∧ t.dlk = s.dlk ∧ t.fmg = s.fmg ∧ ParamsKept s t ∧ RestKept s t) ∧
     (s.mdr.state = .restartWait → Yields (exec .restartWaitEnd s) fun t =>
       t.mdr = { s.mdr with
         state := .align, startPending := false, stateTimer := 0, precheckHeld := false, catchLimit := none
         gates := some 5, schedule := none, speed := 0 } ∧
       t.trg = s.trg ∧ t.drs = s.drs ∧ t.srg = s.srg ∧ t.sbt = s.sbt ∧ t.blm = s.blm ∧ t.dse = s.dse ∧
       t.gge = s.gge ∧ t.chc = s.chc ∧ t.dlk = s.dlk ∧ t.fmg = s.fmg ∧ ParamsKept s t ∧ RestKept s t)) ∧
    (s.slc.power = .on → s.mdr.state = .ramp →
     let angle := s.mdr.rampAngle + s.mdr.rampInc
     let sector := angle.toNat * 6 / 65536
     let inc := s.mdr.rampInc + BitVec.ofNat 16 s.motorPar.rampAccel
     let speed := inc.toNat * 1200000 / 65536
     exec .rampTick s =
         .next (beginTransmission (s.setMdr
           (if sector = s.mdr.sector then { s.mdr with rampAngle := angle, rampTicks := s.mdr.rampTicks + 1 }
           else
             { s.mdr with
               rampAngle := angle, rampTicks := 0, sector := sector, gates := some sector
               ts := (s.mdr.rampTicks + 1) * 400, periods := appendPeriod ((s.mdr.rampTicks + 1) * 400) s.mdr.periods
               crossings := if s.mdr.seen then s.mdr.crossings else 0, rampFirst := false, seen := false
               windowShut := false, blankFrac := s.motorPar.blankFrac }))) ∧
       (speed ≤ s.motorPar.handoverSpeed * 3 / 2 → exec .rampAccelTick s =
         .next (beginTransmission (s.setMdr { s.mdr with rampInc := inc, speed := speed }))))

/-- A failed start, by the ramp's time limit, its speed limit, or a missed HANDOVER crossing: the first and second
wait for another attempt with the gates off; the third trips with START_FAIL. The model's choices in it: log 6,
18. -/
def Obligations.StartFails : Prop :=
  ∀ (im : Int) (s : State), s.slc.power = .on → s.drs.record.runDemand = true → DemandFollows s →
    let failed := fun (cause : MotorCause) (o : Host.Outcome State Fault Refusal) =>
      (s.mdr.attempts < 2 → Yields o fun t =>
        t.mdr.state = .restartWait ∧ t.mdr.attempts = s.mdr.attempts + 1 ∧ t.mdr.gates = none ∧ t.mdr.speed = 0 ∧
          t.drs = s.drs ∧ t.fmg = s.fmg ∧ t.srg = s.srg ∧ t.chc = s.chc ∧ t.dlk = s.dlk) ∧
      (2 ≤ s.mdr.attempts → Yields o fun t =>
        t.mdr.state = .tripped ∧ t.mdr.attempts = 0 ∧ t.mdr.gates = none ∧ t.drs.record.runDemand = false ∧
          (t.fmg.trip.map fun r => (r.first, r.detail, r.motor)) = some (.startFail, .cause cause, s.mdr.state))
    (s.mdr.state = .ramp → failed .rampTimeout (exec .rampTimeout s)) ∧
    (s.mdr.state = .ramp →
      s.motorPar.handoverSpeed * 3 / 2 < rampSpeed (s.mdr.rampInc + BitVec.ofNat 16 s.motorPar.rampAccel) →
      failed .rampOverspeed (exec .rampAccelTick s)) ∧
    (s.mdr.state = .handover → s.mdr.seen = false → failed .handoverMiss (exec (.windowClose im) s))

/-- A crossing with the gates off: the first of a sequence counts 1; one in sequence counts on and appends its
interval, which gives the speed down to stop speed; one out of sequence starts anew, with count 1; in CATCH the count
returns to 0 instead, and the limit restarts; one in sequence but late is there the first of the next sequence, and
with six counted the limit stops. In COAST a crossing out of sequence, or one after more than 26,666 ticks, ends COAST.
The timers of a turning rotor: CATCH's limit ends in COAST with the start pending, a missed crossing of CATCH returns
its count to 0, and below stop speed or at its timeout COAST ends in OFF, or in PRECHECK with a start pending, and a
CHC that waited in QUALIFY is judged at the entry to OFF. The model's choices in it: log 11, 14, 15, 21, 22, 23. -/
def Obligations.TurningRotor : Prop :=
  ∀ (phase : Phase) (rising : Bool) (t d : Nat) (s : State),
    (s.slc.power = .on → 1 ≤ t →
     let sector := sectorNamed phase rising
     let inTurn := fun (p : Nat) => sector = (p + 1) % 6
     let first := { s.mdr with
       crossings := 1, lastNamed := some sector, lastInterval := none, quiet := false, speed := 0 }
     let counted := { s.mdr with
       crossings := min 12 (s.mdr.crossings + 1), lastNamed := some sector, lastInterval := some t, quiet := false
       periods := appendPeriod t s.mdr.periods, speed := if t ≤ 26666 then 80000000 / t else 0 }
     (s.mdr.state = .precheck → s.mdr.lastNamed = none ∨ (∃ p ∈ s.mdr.lastNamed, ¬ inTurn p) →
       exec (.bemfCrossing phase rising t d) s = .next (beginTransmission (s.setMdr first))) ∧
     (s.mdr.state = .precheck → (∃ p ∈ s.mdr.lastNamed, inTurn p) → 1 ≤ s.mdr.crossings →
       exec (.bemfCrossing phase rising t d) s = .next (beginTransmission (s.setMdr counted))) ∧
     (s.mdr.state = .catching → s.mdr.lastNamed = none → s.mdr.lastInterval = none →
       exec (.bemfCrossing phase rising t d) s = .next (beginTransmission (s.setMdr first))) ∧
     (s.mdr.state = .catching → (∃ p ∈ s.mdr.lastNamed, inTurn p) → 1 ≤ s.mdr.crossings → s.mdr.crossings < 11 →
       (∀ ts, s.mdr.lastInterval = some ts → t ≤ ts * 3 / 2) → exec (.bemfCrossing phase rising t d) s =
         .next (beginTransmission (s.setMdr { counted with
           catchLimit := if 5 ≤ s.mdr.crossings then none else s.mdr.catchLimit }))) ∧
     (s.mdr.state = .catching → (∃ p ∈ s.mdr.lastNamed, inTurn p) → (∃ ts ∈ s.mdr.lastInterval, ts * 3 / 2 < t) →
       exec (.bemfCrossing phase rising t d) s =
         .next (beginTransmission (s.setMdr { first with catchLimit := some 0 }))) ∧
     (s.mdr.state = .coast → s.mdr.lastNamed = none → exec (.bemfCrossing phase rising t d) s =
       .next (beginTransmission (s.setMdr first))) ∧
     (s.mdr.state = .coast → (∃ p ∈ s.mdr.lastNamed, inTurn p) → 1 ≤ s.mdr.crossings → t ≤ 26666 →
       exec (.bemfCrossing phase rising t d) s = .next (beginTransmission (s.setMdr counted))) ∧
     (s.mdr.state = .coast → (∃ p ∈ s.mdr.lastNamed, inTurn p) → 1 ≤ s.mdr.crossings → 26666 < t →
       exec (.bemfCrossing phase rising t d) s = .next (beginTransmission
         (motorTo (if s.mdr.startPending then .precheck else .off) .slowed false (s.setMdr counted)))) ∧
     (s.mdr.state = .coast → (∃ p ∈ s.mdr.lastNamed, ¬ inTurn p) → s.mdr.startPending = false →
       exec (.bemfCrossing phase rising t d) s =
         .next (beginTransmission (motorTo .off .slowed false (s.setMdr first)))) ∧
     (s.mdr.state = .catching → (∃ p ∈ s.mdr.lastNamed, ¬ inTurn p) → exec (.bemfCrossing phase rising t d) s =
       .next (beginTransmission (s.setMdr { s.mdr with
         crossings := 0, lastNamed := none, lastInterval := none, speed := 0, catchLimit := some 0 }))) ∧
     (s.mdr.state = .coast → (∃ p ∈ s.mdr.lastNamed, ¬ inTurn p) → s.mdr.startPending = true →
       Yields (exec (.bemfCrossing phase rising t d) s) fun x =>
         x.mdr.state = .precheck ∧ x.mdr.periods = [] ∧ x.drs = s.drs ∧ x.fmg = s.fmg ∧ x.srg = s.srg)) ∧
    (s.slc.power = .on →
     (s.mdr.state = .catching → s.mdr.catchLimit.isSome = true → exec .catchLimitExpiry s =
       .next (beginTransmission (motorTo .coast .catchFail true s))) ∧
     (s.mdr.state = .catching → s.mdr.lastInterval.isSome = true → exec .catchCrossingTimeout s =
       .next (beginTransmission (s.setMdr { s.mdr with
         crossings := 0, lastNamed := none, lastInterval := none, speed := 0, catchLimit := some 0 }))) ∧
     (s.mdr.state = .precheck ∨ s.mdr.state = .catching → exec .rotorStopTimeout s =
       .next (beginTransmission (s.setMdr { s.mdr with quiet := true, speed := 0 }))) ∧
     (s.mdr.state = .coast → s.mdr.startPending = true →
       exec .coastTimeout s = .next (beginTransmission (motorTo .precheck .coastTimeout false s)) ∧
       exec .rotorStopTimeout s = .next (beginTransmission (motorTo .precheck .slowed false
         (s.setMdr { s.mdr with quiet := true, speed := 0 })))) ∧
     (s.mdr.state = .coast → s.mdr.startPending = false → s.chc.state ≠ .qualify →
       Yields (exec .coastTimeout s) (fun t =>
         t.mdr = enteredMdr .off false s.mdr ∧ t.srg = Srg.reset ∧ t.pkm.iSag = s.packPar.iMax ∧ t.drs = s.drs ∧
           t.chc = s.chc ∧ t.dlk = s.dlk ∧ t.gge = s.gge ∧ t.fmg = s.fmg) ∧
       Yields (exec .rotorStopTimeout s) (fun t => t.mdr.state = .off ∧ t.srg = Srg.reset ∧ t.drs = s.drs)) ∧
     (s.mdr.state = .coast → s.mdr.startPending = false → s.chc.state = .qualify →
       let parked := fun (t : State) =>
         t.mdr.state = .off ∧ t.srg = Srg.reset ∧ t.pkm.iSag = s.packPar.iMax ∧ t.gge = s.gge ∧
         t.chc = qualifyJudged true s.dlk.state (grantInForce s.dlk) s.pkm.chargeAllowance s.chargePar.prechargeMv
           (s.pkm.cells.toList.any (·.ov)) (vmin s.pkm) s.chc ∧
         t.dlk = if t.chc.state = .fault then releasedDlk .fault s.dlk else s.dlk
       Yields (exec .coastTimeout s) parked ∧ Yields (exec .rotorStopTimeout s) parked))

/-- A crossing in a driven sector: before Ts × blank_frac / 256 or d, after Ts × 3 / 2, in a window shut, or of another
phase or direction than the one expected, it is ignored; in RUN it is seen, the advance is the band's own where the
table serves and holds one, else fixed_advance, and the commutation scheduled; the twelfth of RAMP enters HANDOVER at
handover_speed and is counted alone below it; HANDOVER's second to fifth are counted and schedule. RUN is entered at
HANDOVER's sixth crossing and at CATCH's twelfth: attempts 0, the ceiling full, a catch seeded from the rotor's own
speed, the blockage timer and a dirt window begun, the start counted. The model's choices in it: log 4, 11, 13, 16, 41.
-/
def Obligations.DrivenCrossings : Prop :=
  ∀ (phase : Phase) (rising : Bool) (t d : Nat) (s : State),
    (s.slc.power = .on →
     let m := s.mdr
     let expected : Phase × Bool := match m.sector with
       | 0 => (.w, false)
       | 1 => (.v, true)
       | 2 => (.u, false)
       | 3 => (.w, true)
       | 4 => (.v, false)
       | _ => (.u, true)
     let window := decide ((phase, rising) = expected ∧ m.windowShut = false ∧ m.ts * m.blankFrac / 256 ≤ t ∧ d ≤ t ∧
       t ≤ m.ts * 3 / 2)
     let sum := if m.periods.length < 6 then m.periods.sum * 6 / m.periods.length else m.periods.sum
     let entry := bandAt s.sbt (min 15 ((speedOfSum sum - 20000) / 6000))
     let advance := if s.sbt.mode ≠ .off ∧ s.sbt.clearTimer = none ∧ entry.advValid = true then entry.advance
       else s.motorPar.fixedAdvance
     (s.mdr.state = .run ∨ s.mdr.state = .handover ∨ s.mdr.state = .ramp → window = false →
       exec (.bemfCrossing phase rising t d) s = .next (beginTransmission s)) ∧
     (s.mdr.state = .run → window = true → exec (.bemfCrossing phase rising t d) s =
       .next (beginTransmission ((s.setSbt { s.sbt with lastAdvance := advance }).setMdr { s.mdr with
         seen := true, windowShut := true, misses := 0
         offsetSum := s.mdr.offsetSum + (((t : Int) - ((s.mdr.ts / 2 : Nat) : Int)) - d)
         offsetCount := s.mdr.offsetCount + 1
         schedule := some (t + s.mdr.ts * (60 - advance) / 120) }))) ∧
     (s.mdr.state = .ramp → s.mdr.rampFirst = false → window = true → s.mdr.crossings < 11 →
       exec (.bemfCrossing phase rising t d) s =
         .next (beginTransmission (s.setMdr { s.mdr with
           seen := true, windowShut := true, crossings := s.mdr.crossings + 1 }))) ∧
     (s.mdr.state = .ramp → s.mdr.rampFirst = false → window = true → 11 ≤ s.mdr.crossings →
       rampSpeed s.mdr.rampInc < s.motorPar.handoverSpeed → exec (.bemfCrossing phase rising t d) s =
         .next (beginTransmission (s.setMdr { s.mdr with seen := true, windowShut := true, crossings := 12 }))) ∧
     (s.mdr.state = .handover → window = true → s.mdr.handoverCount < 5 → exec (.bemfCrossing phase rising t d) s =
       .next (beginTransmission ((s.setSbt { s.sbt with lastAdvance := advance }).setMdr { s.mdr with
         handoverCount := s.mdr.handoverCount + 1, seen := true, windowShut := true, misses := 0
         offsetSum := s.mdr.offsetSum + (((t : Int) - ((s.mdr.ts / 2 : Nat) : Int)) - d)
         offsetCount := s.mdr.offsetCount + 1
         schedule := some (t + s.mdr.ts * (60 - advance) / 120) }))) ∧
     (s.mdr.state = .ramp → s.mdr.rampFirst = false → window = true → 11 ≤ s.mdr.crossings →
       s.motorPar.handoverSpeed ≤ rampSpeed s.mdr.rampInc →
       Yields (exec (.bemfCrossing phase rising t d) s) fun x =>
         x.mdr.state = .handover ∧ x.mdr.handoverCount = 1 ∧ x.mdr.schedule.isSome = true ∧
           x.srg = { s.srg with
             dc := 4095, acc := s.motorPar.rampDuty * 1024, duty := s.motorPar.rampDuty
             st := speedOfSum s.mdr.periods.sum, heldHigh := false, heldLow := false } ∧
           x.drs = s.drs ∧ x.fmg = s.fmg)) ∧
    (s.slc.power = .on →
     let sector := sectorNamed phase rising
     let speed := speedOfSum (appendPeriod t s.mdr.periods).sum
     let duty := min 4095 (speed * s.motorPar.kvDuty / 1000)
     let entered := fun (x : State) =>
       x.mdr.state = .run ∧ x.mdr.attempts = 0 ∧ x.mdr.seen = true ∧ x.mdr.schedule.isSome = true ∧ x.srg.dc = 4095 ∧
         x.blm.normalTimer = some 0 ∧ x.dse.window.map (fun w => (w.timer, w.length)) = some (0, s.dirtPar.window) ∧
         x.icn.counters = (countEvent .starts (.units 1) s).icn.counters ∧
         x.drs = s.drs ∧ x.fmg = s.fmg ∧ x.gge = s.gge ∧ ParamsKept s x
     (s.mdr.state = .handover → inWindow s.mdr phase rising t d = true → 5 ≤ s.mdr.handoverCount →
       Yields (exec (.bemfCrossing phase rising t d) s) fun x => entered x ∧ x.srg.st = s.srg.st ∧ x.srg.acc = s.srg.acc) ∧
     (s.mdr.state = .catching → (∃ p ∈ s.mdr.lastNamed, sector = (p + 1) % 6) → catchLate t s.mdr = false →
       11 ≤ s.mdr.crossings → Yields (exec (.bemfCrossing phase rising t d) s) fun x =>
         entered x ∧ x.srg.st = speed ∧ x.srg.duty = duty ∧ x.srg.acc = duty * 1024 ∧ x.mdr.sector = sector))

/-- A scheduled commutation drives the next sector, appends the period and takes blank_frac as it stands; every sixth
in RUN ends an electrical revolution, at which the regulator acts, with run demand false the speed and the sample
alone, a qualifying sample is learned by the entry of its band, the Blockage Monitor compares it with the band's load
(into SUSPECT, back to NORMAL, RETRYING's timers), the dirt window adds the speed to its sum, and the time sources
count the revolution. The model's choices in it: log 9, 11, 39, 45. -/
def Obligations.CommutationSteps : Prop :=
  ∀ (im : Int) (p : Nat) (s : State), s.slc.power = .on → s.mdr.schedule = some p →
    let next := (s.mdr.sector + 1) % 6
    let m := { s.mdr with
      sector := next, gates := some next, ts := p, periods := appendPeriod p s.mdr.periods, seen := false
      windowShut := false, schedule := none, blankFrac := s.motorPar.blankFrac }
    (s.mdr.state = .handover → exec (.commutation im) s =
      .next (beginTransmission (s.setMdr { m with speed := listSpeed m.periods }))) ∧
    (s.mdr.state = .run → s.mdr.revCount < 5 → exec (.commutation im) s =
      .next (beginTransmission (s.setMdr { m with revCount := s.mdr.revCount + 1 }))) ∧
    (s.mdr.state = .run → 5 ≤ s.mdr.revCount → Yields (exec (.commutation im) s) fun t =>
      let r := if s.drs.record.runDemand then regulated s (speedOfSum m.periods.sum) (measuredIm im) else s.srg
      t.srg = { r with sample := some (sampleOf r.st (speedOfSum m.periods.sum) m.periods.sum (measuredIm im)
        (crossingOffset s.mdr)) } ∧
      t.mdr = { m with speed := speedOfSum m.periods.sum, revCount := 0, offsetSum := 0, offsetCount := 0 } ∧
      (let x := sampleOf r.st (speedOfSum m.periods.sum) m.periods.sum (measuredIm im) (crossingOffset s.mdr)
       let band := bandIndex x.speed
       t.sbt = (if x.onTarget = true ∧ s.blm.state = .normal ∧ s.sbt.mode ≠ .locked ∧ s.sbt.clearTimer = none then
           putBand s.sbt band (learnedBand x s.sbt.lastAdvance
             (decide (s.dse.level = .clean ∨ s.dse.level = .light)) (bandAt s.sbt band))
         else s.sbt) ∧
       t.icn.counters = (countEvents ((.runTime, .ticks x.period) ::
         (if 0 < s.drs.record.boost then [(.boostTime, .ticks x.period)] else [])) s).icn.counters ∧
       (let entry := bandAt s.sbt band
        let reference := if s.sbt.mode ≠ .off ∧ s.sbt.clearTimer = none ∧ entry.loadValid = true then entry.loadRef
          else none
        let low := reference.any fun l => x.onTarget && decide (x.im < l * s.blockPar.ratio / 256)
        let hit := reference.map fun l => ({ band := band, im := x.im, loadRef := l } : BlockageHit)
        let running := fun (timer : Option Nat) => some (timer.getD 0)
        t.blm = match s.blm.state with
          | .normal => if low then
              { s.blm with state := .suspect, blockTimer := some 0, normalTimer := none, lastHit := hit }
            else s.blm
          | .suspect => if low then { s.blm with lastHit := hit }
            else { s.blm with
              state := .normal, blockTimer := none, retryTimer := none, clearTimer := none, noRefTimer := none
              targetReached := false, normalTimer := some 0 }
          | .blocked => s.blm
          | .retrying => if s.blm.targetReached = false ∧ x.st ≠ s.drs.record.sReq then s.blm
            else if low then { s.blm with
              targetReached := true, blockTimer := running s.blm.blockTimer, clearTimer := none, noRefTimer := none
              lastHit := hit }
            else if reference.isSome then { s.blm with
              targetReached := true, clearTimer := running s.blm.clearTimer, blockTimer := none, noRefTimer := none }
            else { s.blm with
              targetReached := true, noRefTimer := running s.blm.noRefTimer, blockTimer := none
              clearTimer := none }) ∧
       t.dse = { s.dse with window := s.dse.window.map fun w =>
         { w with speedSum := w.speedSum + x.speed, speedCount := w.speedCount + 1 } }) ∧
      t.trg = s.trg ∧ t.chc = s.chc ∧ t.pkm = s.pkm ∧ t.gge = s.gge ∧ t.dlk = s.dlk ∧ t.fmg = s.fmg ∧ ParamsKept s t) ∧
    (s.mdr.state ≠ .handover → s.mdr.state ≠ .run → exec (.commutation im) s = .next (beginTransmission s))

/-- The regulator's revolution end, `regulated`, which CommutationSteps says is what the sixth commutation makes of the
regulator: the target slews toward S_req and never past it, whatever the speed; the ceiling falls with a mean current
above I_c, a mean below 0 being taken as 0, climbs by dc_step at most to full duty, or holds in the dead band; the
integral takes ki times the error, which is held within 20,000, unless the last duty was pinned at the bound the error
points to; the duty is kp times the error over 1,024 and the integral over 1,024, both held between 0 and the ceiling.
-/
def Obligations.RegulatorActs : Prop :=
  ∀ (speed : Nat) (mean : Int) (s : State),
    let im := (max 0 mean).toNat
    let r := regulated s speed (measuredIm mean)
    let up := s.drs.profile.upRate
    let down := s.drs.profile.downRate
    let q := s.drs.record
    let e := max (-20000) (min 20000 ((r.st : Int) - speed))
    let top : Int := r.dc * 1024
    let pinned := (s.srg.heldHigh = true ∧ 0 < e) ∨ (s.srg.heldLow = true ∧ e < 0)
    (s.srg.st < q.sReq → r.st = min (s.srg.st + up) q.sReq) ∧
    (q.sReq < s.srg.st → r.st = max (s.srg.st - down) q.sReq) ∧
    (s.srg.st = q.sReq → r.st = s.srg.st) ∧
    (q.iC < im → r.dc = s.srg.dc - max 1 (s.srg.dc * (im - q.iC) / im) ∧ r.dc ≤ s.srg.dc ∧
      (s.srg.dc ≠ 0 → r.dc < s.srg.dc)) ∧
    (im < q.iC - q.iC / 16 → r.dc = min 4095 (s.srg.dc + s.motorPar.dcStep)) ∧
    (im ≤ q.iC → q.iC - q.iC / 16 ≤ im → r.dc = s.srg.dc) ∧ (s.srg.dc ≤ 4095 → r.dc ≤ 4095) ∧
    (r.acc : Int) = max 0 (min top (if pinned then (s.srg.acc : Int) else s.srg.acc + s.motorPar.ki * e)) ∧
    (r.duty : Int) = max 0 (min (r.dc : Int) ((s.motorPar.kp * e).tdiv 1024 + (r.acc / 1024 : Nat))) ∧
    r.duty ≤ r.dc ∧ r.acc ≤ r.dc * 1024 ∧ (r.heldHigh = true ↔ r.duty = r.dc) ∧ (r.heldLow = true ↔ r.duty = 0)

/-- A window of RUN closes without a crossing: the motor commutates at the close and counts the miss; the sixth
raises SYNC_LOSS. Under RESTART the restart history first drops every entry of 2,000 ms or more; with fewer than two
left the uptime joins it and the motor starts anew, with two left the loss is the third and trips with SYNC_LOSS, the
history emptied. In RAMP the window shuts alone; a window whose crossing was seen closes without effect. The model's
choices in it: log 11, 18, 19. -/
def Obligations.WindowsClose : Prop :=
  ∀ (im : Int) (s : State), s.slc.power = .on →
    let young := fun (l : List Uptime) => l.filter fun u => decide ((s.slc.uptime - u).toNat < 2000)
    (s.mdr.seen = true → exec (.windowClose im) s = .next (beginTransmission s)) ∧
    (s.mdr.seen = false → s.mdr.state = .ramp → exec (.windowClose im) s =
      .next (beginTransmission (s.setMdr { s.mdr with windowShut := true }))) ∧
    (s.mdr.seen = false → s.mdr.state = .run → s.mdr.misses < 5 → s.mdr.revCount < 5 → exec (.windowClose im) s =
      .next (beginTransmission (s.setMdr { s.mdr with
        sector := (s.mdr.sector + 1) % 6, gates := some ((s.mdr.sector + 1) % 6), ts := s.mdr.ts * 3 / 2
        periods := appendPeriod (s.mdr.ts * 3 / 2) s.mdr.periods, windowShut := false, schedule := none
        blankFrac := s.motorPar.blankFrac, revCount := s.mdr.revCount + 1, misses := s.mdr.misses + 1 }))) ∧
    (s.mdr.seen = false → s.mdr.state = .run → 5 ≤ s.mdr.misses → DemandFollows s → s.drs.record.runDemand = true →
      s.fmg.syncLoss = .restart → (young s.mdr.restarts).length < 2 → Yields (exec (.windowClose im) s) fun t =>
        t.mdr.state = .precheck ∧ t.mdr.gates = none ∧ t.mdr.restarts = young s.mdr.restarts ++ [s.slc.uptime] ∧
          t.fmg.trip = s.fmg.trip ∧ t.drs.record.runDemand = true ∧ t.fmg.table.syncLoss.count = min 255 (s.fmg.table.syncLoss.count + 1)) ∧
    (s.mdr.seen = false → s.mdr.state = .run → 5 ≤ s.mdr.misses → s.fmg.syncLoss = .restart →
      2 ≤ (young s.mdr.restarts).length → Yields (exec (.windowClose im) s) fun t =>
        t.mdr.state = .tripped ∧ t.mdr.gates = none ∧ t.mdr.restarts = [] ∧ t.drs.record.runDemand = false ∧
          t.fmg.table.syncLoss.count = min 255 (s.fmg.table.syncLoss.count + 1) ∧
          (t.fmg.trip.map fun x => (x.first, x.motor)) = some (.syncLoss, .run)) ∧
    (s.mdr.seen = false → s.mdr.state = .run → 5 ≤ s.mdr.misses → s.fmg.syncLoss = .stop →
      Yields (exec (.windowClose im) s) fun t =>
        t.mdr.state = .tripped ∧ t.mdr.gates = none ∧ (t.fmg.trip.map (·.first)) = some .syncLoss)

/-- The current comparator trips the motor in every driven or watched state: gates off, TRIPPED, claims and run
demand down, the open edit aborted, the record filled from what stood. Taken in TRIPPED in the ms of another STOP's
entry it is a later cause; elsewhere it is ignored. The model's choices in it: log 6, 11, 21, 40. -/
def Obligations.OvercurrentTrips : Prop :=
  ∀ (r : TripRecord) (s : State), s.slc.power = .on →
    (motorWatched s.mdr.state = true → Yields (exec .ocHw s) fun t =>
      t.mdr = enteredMdr .tripped false s.mdr ∧ t.mdr.gates = none ∧ t.drs.record = DemandRecord.idle ∧
      t.drs.triggerClaim = false ∧ t.drs.hostClaim = false ∧ t.drs.edit = none ∧
      t.trg = { s.trg with rearm := s.trg.rearm || decide (s.trg.debounced = some .pressed) } ∧
      t.fmg.trip.map (fun x => { x with later := KindMap.replicate false }) =
        some { first := .ocHw, detail := .motor s.mdr.state, uptime := s.slc.uptime, motor := s.mdr.state
               speed := s.mdr.speed, current := (match s.srg.sample with
                 | some x => x.im
                 | none => 0)
               vmin := vmin s.pkm, tInv := s.mdr.tInv, packT := s.pkm.packT, later := KindMap.replicate false } ∧
      (s.chc.state ≠ .qualify → t.fmg.trip.map (·.later) = some (KindMap.replicate false)) ∧
      t.fmg.table.ocHw = { count := min 255 (s.fmg.table.ocHw.count + 1), uptime := s.slc.uptime
                           detail := .motor s.mdr.state } ∧
      t.blm.state = (if s.mdr.state = .run then .normal else s.blm.state) ∧ t.gge = s.gge ∧ ParamsKept s t) ∧
    (s.mdr.state = .tripped → s.fmg.trip = some r → r.uptime = s.slc.uptime → r.first ≠ .ocHw →
      motorWatched r.motor = true → Yields (exec .ocHw s) fun t =>
        t.fmg.trip = some { r with later := r.later.put .ocHw true } ∧
        t.fmg.table.ocHw = { count := min 255 (s.fmg.table.ocHw.count + 1), uptime := s.slc.uptime
                             detail := .motor r.motor } ∧
        SuctionKept s t ∧ PackKept s t ∧ ParamsKept s t ∧ RestKept s t) ∧
    (motorWatched s.mdr.state = false → (s.mdr.state = .tripped → ∀ q, s.fmg.trip = some q →
        q.uptime ≠ s.slc.uptime ∨ q.first = .ocHw ∨ motorWatched q.motor = false) →
      exec .ocHw s = .next (beginTransmission s))

/-! ### Bands, blockage, dirt -/

/-- A clear of the table completes: every entry cleared, the mode kept, TABLE_CLEARED raised with it. The blockage
timers: SUSPECT or RETRYING becomes BLOCKED, with the retry count one higher, under NOTIFY or below max_retries;
BLOCKED becomes RETRYING; RETRYING ends NORMAL; ten clean seconds clear the count. An expiry whose timer does not stand
at its length, block_time and retry_time as they then stand, is void; a write of one of them at or below a running timer
is its expiry, and any other write is a write alone. The model's choices in it: log 9, 10, 11, 30. -/
def Obligations.BandAndBlockageTimers : Prop :=
  ∀ (tag : Byte) (v : BitVec 32) (s : State),
    let past := fun (n : Nat) (t : Option Nat) => t.any fun ms => decide (n ≤ ms)
    let blocks := s.blm.state = .suspect ∨ s.blm.state = .retrying
    (s.slc.power ≠ .ship →
     (¬ (blocks ∧ past s.blockPar.blockTime s.blm.blockTimer) →
       exec .blockTimerExpiry s = .next (beginTransmission s)) ∧
     (¬ (s.blm.state = .blocked ∧ past s.blockPar.retryTime s.blm.retryTimer) →
       exec .retryTimerExpiry s = .next (beginTransmission s)) ∧
     (¬ (s.blm.state = .retrying ∧ past 200 s.blm.clearTimer) →
       exec .clearTimerExpiry s = .next (beginTransmission s)) ∧
     (¬ (s.blm.state = .retrying ∧ past 1000 s.blm.noRefTimer) →
       exec .noReferenceTimerExpiry s = .next (beginTransmission s)) ∧
     (¬ (s.blm.state = .normal ∧ past 10000 s.blm.normalTimer) →
       exec .normalTimerExpiry s = .next (beginTransmission s))) ∧
    (Accepts s →
     let u := beginTransmission s
     let block := u.setBlockPar { s.blockPar with blockTime := v.toNat }
     let retry := u.setBlockPar { s.blockPar with retryTime := v.toNat }
     (50 ≤ v.toInt → v.toInt ≤ 2000 → ¬ (blocks ∧ past v.toNat s.blm.blockTimer) →
       exec (.setParam tag 0x25#8 v) s = .next (replied 0x04#8 tag .ok (.param 0x25#8 v.toInt) block)) ∧
     (50 ≤ v.toInt → v.toInt ≤ 2000 → blocks → past v.toNat s.blm.blockTimer → s.mdr.state = .run →
       s.fmg.blockagePersist = .notify → DemandFollows s → Yields (exec (.setParam tag 0x25#8 v) s) fun t =>
         t.blockPar = block.blockPar ∧ t.blm.state = .blocked ∧ t.blm.retries = min 7 (s.blm.retries + 1) ∧
         t.blm.blockTimer = none ∧ t.blm.retryTimer = some 0 ∧ t.mdr = s.mdr) ∧
     (500 ≤ v.toInt → v.toInt ≤ 10000 → exec (.setParam tag 0x26#8 v) s =
       .next (replied 0x04#8 tag .ok (.param 0x26#8 v.toInt)
         (if s.blm.state = .blocked ∧ past v.toNat s.blm.retryTimer then
           evaluate (retry.setBlm { s.blm with state := .retrying, retryTimer := none, targetReached := false })
         else retry)))) ∧
    (s.slc.power ≠ .ship →
     (s.sbt.clearTimer = none → exec .bandClearComplete s = .next (beginTransmission s)) ∧
     (s.sbt.clearTimer.isSome = true → exec .bandClearComplete s =
       .next (beginTransmission (raise (.tableCleared s.sbt.mode)
         (s.setSbt { s.sbt with bands := Four.replicate (Four.replicate Band.cleared), clearTimer := none }))))) ∧
    (s.slc.power = .on → s.mdr.state = .run → DemandFollows s → s.drs.record.runDemand = true →
     let b := s.blm
     (blocks → past s.blockPar.blockTime b.blockTimer →
       (b.retries + 1 < s.blockPar.maxRetries ∨ s.fmg.blockagePersist = .notify) → Yields (exec .blockTimerExpiry s) fun t =>
         t.blm = { b with state := .blocked, retries := min 7 (b.retries + 1), blockTimer := none, retryTimer := some 0
                          targetReached := false, clearTimer := none, noRefTimer := none, normalTimer := none } ∧
         t.mdr = s.mdr ∧ t.drs.record = runningRecord (s.setBlm t.blm) ∧ t.drs.record.boost = 0 ∧
         t.drs.record.causes.blocked = true) ∧
     (blocks → past s.blockPar.blockTime b.blockTimer → s.blockPar.maxRetries ≤ min 7 (b.retries + 1) →
       s.fmg.blockagePersist = .stop → Yields (exec .blockTimerExpiry s) fun t =>
         t.mdr.state = .tripped ∧ t.blm.state = .normal ∧ t.blm.retries = 0 ∧
           (t.fmg.trip.map fun r => (r.first, r.detail)) = some (.blockagePersist, .count (min 7 (b.retries + 1)))) ∧
     (b.state = .blocked → past s.blockPar.retryTime b.retryTimer → exec .retryTimerExpiry s =
       .next (beginTransmission (evaluate (s.setBlm { b with
         state := .retrying, retryTimer := none, targetReached := false })))) ∧
     (b.state = .retrying → past 200 b.clearTimer → Yields (exec .clearTimerExpiry s) fun t =>
       t.blm = { b with state := .normal, blockTimer := none, retryTimer := none, clearTimer := none, noRefTimer := none
                        targetReached := false, normalTimer := some 0 } ∧ t.mdr = s.mdr ∧ t.fmg = s.fmg) ∧
     (b.state = .retrying → past 1000 b.noRefTimer → Yields (exec .noReferenceTimerExpiry s) fun t =>
       t.blm = { b with state := .normal, blockTimer := none, retryTimer := none, clearTimer := none, noRefTimer := none
                        targetReached := false, normalTimer := some 0 } ∧ t.mdr = s.mdr ∧ t.fmg = s.fmg) ∧
     (b.state = .normal → past 10000 b.normalTimer → exec .normalTimerExpiry s =
       .next (beginTransmission (s.setBlm { b with retries := 0, normalTimer := none }))))

/-- A window end: the impacts of the piezo signal, each rise above detect_level, and its mean level outside them,
attenuation, acoustic value, index, level, boost index with the record evaluated from it, and the next window begun. The
optical channel makes its own move: SETTLE's fourth window takes the baseline and enters TRACK, TRACK follows the
baseline, steps the current or is killed, KILLED recovers on its tenth bright window in a row. The counters are told D
and a HEAVY level. Before the window has lasted its length the command is void (log 51). The level rises at once, and falls
one level after hold_windows windows in a row that stand below its threshold by more than level_hyst. The model's
choices in it: log 11, 27, 35, 45, 51, 52; the noise measure of a signal that is all impacts is a free value. -/
def Obligations.DirtWindowEnds : Prop :=
  ∀ (amp level : Nat) (signal : List Nat) (w : DirtWindow) (s : State), s.slc.power = .on → s.dse.window = some w →
    let p := s.dirtPar
    let a := min amp 4095
    let b := s.dse.baseline
    let opt := if b = 0 then 255 else (b - a) * 255 / b
    let sw := if w.speedCount = 0 then s.mdr.speed else w.speedSum / w.speedCount
    let rises := ((level :: signal).zip signal).countP fun (x, y) => decide (x ≤ w.detect ∧ w.detect < y)
    let calm := signal.filter fun y => decide (y ≤ w.detect)
    let count := min rises 65535
    let noise := min (if calm.length = 0 then Config.noiseInsideImpacts (s.dse.seq + 1).toNat
      else calm.sum / calm.length) 255
    let ac := min 255 (count * p.sRef / max sw 20000 * p.acScale / 16)
    let quiet := noise ≤ p.noiseLimit
    let dirt := if s.dse.optical = .track then
        (if w.acousticOn ∧ quiet then (p.weight * opt + (128 - p.weight) * ac) / 128 else opt)
      else if w.acousticOn ∧ quiet then ac else p.fallback
    let top : DirtLevel := if p.tHeavy ≤ dirt then .heavy else if p.tMod ≤ dirt then .moderate
      else if p.tLight ≤ dirt then .light else .clean
    let number := fun (l : DirtLevel) => match l with
      | .clean => 0
      | .light => 1
      | .moderate => 2
      | .heavy => 3
    let falls := fun (threshold : Nat) (below : DirtLevel) =>
      if threshold ≤ dirt + p.levelHyst then (s.dse.level, 0)
      else if s.dse.hold + 1 < p.holdWindows then (s.dse.level, s.dse.hold + 1)
      else (below, 0)
    (w.timer < w.length → exec (.dirtWindowEnd amp level signal) s = .next (beginTransmission s)) ∧
    (w.length ≤ w.timer → Yields (exec (.dirtWindowEnd amp level signal) s) fun t =>
      (t.dse.lastC, t.dse.lastN) = (if w.acousticOn then (count, noise) else (s.dse.lastC, s.dse.lastN)) ∧
      t.dse.lastAc = (if w.acousticOn ∧ quiet then ac else s.dse.lastAc) ∧
      t.dse.acoustic = (if w.acousticOn then (if quiet then .usable else .noisy) else .disabled) ∧
      t.drs = { s.drs with
        record := if s.drs.record.runDemand then
            runningRecord (s.setDse { s.dse with db := max dirt (s.dse.db - p.boostDecay) })
          else DemandRecord.idle } ∧
      (RecordSound s.drs.record → s.drs.record.runDemand = false → t.drs = s.drs) ∧
      t.dse.seq = s.dse.seq + 1 ∧ t.dse.lastSw = sw ∧ t.dse.d = dirt ∧ t.dse.db = max dirt (s.dse.db - p.boostDecay) ∧
      (number s.dse.level < number top → t.dse.level = top ∧ t.dse.hold = 0) ∧
      (number top ≤ number s.dse.level → (t.dse.level, t.dse.hold) = match s.dse.level with
        | .clean => (.clean, 0)
        | .light => falls p.tLight .clean
        | .moderate => falls p.tMod .light
        | .heavy => falls p.tHeavy .moderate) ∧
      t.dse.index = (if s.dse.optical = .track then (if w.acousticOn ∧ quiet then .both else .optical)
        else if w.acousticOn ∧ quiet then .acoustic else .fallback) ∧
      t.dse.window = some { timer := 0, length := p.window, acousticOn := p.acousticEnable, detect := p.detectLevel
                            speedSum := 0, speedCount := 0 } ∧
      (let d := opticalMoved p a s.dse
       t.dse.optical = d.optical ∧ t.dse.settle = d.settle ∧ t.dse.rebase = d.rebase ∧ t.dse.working = d.working ∧
         t.dse.baseline = d.baseline ∧ t.dse.kills = d.kills ∧ t.dse.recoveries = d.recoveries ∧
         t.fmg.table.sensorBlocked = (if s.dse.optical = .track ∧ d.optical = .killed then
             { count := min 255 (s.fmg.table.sensorBlocked.count + 1), uptime := s.slc.uptime
               detail := .milliamps d.working }
           else s.fmg.table.sensorBlocked)) ∧
      t.icn.counters = (countEvents ((.dirtSum, .units dirt) ::
        (if t.dse.level = .heavy then [(.heavyWindows, .units 1)] else [])) s).icn.counters ∧
      t.dse.carrier = p.carrier ∧ t.mdr = s.mdr ∧ t.srg = s.srg ∧ t.sbt = s.sbt ∧ t.blm = s.blm ∧ t.trg = s.trg ∧
      PackKept s t ∧ ParamsKept s t)

/-! ### The pack -/

/-- A scan whose interval has passed begins with the bleed switches open, and after its seventh cell the switches of
the set in force close; a start not due, its interval changed since, is void. An ON scan's end records the seven
voltages with their extremes, counts and flags, the current and the temperatures, and sets the allowances from them;
the gauge estimates from the mean cell voltage at the first after a power-on reset and otherwise moves by the current
times the interval, between empty and full. The protections: a UV flag outside charging enters CUTOFF with its forced
stop and Q at 0 and names the flagged cell of lowest voltage, every cell at uv_release releases it, a hot pack or
inverter trips a watched motor, the inverter's derate current follows T_INV, a PRECHECK held for it is decided; a hot
pack is a later cause of the OC_HW taken before it in the same ms, a new OV flag stops a charge, a deep flag without a
dock goes to SHIP. A WATCH scan's end records the cells and enters or leaves CUTOFF, and nothing else. The model's
choices in it: log 11, 20, 22, 23, 25, 26, 35, 40, 47. -/
def Obligations.ScanAndGauge : Prop :=
  ∀ (sc : Scan) (r : ScanReading) (i : Int) (dt : Nat) (cutoff : Bool) (s : State),
    (s.slc.power = .on →
     (s.pkm.scan = none → (∀ t0, s.pkm.lastStart = some t0 → s.pkm.interval.ms ≤ (s.slc.uptime - t0).toNat) →
      exec .scanStart s =
       .next (beginTransmission (s.setPkm { s.pkm with
         scan := some { watch := false, fast := decide (s.pkm.interval = .fast), motor := s.mdr.state
                        dt := (match s.pkm.lastOnStart with
                          | some t => (s.slc.uptime - t).toNat
                          | none => 0)
                        measuring := true }
         switches := Seven.replicate false, lastStart := some s.slc.uptime, lastOnStart := some s.slc.uptime }))) ∧
     (s.pkm.scan.isSome = true ∨ (∃ t0 ∈ s.pkm.lastStart, (s.slc.uptime - t0).toNat < s.pkm.interval.ms) →
       exec .scanStart s = .next (beginTransmission s)) ∧
     (s.pkm.scan = some sc → sc.measuring = true → exec .seventhCellMeasured s =
       .next (beginTransmission (s.setPkm { s.pkm with
         scan := some { sc with measuring := false }, switches := s.pkm.bleedSet })))) ∧
    (s.slc.power = .on → ParamsInRange s → s.pkm.scan = some sc → sc.watch = false →
     (s.pkm.cells.toList.any (·.deep)) = false → (∀ v ∈ r.cells.toList, (s.packPar.deepUv : Int) ≤ v) →
     let t1 := clampInt (-40) 125 r.tPack1
     let t2 := clampInt (-40) 125 r.tPack2
     let hot := max t1 t2
     let inv := clampInt (-40) 125 r.tInv
     let m := s.motorPar
     let p := s.packPar
     let thermal := if hot ≤ p.derateStart then p.iMax
       else if hot < p.cut then (((p.iMax : Int) * (p.cut - hot)).tdiv (p.cut - p.derateStart)).toNat else 0
     let cells := scannedCells r s
     let cut := cells.toList.any (·.uv) && !isCharging s.chc.state && decide (s.pkm.state ≠ .cutoff)
     let full := fullCharge s.gge.f
     Yields (exec (.scanEnd r) s) (fun t =>
       t.pkm.cells.map (·.mv) = r.cells.map (fun v => some (clampNat 0 5000 v)) ∧
       t.pkm.cells.map (fun c => { c with bleeding := false }) = cells.map (fun c => { c with bleeding := false }) ∧
       (s.chc.state ≠ .qualify → t.gge.q =
         (if t.chc.state = .done ∧ s.chc.state ≠ .done then full
         else if s.gge.estimatePending then
           (if cut then 0
           else s.gge.f * estimateSoc ((r.cells.toList.map (clampNat 0 5000)).sum / 7) * 36000)
         else clampNat 0 full
           ((if cut then 0 else (s.gge.q : Int)) - clampInt (-60000) 60000 r.current * sc.dt))) ∧
       t.pkm.current = some (clampInt (-60000) 60000 r.current) ∧ t.pkm.tPack1 = some t1 ∧ t.pkm.tPack2 = some t2 ∧
       t.pkm.packT = some hot ∧ t.pkm.tInv = some inv ∧ t.mdr.tInv = some inv ∧
       t.mdr.derate = (if inv < m.invDerateStart then 35000
         else if inv < m.invCut then ((35000 * (m.invCut - inv)).tdiv (m.invCut - m.invDerateStart)).toNat else 0) ∧
       t.pkm.thermal = thermal ∧ t.pkm.discharge = min p.iMax (min thermal
         (movedSag p sc ((vmin t.pkm).getD 0) (if t.mdr.state = .off ∧ s.mdr.state ≠ .off then p.iMax else s.pkm.iSag))) ∧
       t.pkm.chargeAllowance = allowanceAt s.chargePar t1 t2 ∧
       t.pkm.scan = none ∧ t.pkm.scanned = true ∧ t.gge.estimatePending = false ∧ t.gge.f = s.gge.f ∧
       t.sbt = s.sbt ∧ ParamsKept s t ∧ t.pending = s.pending) ∧
     (cut = true → p.cellUv ≤ p.uvRelease → s.chc.state ≠ .qualify → Yields (exec (.scanEnd r) s) fun t =>
       t.pkm.state = .cutoff ∧ t.drs.triggerClaim = false ∧ t.drs.hostClaim = false ∧
       t.drs.record.runDemand = false ∧ t.drs.edit = none ∧ t.gge.event = .empty ∧
       t.fmg.table.cellUv.count = min 255 (s.fmg.table.cellUv.count + 1) ∧
       t.fmg.table.cellUv.uptime = s.slc.uptime ∧
       (let flagged := ((cells.zipWith (fun c i => (i, c.mv.getD 0, c.uv)) Seven.numbers).toList).filter (·.2.2)
        ∃ x ∈ flagged, t.fmg.table.cellUv.detail = .cell x.1 ∧
          ∀ y ∈ flagged, x.2.1 ≤ y.2.1 ∧ (y.1 < x.1 → x.2.1 < y.2.1)) ∧
       (s.mdr.state = .run → s.drs.record.runDemand = true → hot < p.cut → inv < m.invCut →
         t.mdr.state = .coast)) ∧
     (cut = false → s.chc.state ≠ .qualify →
       s.pkm.state ≠ .cutoff ∨ (∀ v ∈ r.cells.toList, p.uvRelease ≤ clampNat 0 5000 v) →
       Yields (exec (.scanEnd r) s) fun t =>
         t.pkm.state = if s.pkm.scanned then judgedPack s else .normal) ∧
     (s.pkm.state = .cutoff → isCharging s.chc.state = false → s.chc.state ≠ .qualify →
       (∃ v ∈ r.cells.toList, clampNat 0 5000 v < p.uvRelease) →
       Yields (exec (.scanEnd r) s) fun t => t.pkm.state = .cutoff) ∧
     (p.cut ≤ hot → motorWatched s.mdr.state = true → Yields (exec (.scanEnd r) s) fun t =>
       t.mdr.state = .tripped ∧ t.mdr.gates = none ∧ t.drs.triggerClaim = false ∧ t.drs.hostClaim = false ∧
       t.drs.record.runDemand = false ∧
       (t.fmg.trip.map fun x => (x.first, x.detail, x.motor)) = some (.packHot, .celsius hot, s.mdr.state)) ∧
     (m.invCut ≤ inv → motorWatched s.mdr.state = true → hot < p.cut → cut = false → Yields (exec (.scanEnd r) s) fun t =>
       t.mdr.state = .tripped ∧ t.mdr.gates = none ∧ t.drs.triggerClaim = false ∧ t.drs.hostClaim = false ∧
       t.drs.record.runDemand = false ∧ t.fmg.table.invHot.count = min 255 (s.fmg.table.invHot.count + 1) ∧
       (t.fmg.trip.map fun x => (x.first, x.detail, x.motor)) = some (.invHot, .celsius inv, s.mdr.state)) ∧
     (inv < m.invCut → hot < p.cut → cut = false → s.mdr.state = .precheck → s.mdr.precheckHeld = true →
       DemandFollows s → s.drs.record.runDemand = true → Yields (exec (.scanEnd r) s) fun t =>
       t.mdr.precheckHeld = false ∧ t.mdr.state = (if m.catchSpeed ≤ offGatesSpeed s.mdr then .catching
         else if belowStop s.mdr = true then .align else .coast) ∧
       t.mdr.startPending = decide (t.mdr.state = .coast)) ∧
     (inv < m.invCut → hot < p.cut → s.mdr.state = .precheck → s.mdr.precheckHeld = false → DemandFollows s →
       s.drs.record.runDemand = true → cut = false → Yields (exec (.scanEnd r) s) fun t =>
       t.mdr.state = .precheck) ∧
     (∀ tr, s.fmg.trip = some tr → tr.first = .ocHw → tr.uptime = s.slc.uptime → motorWatched tr.motor = true →
       s.mdr.state = .tripped → p.cut ≤ hot → Yields (exec (.scanEnd r) s) fun t =>
       t.mdr.state = .tripped ∧ t.fmg.table.packHot.count = min 255 (s.fmg.table.packHot.count + 1) ∧
       (t.fmg.trip.map fun x => (x.first, x.detail, x.motor, x.later.packHot)) =
         some (.ocHw, tr.detail, tr.motor, true)) ∧
     (isCharging s.chc.state = true →
       (s.pkm.cells.zipWith (fun b a => !b.ov && a.ov) cells).toList.any id = true →
       Yields (exec (.scanEnd r) s) fun t =>
         t.chc.state = .fault ∧ t.chc.faultCause = some .cellOv ∧ t.chc.iSet = 0 ∧
         (s.dlk.state ≠ .negotiating → t.dlk = releasedDlk .fault s.dlk) ∧
         t.fmg.table.cellOv.count = min 255 (s.fmg.table.cellOv.count + 1))) ∧
    (s.slc.power ≠ .ship → s.pkm.scan = some sc → s.dlk.state = .absent → s.pkm.deepPending = false →
     (scannedCells r s).toList.any (·.deep) = true →
     (s.dlk.contact = false → Yields (exec (.scanEnd r) s) fun t =>
       t.slc.power = .ship ∧ t.mdr = Mdr.reset ∧ t.pkm = Pkm.reset ∧ t.gge = Gge.reset ∧ t.icn = Icn.reset) ∧
     (s.dlk.contact = true → Yields (exec (.scanEnd r) s) fun t =>
       t.slc = Slc.reset .shipWake ∧ t.dlk = startedDlk true ∧ t.chc = startedChc true ∧ t.pkm = startedPkm ∧
         t.mdr = Mdr.reset)) ∧
    (s.slc.power ≠ .ship → s.pkm.scan = some sc → sc.watch = true →
     (scannedCells r s).toList.any (·.deep) = false → isCharging s.chc.state = false →
     let uv := (scannedCells r s).toList.any (·.uv)
     let p := s.packPar
     let watched := { s.pkm with
       cells := scannedCells r s, scan := none, switches := if sc.measuring then s.pkm.bleedSet else s.pkm.switches
       deepPending := false }
     (s.pkm.state ≠ .cutoff → uv = false → DemandFollows s → Yields (exec (.scanEnd r) s) fun t =>
       t.pkm = watched ∧ t.gge = s.gge ∧ t.chc = s.chc ∧ t.dlk = s.dlk ∧ SuctionKept s t ∧ ParamsKept s t ∧
         RestKept s t) ∧
     (s.pkm.state ≠ .cutoff → uv = true → p.cellUv ≤ p.uvRelease → Yields (exec (.scanEnd r) s) fun t =>
       t.pkm.state = .cutoff ∧ t.pkm.cells = watched.cells ∧ t.gge = { s.gge with
         q := 0, event := .empty, eventAt := s.slc.uptime } ∧ t.slc.power = s.slc.power) ∧
     (s.pkm.state = .cutoff → (∀ v ∈ r.cells.toList, p.uvRelease ≤ clampNat 0 5000 v) →
       Yields (exec (.scanEnd r) s) fun t => t.pkm.state = judgedPack s ∧ t.pkm.cells = watched.cells)) ∧
    ((s.gge.estimatePending = false → gaugeScan i dt cutoff s =
       s.setGge { s.gge with current := some i, q := clampNat 0 (fullCharge s.gge.f) ((s.gge.q : Int) - i * dt) }) ∧
     (s.gge.estimatePending = true → gaugeScan i dt false s =
       s.setGge { s.gge with current := some i, estimatePending := false, event := .estimate, eventAt := s.slc.uptime
                             q := s.gge.f * estimateSoc (meanMv s.pkm) * 36000 }) ∧
     (s.gge.estimatePending = true → gaugeScan i dt true s =
       s.setGge { s.gge with current := some i, estimatePending := false }))

/-- The charge timers, each at its timeout as it stands and void below it: PRECHARGE and the whole charge end in FAULT with
their kind as the cause; BALANCE ends in DONE, unbalanced, with the gauge at full. What an ON scan's end makes of the charge: QUALIFY is judged; PRECHARGE, CC and CV
move the setpoint and pass on at their voltages, CV by its taper to BALANCE or DONE; BALANCE ends within its spread,
DONE at a cell below recharge; no allowance suspends for TEMP, SUSPEND follows its causes, and three scans of too much
current are a STAGE fault. The model's choices in it: log 9, 11, 21, 37, 42. The bleed set of CV and BALANCE is the one
R138 gives. The entries to FAULT and DONE hand the dock a RELEASE, and the recharge asks it anew. That DONE and
SUSPEND, entering QUALIFY at a scan end, are not judged at that same scan end is log 21, and a RELEASE still held is
replaced by log 23. -/
def Obligations.ChargeTimersExpire : Prop :=
  ∀ (sc : Scan) (r : ScanReading) (s : State), s.slc.power = .on →
    (s.chc.state = .precharge → s.chargePar.prechargeTimeout * 60000 ≤ s.chc.precharge →
      Yields (exec .prechargeTimeout s) fun t =>
      t.chc = enteredChc .fault noSuspend { s.chc with faultCause := some .prechargeTimeout } ∧ t.chc.iSet = 0 ∧
        t.dlk = releasedDlk .fault s.dlk ∧
        t.fmg.table.prechargeTimeout.count = min 255 (s.fmg.table.prechargeTimeout.count + 1) ∧ SuctionKept s t ∧
        t.gge = s.gge ∧ ParamsKept s t) ∧
    (isCharging s.chc.state = true → s.chargePar.chargeTimeout * 60000 ≤ s.chc.safety →
      Yields (exec .chargeTimeout s) fun t =>
      t.chc = enteredChc .fault noSuspend { s.chc with faultCause := some .chargeTimeout } ∧ t.chc.iSet = 0 ∧
        t.dlk = releasedDlk .fault s.dlk ∧
        t.fmg.table.chargeTimeout.count = min 255 (s.fmg.table.chargeTimeout.count + 1) ∧ SuctionKept s t ∧
        t.gge = s.gge ∧ ParamsKept s t) ∧
    (s.chc.state = .balance → s.chargePar.balanceTimeout * 60000 ≤ s.chc.balance →
      Yields (exec .balanceTimeout s) fun t =>
      t.chc = enteredChc .done noSuspend { s.chc with unbalanced := true } ∧ t.chc.iSet = 0 ∧
        t.dlk = releasedDlk .done s.dlk ∧
        t.gge = { s.gge with q := fullCharge s.gge.f, event := .full, eventAt := s.slc.uptime } ∧ SuctionKept s t ∧
        t.fmg = s.fmg ∧ ParamsKept s t) ∧
    (s.chc.state ≠ .precharge ∨ s.chc.precharge < s.chargePar.prechargeTimeout * 60000 →
      exec .prechargeTimeout s = .next (beginTransmission s)) ∧
    (isCharging s.chc.state = false ∨ s.chc.safety < s.chargePar.chargeTimeout * 60000 →
      exec .chargeTimeout s = .next (beginTransmission s)) ∧
    (s.chc.state ≠ .balance ∨ s.chc.balance < s.chargePar.balanceTimeout * 60000 →
      exec .balanceTimeout s = .next (beginTransmission s)) ∧
    (ParamsInRange s → s.pkm.scan = some sc → sc.watch = false → (∀ v ∈ r.cells.toList, (s.packPar.deepUv : Int) ≤ v) →
     let p := s.chargePar
     let mv := r.cells.toList.map (clampNat 0 5000)
     let low := mv.min?.getD 0
     let spread := mv.max?.getD 0 - low
     let t1 := clampInt (-40) 125 r.tPack1
     let t2 := clampInt (-40) 125 r.tPack2
     let allowance := allowanceAt p t1 t2
     let grant := grantInForce s.dlk
     let target := min p.current (min allowance grant)
     let measured := - clampInt (-60000) 60000 r.current
     let held := min s.chc.iSet target
     let toward := fun (aim : Nat) => if held < aim then min (held + 25) aim else aim
     let calm := measured ≤ (s.chc.iSet : Int) + 500 ∧ ∀ v ∈ mv, v ≤ s.packPar.cellOv
     let ends := fun (P : State → Prop) => Yields (exec (.scanEnd r) s) P
     let is := fun (c : ChargeState) (iSet : Nat) => ends fun t =>
       t.chc.state = c ∧ t.chc.iSet = iSet ∧ t.chc.stageCount = 0 ∧ t.chc.safety = s.chc.safety ∧
         (if c = .cv ∨ c = .balance then BleedsHighest p.balanceMv (r.cells.map (clampNat 0 5000)) t.chc.bleedSet
         else t.chc.bleedSet = Seven.replicate false) ∧ t.pkm.bleedSet = t.chc.bleedSet
     let handed := fun (reason : ReleaseReason) (t : State) =>
       s.dlk.state ≠ .negotiating → t.dlk = releasedDlk reason s.dlk
     let atFull := ends fun t => t.chc.state = .done ∧ t.chc.iSet = 0 ∧ t.gge.q = fullCharge s.gge.f ∧
       t.gge.event = .full ∧ t.gge.eventAt = s.slc.uptime ∧ t.chc.bleedSet = Seven.replicate false ∧ handed .done t
     (s.chc.state = .qualify → motorParked s.mdr.state = true → ends fun t =>
       t.chc = { qualifyJudged true s.dlk.state grant allowance p.prechargeMv
                   ((scannedCells r s).toList.any (·.ov)) (some low) { s.chc with iSet := held } with
                 bleedSet := Seven.replicate false } ∧
       (t.chc.state = .fault → handed .fault t)) ∧
     (s.chc.state = .qualify → s.mdr.state = .coast → ends fun t => t.chc.state = .qualify) ∧
     (s.chc.state = .precharge → calm → allowance ≠ 0 →
       (p.prechargeMv + 100 ≤ low → is .cc held) ∧
       (low < p.prechargeMv + 100 → is .precharge (toward (min p.prechargeCurrent target)))) ∧
     (s.chc.state = .cc → calm → allowance ≠ 0 →
       ((∃ v ∈ mv, p.cellCv ≤ v) → is .cv held) ∧
       ((∀ v ∈ mv, v < p.cellCv) → is .cc (toward target))) ∧
     (s.chc.state = .cv → calm → allowance ≠ 0 →
       let moved := if ∃ v ∈ mv, p.cellCv ≤ v then held - 50
         else if (∀ v ∈ mv, v < p.cellCv - 10) ∧ held < target then min (held + 25) target
         else held
       ((p.termCurrent : Int) ≤ measured → is .cv moved ∧ ends fun t => t.chc.taper = none) ∧
       (measured < (p.termCurrent : Int) → s.chc.taper = none → is .cv moved ∧ ends fun t => t.chc.taper = some 0) ∧
       (∀ ms, s.chc.taper = some ms → measured < (p.termCurrent : Int) →
         (ms < 60000 → is .cv moved ∧ ends fun t => t.chc.taper = some ms) ∧
         (60000 ≤ ms → p.balanceMv < spread → is .balance moved ∧ ends fun t => t.chc.unbalanced = false) ∧
         (60000 ≤ ms → spread ≤ p.balanceMv → atFull))) ∧
     (s.chc.state = .balance → calm → allowance ≠ 0 →
       (p.balanceMv / 2 < spread → is .balance (min (p.termCurrent / 2) target)) ∧
       (spread ≤ p.balanceMv / 2 → atFull)) ∧
     (s.chc.state = .done → calm →
       ((∃ v ∈ mv, v < p.rechargeMv) → ends fun t =>
         t.chc.state = .qualify ∧ t.chc.iSet = 0 ∧ t.chc.safety = 0 ∧
         (s.dlk.state = .active → s.dlk.released = true →
           t.dlk = requalifiedDlk (min p.current allowance) s.dlk)) ∧
       ((∀ v ∈ mv, p.rechargeMv ≤ v) → ends fun t => t.chc.state = .done ∧ t.chc.safety = s.chc.safety)) ∧
     (s.chc.state = .suspend → calm →
       let temp := if allowance = 0 then true
         else if p.tLow + 3 ≤ min t1 t2 ∧ max t1 t2 ≤ p.tHigh - 3 then false
         else s.chc.suspend.temp
       ends fun t => t.chc.suspend = ⟨temp, decide (grant = 0), s.chc.pause⟩ ∧
         t.chc.state = (if temp = false ∧ grant ≠ 0 ∧ s.chc.pause = false then .qualify else .suspend)) ∧
     (isCharging s.chc.state = true → calm → allowance = 0 → ends fun t =>
       t.chc.state = .suspend ∧ t.chc.suspend = ⟨true, decide (grant = 0), s.chc.pause⟩ ∧ t.chc.iSet = 0) ∧
     (isCharging s.chc.state = true → (s.chc.iSet : Int) + 500 < measured →
       (∀ v ∈ mv, v ≤ s.packPar.cellOv) →
       (s.chc.stageCount < 2 → allowance ≠ 0 → ends fun t => t.chc.stageCount = s.chc.stageCount + 1) ∧
       (2 ≤ s.chc.stageCount → ends fun t =>
         t.chc.state = .fault ∧ t.chc.faultCause = some .stage ∧ t.chc.iSet = 0 ∧ t.chc.stageCount = 0 ∧ handed .fault t ∧
         t.fmg.table.stage.count = min 255 (s.fmg.table.stage.count + 1))))

/-! ### The dock -/

/-- The contacts: a rise in ABSENT is an arrival, which stops the suction, a running motor going to COAST and a pending
start being dropped, begins settling, and takes an enabled CHC from IDLE to QUALIFY, where a new cycle begins, while a
disabled one stays; a rise elsewhere ends a dip; a fall begins the judgement of a loss; a loss ends in ABSENT with
everything of the dock forgotten and charging ended. That the messages held due go with the dock is the model's choice
(log 23), that a fall with the voltage already below begins the judgement anew is another (log 55), as are log 1, 9, 11
and 20. -/
def Obligations.DockContacts : Prop :=
  ∀ s : State, s.slc.power = .on →
    (s.dlk.state = .absent → Yields (exec .dockContactRise s) fun t =>
      t.dlk = { s.dlk with
        state := .settling, contact := true, lossTimer := none, settle := some 0, unanswered := 0, discarded := 0
        evacuations := 0, misses := 0 } ∧
      t.drs.triggerClaim = false ∧ t.drs.hostClaim = false ∧ t.drs.record.runDemand = false ∧ t.gge = s.gge ∧
      t.trg = { s.trg with rearm := s.trg.rearm || decide (s.trg.debounced = some .pressed) } ∧
      (s.drs.record.runDemand = true → runningMotor s.mdr.state = true →
        t.mdr = enteredMdr .coast false s.mdr ∧ t.mdr.gates = none) ∧
      (s.drs.record.runDemand = true → s.mdr.state = .coast → t.mdr = { s.mdr with startPending := false }) ∧
      (s.drs.record.runDemand = false ∨ motorParked s.mdr.state = true → t.mdr = s.mdr) ∧
      (s.chc.state = .idle → s.chc.pause = false → t.chc = if s.chc.enabled then
          { s.chc with
            state := .qualify, iSet := 0, bleedSet := Seven.replicate false, taper := none, stageCount := 0, safety := 0
            precharge := 0, balance := 0, suspend := ⟨false, false, false⟩ }
        else s.chc) ∧
      t.fmg = s.fmg ∧ ParamsKept s t ∧ t.pending = s.pending) ∧
    (s.dlk.state ≠ .absent → exec .dockContactRise s =
      .next (beginTransmission (s.setDlk { s.dlk with contact := true, lossTimer := none }))) ∧
    (s.dlk.state ≠ .absent → exec .contactVoltageFall s =
      .next (beginTransmission (s.setDlk { s.dlk with contact := false, lossTimer := some 0 }))) ∧
    (s.dlk.state ≠ .absent → Yields (exec .dockLoss s) fun t =>
      t.dlk = { Dlk.reset with
        nextSeq := s.dlk.nextSeq, unanswered := s.dlk.unanswered, discarded := s.dlk.discarded
        evacuations := s.dlk.evacuations } ∧
      t.chc.state = .idle ∧ t.chc = (if s.chc.state = .idle then s.chc else enteredChc .idle noSuspend s.chc) ∧
      t.gge = s.gge ∧ t.fmg = s.fmg ∧ ParamsKept s t ∧ t.pending = s.pending)

/-- Settling ends in GREETING, and a LOST dock is greeted again, each with a HELLO sent at the next sequence, also with
CHC waiting in QUALIFY or suspended, which draws nothing yet and stays suspended for DOCK. The keep timer's expiry in
ACTIVE: a KEEP is sent at once when no exchange is in progress, or, with a grant of 0 and not released, a REQUEST in its
place; with an exchange in progress the KEEP is held, or the REQUEST in its place. An ON scan's end with the motor parked sends NEGOTIATING's first message, by the charge state a
RELEASE or a REQUEST, and in ACTIVE, not released, a wanted current moved by 100 mA to other units makes a REQUEST due.
That the REQUEST takes charge_current as it stands, with the allowance of the last scan, is the model's choice (log
43), as are log 5, 11 and 23. -/
def Obligations.DockSpeaks : Prop :=
  ∀ (e : Exchange) (sc : Scan) (r : ScanReading) (u0 w0 : Nat) (s : State),
    (s.slc.power = .on → s.pkm.scan = some sc → sc.watch = false →
     let allowance := allowanceAt s.chargePar (clampInt (-40) 125 r.tPack1) (clampInt (-40) 125 r.tPack2)
     let w := min s.chargePar.current allowance
     let ends := fun (P : State → Prop) => Yields (exec (.scanEnd r) s) P
     (s.dlk.state = .negotiating → s.dlk.firstSent = false → motorParked s.mdr.state = true → ends fun t =>
       t.dlk = match t.chc.state with
         | .done => { sentDlk (.release .done) s.dlk with firstSent := true }
         | .fault => { sentDlk (.release .fault) s.dlk with firstSent := true }
         | .idle => { sentDlk (.release .disabled) s.dlk with firstSent := true }
         | _ => { sentDlk (.request (unitsFor s.dlk.offer w) w) s.dlk with
                  firstSent := true, lastRequest := some (unitsFor s.dlk.offer w, w) }) ∧
     (s.dlk.state = .negotiating → s.dlk.firstSent = false → s.mdr.state = .coast → ends fun t => t.dlk = s.dlk) ∧
     (s.dlk.state = .active → s.dlk.released = false → s.dlk.dueRelease = none → s.dlk.lastRequest = some (u0, w0) →
       s.chc.state = .cc ∨ s.chc.state = .suspend → - clampInt (-60000) 60000 r.current ≤ (s.chc.iSet : Int) + 500 →
       (∀ v ∈ r.cells.toList, clampNat 0 5000 v ≤ s.packPar.cellOv) →
       (100 ≤ ((w : Int) - w0).natAbs → unitsFor s.dlk.offer w ≠ u0 → ends fun t => t.dlk = requestedDlk w s.dlk) ∧
       (((w : Int) - w0).natAbs < 100 ∨ unitsFor s.dlk.offer w = u0 → ends fun t => t.dlk = s.dlk))) ∧
    (s.slc.power = .on → (s.chc.state = .qualify → s.chc.pause = false) → isCharging s.chc.state = false →
     let waits := { s.chc with
       iSet := 0
       suspend := if s.chc.state = .suspend then { s.chc.suspend with dock := true } else s.chc.suspend }
     let hello : Exchange :=
       { msg := .hello, seq := s.dlk.nextSeq, attempt := 1, sending := true, wait := 0, expired := false }
     (s.dlk.state = .settling → Yields (exec .settleTimerExpiry s) fun t =>
       t.dlk = { s.dlk with
         state := .greeting, misses := 0, settle := none, retry := none, firstSent := false, exchange := some hello
         nextSeq := s.dlk.nextSeq + 1 } ∧
       t.chc = waits ∧ SuctionKept s t ∧ t.pkm = s.pkm ∧ t.gge = s.gge ∧ t.fmg = s.fmg ∧ ParamsKept s t) ∧
     (s.dlk.state = .lost → Yields (exec .dockRetryExpiry s) fun t =>
       t.dlk = { s.dlk with
         state := .greeting, misses := 0, settle := none, retry := none, firstSent := false, exchange := some hello
         nextSeq := s.dlk.nextSeq + 1 } ∧
       t.chc = waits ∧ SuctionKept s t ∧ t.pkm = s.pkm ∧ t.gge = s.gge ∧ t.fmg = s.fmg ∧ ParamsKept s t)) ∧
    (s.slc.power = .on → s.dlk.state = .active → s.dlk.keep.isSome = true →
     s.dlk.dueRelease = none → s.dlk.dueRequest = none →
     let sent := fun (m : DockMsg) =>
       some { msg := m, seq := s.dlk.nextSeq, attempt := 1, sending := true, wait := 0, expired := false : Exchange }
     let w := min s.chargePar.current s.pkm.chargeAllowance
     (s.dlk.exchange = some e → s.dlk.released = false → s.dlk.grant = some 0 → exec .keepTimerExpiry s =
       .next (beginTransmission (s.setDlk { s.dlk with
         dueRequest := some { u := unitsFor s.dlk.offer w, w := w, forKeep := true } }))) ∧
     (s.dlk.exchange = some e → s.dlk.released = true ∨ s.dlk.grant.getD 0 ≠ 0 → exec .keepTimerExpiry s =
       .next (beginTransmission (s.setDlk { s.dlk with dueKeep := true }))) ∧
     (s.dlk.exchange = none → s.dlk.released = true ∨ s.dlk.grant.getD 0 ≠ 0 → exec .keepTimerExpiry s =
       .next (beginTransmission (s.setDlk { s.dlk with
         exchange := sent (keepMessage s), nextSeq := s.dlk.nextSeq + 1, keep := some 0, dueKeep := false
         }))) ∧
     (s.dlk.exchange = none → s.dlk.released = false → s.dlk.grant = some 0 → exec .keepTimerExpiry s =
       .next (beginTransmission (s.setDlk { s.dlk with
         exchange := sent (.request (requestUnits s.dlk.offer w) w), nextSeq := s.dlk.nextSeq + 1, keep := some 0
         lastRequest := some (requestUnits s.dlk.offer w, w), firstSent := true }))))

/-- An attempt's frame sent begins the wait; a preamble begins a reception; an abandoned one is counted; 50 ms without
a reception send the attempt anew, and after the third the exchange ends unanswered, in GREETING as a BASIC dock, in
NEGOTIATING as a LOST one, and in ACTIVE with a miss, after which the first message held is sent, the third of which is
LOST: offer, grant and last request gone, DOCK_LOST counted, the retry begun, a charge suspended for DOCK. That LOST
also drops the messages held due is the model's choice (log 23), as are log 11, 20 and 24. -/
def Obligations.DockAttempts : Prop :=
  ∀ (e : Exchange) (s : State), s.slc.power = .on → s.dlk.exchange = some e →
    (e.sending = true → exec .dockFrameSent s =
      .next (beginTransmission (s.setDlk { s.dlk with exchange := some { e with sending := false, wait := 0 } }))) ∧
    (e.sending = false → s.dlk.state ≠ .absent → s.dlk.receiving = false → exec .dockReceptionBegin s =
      .next (beginTransmission (s.setDlk { s.dlk with receiving := true }))) ∧
    (e.expired = false → s.dlk.receiving = true → exec .dockFrameAbandon s =
      .next (beginTransmission (s.setDlk { s.dlk with
        receiving := false, discarded := min 65535 (s.dlk.discarded + 1) }))) ∧
    (e.sending = false → s.dlk.receiving = true → exec .dockReplyTimeout s =
      .next (beginTransmission (s.setDlk { s.dlk with exchange := some { e with expired := true } }))) ∧
    (e.sending = false → s.dlk.receiving = false → e.attempt < 3 → exec .dockReplyTimeout s =
      .next (beginTransmission (s.setDlk { s.dlk with
        exchange := some { e with attempt := e.attempt + 1, sending := true, wait := 0, expired := false } }))) ∧
    (e.sending = false → s.dlk.receiving = false → 3 ≤ e.attempt → s.dlk.state = .greeting →
      Yields (exec .dockReplyTimeout s) fun t =>
        t.dlk.state = .basic ∧ t.dlk.exchange = none ∧ t.dlk.unanswered = min 65535 (s.dlk.unanswered + 1) ∧
          grantInForce t.dlk = 500) ∧
    (e.sending = false → s.dlk.receiving = false → 3 ≤ e.attempt → s.dlk.state = .active → s.dlk.misses < 2 →
      exec .dockReplyTimeout s = .next (beginTransmission (s.setDlk (heldSent (keepMessage s) { s.dlk with
        exchange := none, unanswered := min 65535 (s.dlk.unanswered + 1), misses := s.dlk.misses + 1 })))) ∧
    (e.sending = false → s.dlk.receiving = false → 3 ≤ e.attempt →
      s.dlk.state = .negotiating ∨ (s.dlk.state = .active ∧ 2 ≤ s.dlk.misses) →
      Yields (exec .dockReplyTimeout s) fun t =>
        t.dlk = { s.dlk with
          state := .lost, exchange := none, unanswered := min 65535 (s.dlk.unanswered + 1)
          misses := min 3 (s.dlk.misses + 1), offer := none, grant := none, lastRequest := none, released := false
          keep := none, retry := some 0, firstSent := false, dueRelease := none, dueRequest := none
          dueKeep := false } ∧
        t.fmg.table.dockLost = { count := min 255 (s.fmg.table.dockLost.count + 1), uptime := s.slc.uptime
                                 detail := .count (min 3 (s.dlk.misses + 1)) } ∧
        (isCharging s.chc.state = true →
          t.chc = enteredChc .suspend ⟨false, true, s.chc.pause⟩ { s.chc with iSet := 0 }) ∧
        SuctionKept s t ∧ t.gge = s.gge ∧ ParamsKept s t)

/-- A frame of the dock that answers: an OFFER leads to NEGOTIATING with the offer stored, a GRANT in NEGOTIATING to
ACTIVE with at most the offer's units, at which QUALIFY is judged with the grant now in force and a suspension for TEMP
stands, a GRANT in ACTIVE takes the grant and the setpoint with it, wakes a suspension for DOCK alone, and does nothing
while released, a GRANT or a KEEP_ACK in NEGOTIATING after a RELEASE enters ACTIVE released with a grant of 0, a
KEEP_ACK in ACTIVE ends the exchange and the first message held is sent: STOP, and DERATE from a dock that did not
declare it, takes the grant to 0 and suspends a charge, DERATE lowers offer, grant and setpoint, EVACUATED from a dock
that declared it is counted and clears the counters that say so. A frame that is not well formed is counted, and one of
another sequence or type ends its reception alone. The model's choices in it: log 5, 11, 21, 22, 23, 24, 43. -/
def Obligations.DockAnswers : Prop :=
  ∀ (e : Exchange) (bytes : List Byte) (seq : BitVec 4) (r : DockReply) (o : Offer) (g : Nat) (status : AckStatus)
      (s : State), s.slc.power = .on → s.dlk.exchange = some e → e.sending = false → s.dlk.state ≠ .absent →
    (readDockFrame bytes = some (e.seq, .offer o) → expects e.msg (.offer o) = true → s.dlk.state = .greeting → s.dlk.dueRelease = none →
      s.dlk.dueRequest = none → s.dlk.dueKeep = false → Yields (exec (.dockFrameReceived bytes) s) fun t =>
        t.dlk = { s.dlk with
          state := .negotiating, offer := some o, exchange := none, misses := 0, receiving := false
          firstSent := false } ∧ t.gge = s.gge ∧ t.fmg = s.fmg) ∧
    (readDockFrame bytes = some (e.seq, .grant g) → expects e.msg (.grant g) = true → s.dlk.state = .negotiating →
      s.dlk.released = false → s.chc.state = .suspend → s.dlk.dueRelease = none → s.dlk.dueRequest = none →
      s.dlk.dueKeep = false → s.chc.suspend.temp = true → Yields (exec (.dockFrameReceived bytes) s) fun t =>
        t.dlk = { s.dlk with
          state := .active, grant := some (takenGrant s.dlk.offer g), keep := some 0, exchange := none, misses := 0
          receiving := false } ∧
        t.chc = { s.chc with
          iSet := min s.chc.iSet (min s.chargePar.current (min s.pkm.chargeAllowance (takenGrant s.dlk.offer g * 100)))
          suspend := ⟨true, decide (takenGrant s.dlk.offer g = 0), s.chc.suspend.host⟩ } ∧
        SuctionKept s t ∧ t.gge = s.gge ∧ t.fmg = s.fmg) ∧
    (readDockFrame bytes = some (e.seq, .grant g) → expects e.msg (.grant g) = true → s.dlk.state = .negotiating →
      s.dlk.released = false → s.chc.state = .qualify → s.dlk.dueRelease = none → s.dlk.dueRequest = none →
      s.dlk.dueKeep = false → Yields (exec (.dockFrameReceived bytes) s) fun t =>
        let grant := takenGrant s.dlk.offer g
        let target := min s.chargePar.current (min s.pkm.chargeAllowance (grant * 100))
        let ov := s.pkm.cells.toList.any (·.ov)
        t.chc = qualifyJudged (motorParked s.mdr.state) .active (grant * 100) s.pkm.chargeAllowance
          s.chargePar.prechargeMv ov (vmin s.pkm) { s.chc with iSet := min s.chc.iSet target } ∧
        (ov = false → t.dlk = { s.dlk with
          state := .active, grant := some grant, keep := some 0, exchange := none, misses := 0
          receiving := false }) ∧
        t.dlk.state = .active ∧ t.gge = s.gge ∧ t.mdr = s.mdr ∧ t.trg = s.trg) ∧
    (readDockFrame bytes = some (e.seq, .grant g) → expects e.msg (.grant g) = true → s.dlk.state = .active →
      s.dlk.dueRelease = none → s.dlk.dueRequest = none → s.dlk.dueKeep = false →
      (s.dlk.released = true → exec (.dockFrameReceived bytes) s =
        .next (beginTransmission (s.setDlk { s.dlk with exchange := none, misses := 0, receiving := false }))) ∧
      (s.dlk.released = false → isCharging s.chc.state = true → 0 < takenGrant s.dlk.offer g →
        s.chc.iSet ≤ targetCurrent s → Yields (exec (.dockFrameReceived bytes) s) fun t =>
          let grant := takenGrant s.dlk.offer g
          t.dlk = { s.dlk with grant := some grant, exchange := none, misses := 0, receiving := false } ∧
          t.chc = { s.chc with
            iSet := min s.chc.iSet (min s.chargePar.current (min s.pkm.chargeAllowance (grant * 100))) } ∧
          SuctionKept s t ∧ t.gge = s.gge ∧ t.fmg = s.fmg) ∧
      (s.dlk.released = false → s.chc.state = .suspend → s.chc.suspend.temp = false → s.chc.suspend.host = false →
        s.dlk.grant.getD 0 = 0 → 0 < takenGrant s.dlk.offer g → Yields (exec (.dockFrameReceived bytes) s) fun t =>
          let grant := takenGrant s.dlk.offer g
          t.chc = qualifyJudged (motorParked s.mdr.state) .active (grant * 100) s.pkm.chargeAllowance
            s.chargePar.prechargeMv (s.pkm.cells.toList.any (·.ov)) (vmin s.pkm)
            (enteredChc .qualify noSuspend s.chc) ∧
          t.dlk.state = .active ∧ t.gge = s.gge ∧ t.mdr = s.mdr ∧ t.trg = s.trg)) ∧
    (readDockFrame bytes = some (e.seq, .keepAck .ok false) → expects e.msg (.keepAck .ok false) = true → s.dlk.state = .active →
      exec (.dockFrameReceived bytes) s = .next (beginTransmission (s.setDlk (heldSent (keepMessage s)
        { s.dlk with exchange := none, misses := 0, receiving := false })))) ∧
    (readDockFrame bytes = some (e.seq, .grant g) → expects e.msg (.grant g) = true → s.dlk.state = .negotiating →
      s.dlk.released = true → s.chc.state = .idle ∨ s.chc.state = .done ∨ s.chc.state = .fault →
      Yields (exec (.dockFrameReceived bytes) s) fun t =>
        t.dlk = heldSent (keepMessage s) { s.dlk with
          state := .active, grant := some 0, keep := some 0, exchange := none, misses := 0, receiving := false } ∧
        t.chc = { s.chc with iSet := 0 } ∧ SuctionKept s t ∧ t.gge = s.gge ∧ t.fmg = s.fmg) ∧
    (readDockFrame bytes = some (e.seq, .keepAck status false) → expects e.msg (.keepAck status false) = true →
      s.dlk.state = .negotiating → s.chc.state = .idle ∨ s.chc.state = .done ∨ s.chc.state = .fault →
      Yields (exec (.dockFrameReceived bytes) s) fun t =>
        t.dlk = heldSent (keepMessage s) { s.dlk with
          state := .active, released := true, grant := some 0, keep := some 0, exchange := none, misses := 0
          receiving := false
          offer := s.dlk.offer.map fun x => match status with
            | .derate m => if x.derateCapable then { x with max := min x.max m } else x
            | _ => x } ∧
        t.chc = { s.chc with iSet := 0 } ∧ SuctionKept s t ∧ t.gge = s.gge ∧ t.fmg = s.fmg) ∧
    (readDockFrame bytes = some (seq, r) → seq ≠ e.seq ∨ expects e.msg r = false →
      (e.expired = false → exec (.dockFrameReceived bytes) s =
        .next (beginTransmission (s.setDlk { s.dlk with receiving := false }))) ∧
      (e.expired = true → e.attempt < 3 → exec (.dockFrameReceived bytes) s =
        .next (beginTransmission (s.setDlk { s.dlk with
          receiving := false
          exchange := some { e with attempt := e.attempt + 1, sending := true, wait := 0, expired := false } })))) ∧
    (readDockFrame bytes = some (e.seq, .keepAck status false) → expects e.msg (.keepAck status false) = true →
      status = .stop ∨ (status = .derate g ∧ s.dlk.offer = some o ∧ o.derateCapable = false) →
      s.dlk.state = .active → s.dlk.dueRelease = none → s.dlk.dueRequest = none → s.dlk.dueKeep = false →
      s.dlk.grant.getD 0 ≠ 0 → Yields (exec (.dockFrameReceived bytes) s) fun t =>
        t.dlk = { s.dlk with grant := some 0, exchange := none, misses := 0, receiving := false } ∧
        (isCharging s.chc.state = true →
          t.chc = enteredChc .suspend ⟨false, true, s.chc.pause⟩ { s.chc with iSet := 0 }) ∧
        SuctionKept s t ∧ t.gge = s.gge ∧ t.fmg.table = s.fmg.table) ∧
    (readDockFrame bytes = some (e.seq, .keepAck (.derate g) false) →
      expects e.msg (.keepAck (.derate g) false) = true → s.dlk.state = .active → s.dlk.dueRelease = none →
      s.dlk.dueRequest = none → s.dlk.dueKeep = false → s.dlk.offer = some o → o.derateCapable = true →
      isCharging s.chc.state = true → g < s.dlk.grant.getD 0 → Yields (exec (.dockFrameReceived bytes) s) fun t =>
        t.dlk = { s.dlk with
          offer := some { o with max := min o.max g }, grant := some g, exchange := none, misses := 0
          receiving := false } ∧
        t.chc = { s.chc with iSet := min s.chc.iSet (min s.chargePar.current (min s.pkm.chargeAllowance (g * 100))) } ∧
        SuctionKept s t ∧ t.gge = s.gge ∧ t.fmg = s.fmg) ∧
    (readDockFrame bytes = some (e.seq, .keepAck status true) → expects e.msg (.keepAck status true) = true →
      s.dlk.state = .active ∨ s.dlk.state = .negotiating → s.dlk.offer = some o → Yields (exec (.dockFrameReceived bytes) s) fun t =>
        t.dlk.evacuations = (if o.evacuator then min 255 (s.dlk.evacuations + 1) else s.dlk.evacuations) ∧
        t.icn.counters = (if o.evacuator then s.icn.counters.map fun c =>
            if c.options.clearOnEvacuation then
              { c with value := 0, reached := false, residue := 0
                       state := if c.state = .frozen then .counting else c.state }
            else c
          else s.icn.counters)) ∧
    (readDockFrame bytes = none → e.expired = false → exec (.dockFrameReceived bytes) s =
      .next (beginTransmission (s.setDlk { s.dlk with
        receiving := false, discarded := min 65535 (s.dlk.discarded + 1) })))

/-! ### Power -/

/-- The power-on resets leave every field at its reset value but the reset cause, the re-arm flag, which is pending where
the debounced level stood at PRESSED (log 39), and what the start-up begins at once: the first scan, and with the contact
voltage above the threshold SETTLING, which SHIP_WAKE always begins (log 54). The pins and the waiting commands are outside
the part (log 1, 2). The idle timer's expiry, with the timer at its bound, is the entry to SLEEP,
and is void below it. A press, a contact rise and a byte on the host line wake the part from SLEEP: the transmitter
resumes with the oldest frame queued, and the event is then handled in ON. The model's choices in it: log 1, 2, 9, 11,
20, 28, 36, 54. -/
def Obligations.PowerEvents : Prop :=
  ∀ (e : NoticeEntry) (es : List NoticeEntry) (byte : Byte) (stop : Bool) (s : State),
    let fresh := fun (cause : ResetCause) (contact : Bool) =>
      { State.reset with trg := { Trg.reset with raw := s.trg.raw, rearm := decide (s.trg.debounced = some .pressed) }
                         pkm := startedPkm, chc := startedChc contact, dlk := startedDlk contact
                         mpt := startedMpt cause contact, slc := Slc.reset cause, pending := s.pending }
    exec .powerOn s = .next (fresh .powerOn s.dlk.contact) ∧
    (s.slc.power ≠ .ship → exec .brownout s = .next (fresh .brownout s.dlk.contact)) ∧
    (s.slc.power = .ship → exec .shipWake s = .next (fresh .shipWake true)) ∧
    (s.slc.power = .on → s.mdr.state = .off → s.dlk.state = .absent → s.idleSleepS ≠ 0 →
      s.idleSleepS * 1000 ≤ s.slc.idle →
      Yields (exec .idleTimerExpiry s) fun t =>
        t.slc = { s.slc with power := .sleep, idle := 0, entry := .none } ∧ t.drs.triggerClaim = false ∧
        t.drs.hostClaim = false ∧ t.drs.edit = none ∧ t.drs.record.runDemand = false ∧ t.pkm.interval = .watch ∧
        t.mdr = s.mdr ∧ t.gge = s.gge ∧ t.sbt = s.sbt ∧ t.chc = s.chc ∧ t.dlk = s.dlk ∧ t.fmg = s.fmg ∧ ParamsKept s t ∧
        RestKept s t) ∧
    (s.slc.power ≠ .ship → s.slc.power ≠ .on ∨ s.mdr.state ≠ .off ∨ s.dlk.state ≠ .absent ∨ s.idleSleepS = 0 ∨
        s.slc.idle < s.idleSleepS * 1000 →
      exec .idleTimerExpiry s = .next (beginTransmission s)) ∧
    (s.slc.power = .sleep → s.drs.triggerClaim = false → s.drs.hostClaim = false →
     s.drs.record.runDemand = false →
     let woken := fun (cause : WakeCause) (t : State) =>
       t.slc.power = .on ∧ t.slc.wakeCause = cause ∧ t.slc.idle = 0 ∧ t.slc.uptime = s.slc.uptime ∧
         t.pkm.lastOnStart = none ∧ t.sbt = s.sbt ∧ t.gge = s.gge ∧ ParamsKept s t ∧ t.pending = s.pending ∧
         (s.mpt.tx = none → s.mpt.replies = [] → s.mpt.notices = e :: es → t.mpt.tx = some (.notice e))
     (s.trg.debounced = some .released → s.trg.raw = .pressed → s.trg.rearm = false → s.trg.mode = .hold →
       s.mdr.state = .off → s.dlk.state = .absent → s.chc.state = .idle → s.pkm.state ≠ .cutoff →
       Yields (exec .triggerDebounce s) fun t =>
         woken .trigger t ∧ t.drs.triggerClaim = true ∧ t.drs.record.runDemand = true ∧ t.mdr.state = .precheck ∧
           t.pkm.interval = .fast ∧ t.chc = s.chc ∧ t.dlk = s.dlk) ∧
     (s.dlk.state = .absent → Yields (exec .dockContactRise s) fun t =>
       woken .dock t ∧ t.dlk.state = .settling ∧ t.dlk.settle = some 0 ∧ t.dlk.contact = true ∧
         t.drs.record.runDemand = false ∧ (s.mdr.state = .off → t.mdr = s.mdr)) ∧
     (s.mpt.rx = .hunt → Yields (exec (.linkWake byte stop) s) fun t =>
       woken .link t ∧ t.mpt.rx = (if stop = true ∧ byte = 0xC3#8 then .header else .hunt) ∧
         t.mdr = s.mdr ∧ t.drs = s.drs ∧ t.dlk = s.dlk ∧ t.chc = s.chc))

/-! ### What every step keeps -/

/-- Right after the power-on reset everything the invariants say holds. -/
def Obligations.ResetSound : Prop :=
  let s := State.reset
  (NoticesDistinct s.mpt ∧ NoticesEnabled s.mpt ∧ RepliesBounded s.mpt ∧ ReplyIsOldest s.mpt) ∧
    (ProfileSound s.drs ∧ RecordSound s.drs.record ∧ DemandFollows s ∧ MotorFollows s) ∧
    (RegulatorSound s ∧ GatesSound s.mdr ∧ TripFollows s ∧ BlockageSound s ∧ DirtSound s) ∧
    (GaugeSound s.gge ∧ SetpointSound s ∧ ChargeParked s ∧ SleepQuiet s ∧ IntervalFollows s) ∧
    BleedFollows s ∧ DockSound s.dlk ∧ ParamsInRange s ∧ MotorInRange s.mdr ∧ TableInRange s ∧ OpticalSound s ∧
    CountersInRange s.icn

/-- Every step keeps at most one notice of a kind in the queue, and none of a masked kind. The model's choices in
it: log 2, 7. -/
def Obligations.NoticesKept : Prop :=
  ∀ s : State, NoticesDistinct s.mpt → NoticesEnabled s.mpt →
    Yields (step s) fun t => NoticesDistinct t.mpt ∧ NoticesEnabled t.mpt

/-- Every step keeps the reply queue at two at most, and a reply being sent at its head. The model's choices in
it: log 2, 7, 11. -/
def Obligations.RepliesKept : Prop :=
  ∀ s : State, RepliesBounded s.mpt → ReplyIsOldest s.mpt →
    Yields (step s) fun t => RepliesBounded t.mpt ∧ ReplyIsOldest t.mpt

/-- Every step keeps the profile in force consistent and in range, with the open edit, and the record in range.
The model's choices in it: log 2, 7. -/
def Obligations.ProfileKept : Prop :=
  ∀ s : State, ProfileSound s.drs → RecordSound s.drs.record →
    Yields (step s) fun t => ProfileSound t.drs ∧ RecordSound t.drs.record

/-- Every step keeps run demand what the claims and the inhibits make it, and the motor running exactly while it
stands or a start is pending. The model's choices in it: log 2, 7. -/
def Obligations.DemandKept : Prop :=
  ∀ s : State, DemandFollows s → MotorFollows s → Yields (step s) fun t => DemandFollows t ∧ MotorFollows t

/-- Every step keeps the duty under its ceiling and the bridge driven only in the driven states. The model's
choices in it: log 2, 7. -/
def Obligations.DriveKept : Prop :=
  ∀ s : State, RegulatorSound s → GatesSound s.mdr → Yields (step s) fun t => RegulatorSound t ∧ GatesSound t.mdr

/-- Every step keeps a trip record standing exactly while the motor is TRIPPED, and a record that stands keeps its
first cause with all that was recorded beside it but the later causes. The model's choices in it: log 2, 7. -/
def Obligations.TripKept : Prop :=
  ∀ s : State, TripFollows s → Yields (step s) fun t =>
    TripFollows t ∧ ∀ r, s.fmg.trip = some r → ∀ q, t.fmg.trip = some q →
      q.first = r.first ∧ q.detail = r.detail ∧ q.uptime = r.uptime ∧ q.motor = r.motor ∧ q.speed = r.speed ∧
      q.current = r.current ∧ q.vmin = r.vmin ∧ q.tInv = r.tInv ∧ q.packT = r.packT

/-- Every step keeps the Blockage Monitor in NORMAL and the dirt windows stopped outside RUN. The model's choices
in it: log 2, 7. -/
def Obligations.RunSideKept : Prop :=
  ∀ s : State, BlockageSound s → DirtSound s → Yields (step s) fun t => BlockageSound t ∧ DirtSound t

/-- Every step keeps the gauge between empty and full. The model's choices in it: log 2, 7. -/
def Obligations.GaugeKept : Prop :=
  ∀ s : State, GaugeSound s.gge → Yields (step s) fun t => GaugeSound t.gge

/-- Every step keeps the setpoint under the target, and at 0 where no current is drawn. The model's choices in it:
log 2, 7. -/
def Obligations.SetpointKept : Prop :=
  ∀ s : State, SetpointSound s → Yields (step s) SetpointSound

/-- Every step keeps charging to a parked motor and a dock, SLEEP to a quiet part, and the scan interval to its
states. The model's choices in it: log 2, 7, 26. -/
def Obligations.ChargeKept : Prop :=
  ∀ s : State, ChargeParked s → SleepQuiet s → IntervalFollows s →
    Yields (step s) fun t => ChargeParked t ∧ SleepQuiet t ∧ IntervalFollows t

/-- Every step keeps the bleed set CHC's, at most three cells, no two of them neighbours, and empty outside CV and
BALANCE. The model's choices in it: log 2, 7. -/
def Obligations.BleedKept : Prop :=
  ∀ s : State, BleedFollows s → Yields (step s) BleedFollows

/-- Every step keeps what the Dock Link holds fitting its state. The model's choices in it: log 2, 7, 23. -/
def Obligations.DockKept : Prop :=
  ∀ s : State, DockSound s.dlk → Yields (step s) fun t => DockSound t.dlk

/-- Every step keeps every parameter in its range and within its dependencies. The model's choices in it: log 2,
7. -/
def Obligations.ParametersKept : Prop :=
  ∀ s : State, ParamsInRange s → Yields (step s) ParamsInRange

/-- Every step keeps the Motor Drive's counts, the band table's entries and the optical channel in their ranges, and
every counter's value, threshold and tick residue in theirs.
The model's choices in it: log 2, 7. -/
def Obligations.RangesKept : Prop :=
  ∀ s : State,
    (MotorInRange s.mdr → TableInRange s → OpticalSound s →
      Yields (step s) fun t => MotorInRange t.mdr ∧ TableInRange t ∧ OpticalSound t) ∧
    (CountersInRange s.icn → Yields (step s) fun t => CountersInRange t.icn)
end

