-- ==== Sys2Proof/Laws/State.lean ====
section
/-! SUPPORT. One lemma per field per update of the state, true by rfl: later proofs read a field of an updated state
through these and never unfold the update. -/

namespace Sys2Proof.Machine

@[simp] theorem State.setTrg_trg (s : State) (v : Trg) : (s.setTrg v).trg = v := rfl
@[simp] theorem State.setTrg_drs (s : State) (v : Trg) : (s.setTrg v).drs = s.drs := rfl
@[simp] theorem State.setTrg_mdr (s : State) (v : Trg) : (s.setTrg v).mdr = s.mdr := rfl
@[simp] theorem State.setTrg_srg (s : State) (v : Trg) : (s.setTrg v).srg = s.srg := rfl
@[simp] theorem State.setTrg_sbt (s : State) (v : Trg) : (s.setTrg v).sbt = s.sbt := rfl
@[simp] theorem State.setTrg_blm (s : State) (v : Trg) : (s.setTrg v).blm = s.blm := rfl
@[simp] theorem State.setTrg_dse (s : State) (v : Trg) : (s.setTrg v).dse = s.dse := rfl
@[simp] theorem State.setTrg_pkm (s : State) (v : Trg) : (s.setTrg v).pkm = s.pkm := rfl
@[simp] theorem State.setTrg_gge (s : State) (v : Trg) : (s.setTrg v).gge = s.gge := rfl
@[simp] theorem State.setTrg_chc (s : State) (v : Trg) : (s.setTrg v).chc = s.chc := rfl
@[simp] theorem State.setTrg_dlk (s : State) (v : Trg) : (s.setTrg v).dlk = s.dlk := rfl
@[simp] theorem State.setTrg_icn (s : State) (v : Trg) : (s.setTrg v).icn = s.icn := rfl
@[simp] theorem State.setTrg_fmg (s : State) (v : Trg) : (s.setTrg v).fmg = s.fmg := rfl
@[simp] theorem State.setTrg_mpt (s : State) (v : Trg) : (s.setTrg v).mpt = s.mpt := rfl
@[simp] theorem State.setTrg_slc (s : State) (v : Trg) : (s.setTrg v).slc = s.slc := rfl
@[simp] theorem State.setTrg_motorPar (s : State) (v : Trg) : (s.setTrg v).motorPar = s.motorPar := rfl
@[simp] theorem State.setTrg_blockPar (s : State) (v : Trg) : (s.setTrg v).blockPar = s.blockPar := rfl
@[simp] theorem State.setTrg_packPar (s : State) (v : Trg) : (s.setTrg v).packPar = s.packPar := rfl
@[simp] theorem State.setTrg_chargePar (s : State) (v : Trg) : (s.setTrg v).chargePar = s.chargePar := rfl
@[simp] theorem State.setTrg_dirtPar (s : State) (v : Trg) : (s.setTrg v).dirtPar = s.dirtPar := rfl
@[simp] theorem State.setTrg_idleSleepS (s : State) (v : Trg) : (s.setTrg v).idleSleepS = s.idleSleepS := rfl
@[simp] theorem State.setTrg_pending (s : State) (v : Trg) : (s.setTrg v).pending = s.pending := rfl
@[simp] theorem State.setDrs_trg (s : State) (v : Drs) : (s.setDrs v).trg = s.trg := rfl
@[simp] theorem State.setDrs_drs (s : State) (v : Drs) : (s.setDrs v).drs = v := rfl
@[simp] theorem State.setDrs_mdr (s : State) (v : Drs) : (s.setDrs v).mdr = s.mdr := rfl
@[simp] theorem State.setDrs_srg (s : State) (v : Drs) : (s.setDrs v).srg = s.srg := rfl
@[simp] theorem State.setDrs_sbt (s : State) (v : Drs) : (s.setDrs v).sbt = s.sbt := rfl
@[simp] theorem State.setDrs_blm (s : State) (v : Drs) : (s.setDrs v).blm = s.blm := rfl
@[simp] theorem State.setDrs_dse (s : State) (v : Drs) : (s.setDrs v).dse = s.dse := rfl
@[simp] theorem State.setDrs_pkm (s : State) (v : Drs) : (s.setDrs v).pkm = s.pkm := rfl
@[simp] theorem State.setDrs_gge (s : State) (v : Drs) : (s.setDrs v).gge = s.gge := rfl
@[simp] theorem State.setDrs_chc (s : State) (v : Drs) : (s.setDrs v).chc = s.chc := rfl
@[simp] theorem State.setDrs_dlk (s : State) (v : Drs) : (s.setDrs v).dlk = s.dlk := rfl
@[simp] theorem State.setDrs_icn (s : State) (v : Drs) : (s.setDrs v).icn = s.icn := rfl
@[simp] theorem State.setDrs_fmg (s : State) (v : Drs) : (s.setDrs v).fmg = s.fmg := rfl
@[simp] theorem State.setDrs_mpt (s : State) (v : Drs) : (s.setDrs v).mpt = s.mpt := rfl
@[simp] theorem State.setDrs_slc (s : State) (v : Drs) : (s.setDrs v).slc = s.slc := rfl
@[simp] theorem State.setDrs_motorPar (s : State) (v : Drs) : (s.setDrs v).motorPar = s.motorPar := rfl
@[simp] theorem State.setDrs_blockPar (s : State) (v : Drs) : (s.setDrs v).blockPar = s.blockPar := rfl
@[simp] theorem State.setDrs_packPar (s : State) (v : Drs) : (s.setDrs v).packPar = s.packPar := rfl
@[simp] theorem State.setDrs_chargePar (s : State) (v : Drs) : (s.setDrs v).chargePar = s.chargePar := rfl
@[simp] theorem State.setDrs_dirtPar (s : State) (v : Drs) : (s.setDrs v).dirtPar = s.dirtPar := rfl
@[simp] theorem State.setDrs_idleSleepS (s : State) (v : Drs) : (s.setDrs v).idleSleepS = s.idleSleepS := rfl
@[simp] theorem State.setDrs_pending (s : State) (v : Drs) : (s.setDrs v).pending = s.pending := rfl
@[simp] theorem State.setMdr_trg (s : State) (v : Mdr) : (s.setMdr v).trg = s.trg := rfl
@[simp] theorem State.setMdr_drs (s : State) (v : Mdr) : (s.setMdr v).drs = s.drs := rfl
@[simp] theorem State.setMdr_mdr (s : State) (v : Mdr) : (s.setMdr v).mdr = v := rfl
@[simp] theorem State.setMdr_srg (s : State) (v : Mdr) : (s.setMdr v).srg = s.srg := rfl
@[simp] theorem State.setMdr_sbt (s : State) (v : Mdr) : (s.setMdr v).sbt = s.sbt := rfl
@[simp] theorem State.setMdr_blm (s : State) (v : Mdr) : (s.setMdr v).blm = s.blm := rfl
@[simp] theorem State.setMdr_dse (s : State) (v : Mdr) : (s.setMdr v).dse = s.dse := rfl
@[simp] theorem State.setMdr_pkm (s : State) (v : Mdr) : (s.setMdr v).pkm = s.pkm := rfl
@[simp] theorem State.setMdr_gge (s : State) (v : Mdr) : (s.setMdr v).gge = s.gge := rfl
@[simp] theorem State.setMdr_chc (s : State) (v : Mdr) : (s.setMdr v).chc = s.chc := rfl
@[simp] theorem State.setMdr_dlk (s : State) (v : Mdr) : (s.setMdr v).dlk = s.dlk := rfl
@[simp] theorem State.setMdr_icn (s : State) (v : Mdr) : (s.setMdr v).icn = s.icn := rfl
@[simp] theorem State.setMdr_fmg (s : State) (v : Mdr) : (s.setMdr v).fmg = s.fmg := rfl
@[simp] theorem State.setMdr_mpt (s : State) (v : Mdr) : (s.setMdr v).mpt = s.mpt := rfl
@[simp] theorem State.setMdr_slc (s : State) (v : Mdr) : (s.setMdr v).slc = s.slc := rfl
@[simp] theorem State.setMdr_motorPar (s : State) (v : Mdr) : (s.setMdr v).motorPar = s.motorPar := rfl
@[simp] theorem State.setMdr_blockPar (s : State) (v : Mdr) : (s.setMdr v).blockPar = s.blockPar := rfl
@[simp] theorem State.setMdr_packPar (s : State) (v : Mdr) : (s.setMdr v).packPar = s.packPar := rfl
@[simp] theorem State.setMdr_chargePar (s : State) (v : Mdr) : (s.setMdr v).chargePar = s.chargePar := rfl
@[simp] theorem State.setMdr_dirtPar (s : State) (v : Mdr) : (s.setMdr v).dirtPar = s.dirtPar := rfl
@[simp] theorem State.setMdr_idleSleepS (s : State) (v : Mdr) : (s.setMdr v).idleSleepS = s.idleSleepS := rfl
@[simp] theorem State.setMdr_pending (s : State) (v : Mdr) : (s.setMdr v).pending = s.pending := rfl
@[simp] theorem State.setSrg_trg (s : State) (v : Srg) : (s.setSrg v).trg = s.trg := rfl
@[simp] theorem State.setSrg_drs (s : State) (v : Srg) : (s.setSrg v).drs = s.drs := rfl
@[simp] theorem State.setSrg_mdr (s : State) (v : Srg) : (s.setSrg v).mdr = s.mdr := rfl
@[simp] theorem State.setSrg_srg (s : State) (v : Srg) : (s.setSrg v).srg = v := rfl
@[simp] theorem State.setSrg_sbt (s : State) (v : Srg) : (s.setSrg v).sbt = s.sbt := rfl
@[simp] theorem State.setSrg_blm (s : State) (v : Srg) : (s.setSrg v).blm = s.blm := rfl
@[simp] theorem State.setSrg_dse (s : State) (v : Srg) : (s.setSrg v).dse = s.dse := rfl
@[simp] theorem State.setSrg_pkm (s : State) (v : Srg) : (s.setSrg v).pkm = s.pkm := rfl
@[simp] theorem State.setSrg_gge (s : State) (v : Srg) : (s.setSrg v).gge = s.gge := rfl
@[simp] theorem State.setSrg_chc (s : State) (v : Srg) : (s.setSrg v).chc = s.chc := rfl
@[simp] theorem State.setSrg_dlk (s : State) (v : Srg) : (s.setSrg v).dlk = s.dlk := rfl
@[simp] theorem State.setSrg_icn (s : State) (v : Srg) : (s.setSrg v).icn = s.icn := rfl
@[simp] theorem State.setSrg_fmg (s : State) (v : Srg) : (s.setSrg v).fmg = s.fmg := rfl
@[simp] theorem State.setSrg_mpt (s : State) (v : Srg) : (s.setSrg v).mpt = s.mpt := rfl
@[simp] theorem State.setSrg_slc (s : State) (v : Srg) : (s.setSrg v).slc = s.slc := rfl
@[simp] theorem State.setSrg_motorPar (s : State) (v : Srg) : (s.setSrg v).motorPar = s.motorPar := rfl
@[simp] theorem State.setSrg_blockPar (s : State) (v : Srg) : (s.setSrg v).blockPar = s.blockPar := rfl
@[simp] theorem State.setSrg_packPar (s : State) (v : Srg) : (s.setSrg v).packPar = s.packPar := rfl
@[simp] theorem State.setSrg_chargePar (s : State) (v : Srg) : (s.setSrg v).chargePar = s.chargePar := rfl
@[simp] theorem State.setSrg_dirtPar (s : State) (v : Srg) : (s.setSrg v).dirtPar = s.dirtPar := rfl
@[simp] theorem State.setSrg_idleSleepS (s : State) (v : Srg) : (s.setSrg v).idleSleepS = s.idleSleepS := rfl
@[simp] theorem State.setSrg_pending (s : State) (v : Srg) : (s.setSrg v).pending = s.pending := rfl
@[simp] theorem State.setSbt_trg (s : State) (v : Sbt) : (s.setSbt v).trg = s.trg := rfl
@[simp] theorem State.setSbt_drs (s : State) (v : Sbt) : (s.setSbt v).drs = s.drs := rfl
@[simp] theorem State.setSbt_mdr (s : State) (v : Sbt) : (s.setSbt v).mdr = s.mdr := rfl
@[simp] theorem State.setSbt_srg (s : State) (v : Sbt) : (s.setSbt v).srg = s.srg := rfl
@[simp] theorem State.setSbt_sbt (s : State) (v : Sbt) : (s.setSbt v).sbt = v := rfl
@[simp] theorem State.setSbt_blm (s : State) (v : Sbt) : (s.setSbt v).blm = s.blm := rfl
@[simp] theorem State.setSbt_dse (s : State) (v : Sbt) : (s.setSbt v).dse = s.dse := rfl
@[simp] theorem State.setSbt_pkm (s : State) (v : Sbt) : (s.setSbt v).pkm = s.pkm := rfl
@[simp] theorem State.setSbt_gge (s : State) (v : Sbt) : (s.setSbt v).gge = s.gge := rfl
@[simp] theorem State.setSbt_chc (s : State) (v : Sbt) : (s.setSbt v).chc = s.chc := rfl
@[simp] theorem State.setSbt_dlk (s : State) (v : Sbt) : (s.setSbt v).dlk = s.dlk := rfl
@[simp] theorem State.setSbt_icn (s : State) (v : Sbt) : (s.setSbt v).icn = s.icn := rfl
@[simp] theorem State.setSbt_fmg (s : State) (v : Sbt) : (s.setSbt v).fmg = s.fmg := rfl
@[simp] theorem State.setSbt_mpt (s : State) (v : Sbt) : (s.setSbt v).mpt = s.mpt := rfl
@[simp] theorem State.setSbt_slc (s : State) (v : Sbt) : (s.setSbt v).slc = s.slc := rfl
@[simp] theorem State.setSbt_motorPar (s : State) (v : Sbt) : (s.setSbt v).motorPar = s.motorPar := rfl
@[simp] theorem State.setSbt_blockPar (s : State) (v : Sbt) : (s.setSbt v).blockPar = s.blockPar := rfl
@[simp] theorem State.setSbt_packPar (s : State) (v : Sbt) : (s.setSbt v).packPar = s.packPar := rfl
@[simp] theorem State.setSbt_chargePar (s : State) (v : Sbt) : (s.setSbt v).chargePar = s.chargePar := rfl
@[simp] theorem State.setSbt_dirtPar (s : State) (v : Sbt) : (s.setSbt v).dirtPar = s.dirtPar := rfl
@[simp] theorem State.setSbt_idleSleepS (s : State) (v : Sbt) : (s.setSbt v).idleSleepS = s.idleSleepS := rfl
@[simp] theorem State.setSbt_pending (s : State) (v : Sbt) : (s.setSbt v).pending = s.pending := rfl
@[simp] theorem State.setBlm_trg (s : State) (v : Blm) : (s.setBlm v).trg = s.trg := rfl
@[simp] theorem State.setBlm_drs (s : State) (v : Blm) : (s.setBlm v).drs = s.drs := rfl
@[simp] theorem State.setBlm_mdr (s : State) (v : Blm) : (s.setBlm v).mdr = s.mdr := rfl
@[simp] theorem State.setBlm_srg (s : State) (v : Blm) : (s.setBlm v).srg = s.srg := rfl
@[simp] theorem State.setBlm_sbt (s : State) (v : Blm) : (s.setBlm v).sbt = s.sbt := rfl
@[simp] theorem State.setBlm_blm (s : State) (v : Blm) : (s.setBlm v).blm = v := rfl
@[simp] theorem State.setBlm_dse (s : State) (v : Blm) : (s.setBlm v).dse = s.dse := rfl
@[simp] theorem State.setBlm_pkm (s : State) (v : Blm) : (s.setBlm v).pkm = s.pkm := rfl
@[simp] theorem State.setBlm_gge (s : State) (v : Blm) : (s.setBlm v).gge = s.gge := rfl
@[simp] theorem State.setBlm_chc (s : State) (v : Blm) : (s.setBlm v).chc = s.chc := rfl
@[simp] theorem State.setBlm_dlk (s : State) (v : Blm) : (s.setBlm v).dlk = s.dlk := rfl
@[simp] theorem State.setBlm_icn (s : State) (v : Blm) : (s.setBlm v).icn = s.icn := rfl
@[simp] theorem State.setBlm_fmg (s : State) (v : Blm) : (s.setBlm v).fmg = s.fmg := rfl
@[simp] theorem State.setBlm_mpt (s : State) (v : Blm) : (s.setBlm v).mpt = s.mpt := rfl
@[simp] theorem State.setBlm_slc (s : State) (v : Blm) : (s.setBlm v).slc = s.slc := rfl
@[simp] theorem State.setBlm_motorPar (s : State) (v : Blm) : (s.setBlm v).motorPar = s.motorPar := rfl
@[simp] theorem State.setBlm_blockPar (s : State) (v : Blm) : (s.setBlm v).blockPar = s.blockPar := rfl
@[simp] theorem State.setBlm_packPar (s : State) (v : Blm) : (s.setBlm v).packPar = s.packPar := rfl
@[simp] theorem State.setBlm_chargePar (s : State) (v : Blm) : (s.setBlm v).chargePar = s.chargePar := rfl
@[simp] theorem State.setBlm_dirtPar (s : State) (v : Blm) : (s.setBlm v).dirtPar = s.dirtPar := rfl
@[simp] theorem State.setBlm_idleSleepS (s : State) (v : Blm) : (s.setBlm v).idleSleepS = s.idleSleepS := rfl
@[simp] theorem State.setBlm_pending (s : State) (v : Blm) : (s.setBlm v).pending = s.pending := rfl
@[simp] theorem State.setDse_trg (s : State) (v : Dse) : (s.setDse v).trg = s.trg := rfl
@[simp] theorem State.setDse_drs (s : State) (v : Dse) : (s.setDse v).drs = s.drs := rfl
@[simp] theorem State.setDse_mdr (s : State) (v : Dse) : (s.setDse v).mdr = s.mdr := rfl
@[simp] theorem State.setDse_srg (s : State) (v : Dse) : (s.setDse v).srg = s.srg := rfl
@[simp] theorem State.setDse_sbt (s : State) (v : Dse) : (s.setDse v).sbt = s.sbt := rfl
@[simp] theorem State.setDse_blm (s : State) (v : Dse) : (s.setDse v).blm = s.blm := rfl
@[simp] theorem State.setDse_dse (s : State) (v : Dse) : (s.setDse v).dse = v := rfl
@[simp] theorem State.setDse_pkm (s : State) (v : Dse) : (s.setDse v).pkm = s.pkm := rfl
@[simp] theorem State.setDse_gge (s : State) (v : Dse) : (s.setDse v).gge = s.gge := rfl
@[simp] theorem State.setDse_chc (s : State) (v : Dse) : (s.setDse v).chc = s.chc := rfl
@[simp] theorem State.setDse_dlk (s : State) (v : Dse) : (s.setDse v).dlk = s.dlk := rfl
@[simp] theorem State.setDse_icn (s : State) (v : Dse) : (s.setDse v).icn = s.icn := rfl
@[simp] theorem State.setDse_fmg (s : State) (v : Dse) : (s.setDse v).fmg = s.fmg := rfl
@[simp] theorem State.setDse_mpt (s : State) (v : Dse) : (s.setDse v).mpt = s.mpt := rfl
@[simp] theorem State.setDse_slc (s : State) (v : Dse) : (s.setDse v).slc = s.slc := rfl
@[simp] theorem State.setDse_motorPar (s : State) (v : Dse) : (s.setDse v).motorPar = s.motorPar := rfl
@[simp] theorem State.setDse_blockPar (s : State) (v : Dse) : (s.setDse v).blockPar = s.blockPar := rfl
@[simp] theorem State.setDse_packPar (s : State) (v : Dse) : (s.setDse v).packPar = s.packPar := rfl
@[simp] theorem State.setDse_chargePar (s : State) (v : Dse) : (s.setDse v).chargePar = s.chargePar := rfl
@[simp] theorem State.setDse_dirtPar (s : State) (v : Dse) : (s.setDse v).dirtPar = s.dirtPar := rfl
@[simp] theorem State.setDse_idleSleepS (s : State) (v : Dse) : (s.setDse v).idleSleepS = s.idleSleepS := rfl
@[simp] theorem State.setDse_pending (s : State) (v : Dse) : (s.setDse v).pending = s.pending := rfl
@[simp] theorem State.setPkm_trg (s : State) (v : Pkm) : (s.setPkm v).trg = s.trg := rfl
@[simp] theorem State.setPkm_drs (s : State) (v : Pkm) : (s.setPkm v).drs = s.drs := rfl
@[simp] theorem State.setPkm_mdr (s : State) (v : Pkm) : (s.setPkm v).mdr = s.mdr := rfl
@[simp] theorem State.setPkm_srg (s : State) (v : Pkm) : (s.setPkm v).srg = s.srg := rfl
@[simp] theorem State.setPkm_sbt (s : State) (v : Pkm) : (s.setPkm v).sbt = s.sbt := rfl
@[simp] theorem State.setPkm_blm (s : State) (v : Pkm) : (s.setPkm v).blm = s.blm := rfl
@[simp] theorem State.setPkm_dse (s : State) (v : Pkm) : (s.setPkm v).dse = s.dse := rfl
@[simp] theorem State.setPkm_pkm (s : State) (v : Pkm) : (s.setPkm v).pkm = v := rfl
@[simp] theorem State.setPkm_gge (s : State) (v : Pkm) : (s.setPkm v).gge = s.gge := rfl
@[simp] theorem State.setPkm_chc (s : State) (v : Pkm) : (s.setPkm v).chc = s.chc := rfl
@[simp] theorem State.setPkm_dlk (s : State) (v : Pkm) : (s.setPkm v).dlk = s.dlk := rfl
@[simp] theorem State.setPkm_icn (s : State) (v : Pkm) : (s.setPkm v).icn = s.icn := rfl
@[simp] theorem State.setPkm_fmg (s : State) (v : Pkm) : (s.setPkm v).fmg = s.fmg := rfl
@[simp] theorem State.setPkm_mpt (s : State) (v : Pkm) : (s.setPkm v).mpt = s.mpt := rfl
@[simp] theorem State.setPkm_slc (s : State) (v : Pkm) : (s.setPkm v).slc = s.slc := rfl
@[simp] theorem State.setPkm_motorPar (s : State) (v : Pkm) : (s.setPkm v).motorPar = s.motorPar := rfl
@[simp] theorem State.setPkm_blockPar (s : State) (v : Pkm) : (s.setPkm v).blockPar = s.blockPar := rfl
@[simp] theorem State.setPkm_packPar (s : State) (v : Pkm) : (s.setPkm v).packPar = s.packPar := rfl
@[simp] theorem State.setPkm_chargePar (s : State) (v : Pkm) : (s.setPkm v).chargePar = s.chargePar := rfl
@[simp] theorem State.setPkm_dirtPar (s : State) (v : Pkm) : (s.setPkm v).dirtPar = s.dirtPar := rfl
@[simp] theorem State.setPkm_idleSleepS (s : State) (v : Pkm) : (s.setPkm v).idleSleepS = s.idleSleepS := rfl
@[simp] theorem State.setPkm_pending (s : State) (v : Pkm) : (s.setPkm v).pending = s.pending := rfl
@[simp] theorem State.setGge_trg (s : State) (v : Gge) : (s.setGge v).trg = s.trg := rfl
@[simp] theorem State.setGge_drs (s : State) (v : Gge) : (s.setGge v).drs = s.drs := rfl
@[simp] theorem State.setGge_mdr (s : State) (v : Gge) : (s.setGge v).mdr = s.mdr := rfl
@[simp] theorem State.setGge_srg (s : State) (v : Gge) : (s.setGge v).srg = s.srg := rfl
@[simp] theorem State.setGge_sbt (s : State) (v : Gge) : (s.setGge v).sbt = s.sbt := rfl
@[simp] theorem State.setGge_blm (s : State) (v : Gge) : (s.setGge v).blm = s.blm := rfl
@[simp] theorem State.setGge_dse (s : State) (v : Gge) : (s.setGge v).dse = s.dse := rfl
@[simp] theorem State.setGge_pkm (s : State) (v : Gge) : (s.setGge v).pkm = s.pkm := rfl
@[simp] theorem State.setGge_gge (s : State) (v : Gge) : (s.setGge v).gge = v := rfl
@[simp] theorem State.setGge_chc (s : State) (v : Gge) : (s.setGge v).chc = s.chc := rfl
@[simp] theorem State.setGge_dlk (s : State) (v : Gge) : (s.setGge v).dlk = s.dlk := rfl
@[simp] theorem State.setGge_icn (s : State) (v : Gge) : (s.setGge v).icn = s.icn := rfl
@[simp] theorem State.setGge_fmg (s : State) (v : Gge) : (s.setGge v).fmg = s.fmg := rfl
@[simp] theorem State.setGge_mpt (s : State) (v : Gge) : (s.setGge v).mpt = s.mpt := rfl
@[simp] theorem State.setGge_slc (s : State) (v : Gge) : (s.setGge v).slc = s.slc := rfl
@[simp] theorem State.setGge_motorPar (s : State) (v : Gge) : (s.setGge v).motorPar = s.motorPar := rfl
@[simp] theorem State.setGge_blockPar (s : State) (v : Gge) : (s.setGge v).blockPar = s.blockPar := rfl
@[simp] theorem State.setGge_packPar (s : State) (v : Gge) : (s.setGge v).packPar = s.packPar := rfl
@[simp] theorem State.setGge_chargePar (s : State) (v : Gge) : (s.setGge v).chargePar = s.chargePar := rfl
@[simp] theorem State.setGge_dirtPar (s : State) (v : Gge) : (s.setGge v).dirtPar = s.dirtPar := rfl
@[simp] theorem State.setGge_idleSleepS (s : State) (v : Gge) : (s.setGge v).idleSleepS = s.idleSleepS := rfl
@[simp] theorem State.setGge_pending (s : State) (v : Gge) : (s.setGge v).pending = s.pending := rfl
@[simp] theorem State.setChc_trg (s : State) (v : Chc) : (s.setChc v).trg = s.trg := rfl
@[simp] theorem State.setChc_drs (s : State) (v : Chc) : (s.setChc v).drs = s.drs := rfl
@[simp] theorem State.setChc_mdr (s : State) (v : Chc) : (s.setChc v).mdr = s.mdr := rfl
@[simp] theorem State.setChc_srg (s : State) (v : Chc) : (s.setChc v).srg = s.srg := rfl
@[simp] theorem State.setChc_sbt (s : State) (v : Chc) : (s.setChc v).sbt = s.sbt := rfl
@[simp] theorem State.setChc_blm (s : State) (v : Chc) : (s.setChc v).blm = s.blm := rfl
@[simp] theorem State.setChc_dse (s : State) (v : Chc) : (s.setChc v).dse = s.dse := rfl
@[simp] theorem State.setChc_pkm (s : State) (v : Chc) : (s.setChc v).pkm = s.pkm := rfl
@[simp] theorem State.setChc_gge (s : State) (v : Chc) : (s.setChc v).gge = s.gge := rfl
@[simp] theorem State.setChc_chc (s : State) (v : Chc) : (s.setChc v).chc = v := rfl
@[simp] theorem State.setChc_dlk (s : State) (v : Chc) : (s.setChc v).dlk = s.dlk := rfl
@[simp] theorem State.setChc_icn (s : State) (v : Chc) : (s.setChc v).icn = s.icn := rfl
@[simp] theorem State.setChc_fmg (s : State) (v : Chc) : (s.setChc v).fmg = s.fmg := rfl
@[simp] theorem State.setChc_mpt (s : State) (v : Chc) : (s.setChc v).mpt = s.mpt := rfl
@[simp] theorem State.setChc_slc (s : State) (v : Chc) : (s.setChc v).slc = s.slc := rfl
@[simp] theorem State.setChc_motorPar (s : State) (v : Chc) : (s.setChc v).motorPar = s.motorPar := rfl
@[simp] theorem State.setChc_blockPar (s : State) (v : Chc) : (s.setChc v).blockPar = s.blockPar := rfl
@[simp] theorem State.setChc_packPar (s : State) (v : Chc) : (s.setChc v).packPar = s.packPar := rfl
@[simp] theorem State.setChc_chargePar (s : State) (v : Chc) : (s.setChc v).chargePar = s.chargePar := rfl
@[simp] theorem State.setChc_dirtPar (s : State) (v : Chc) : (s.setChc v).dirtPar = s.dirtPar := rfl
@[simp] theorem State.setChc_idleSleepS (s : State) (v : Chc) : (s.setChc v).idleSleepS = s.idleSleepS := rfl
@[simp] theorem State.setChc_pending (s : State) (v : Chc) : (s.setChc v).pending = s.pending := rfl
@[simp] theorem State.setDlk_trg (s : State) (v : Dlk) : (s.setDlk v).trg = s.trg := rfl
@[simp] theorem State.setDlk_drs (s : State) (v : Dlk) : (s.setDlk v).drs = s.drs := rfl
@[simp] theorem State.setDlk_mdr (s : State) (v : Dlk) : (s.setDlk v).mdr = s.mdr := rfl
@[simp] theorem State.setDlk_srg (s : State) (v : Dlk) : (s.setDlk v).srg = s.srg := rfl
@[simp] theorem State.setDlk_sbt (s : State) (v : Dlk) : (s.setDlk v).sbt = s.sbt := rfl
@[simp] theorem State.setDlk_blm (s : State) (v : Dlk) : (s.setDlk v).blm = s.blm := rfl
@[simp] theorem State.setDlk_dse (s : State) (v : Dlk) : (s.setDlk v).dse = s.dse := rfl
@[simp] theorem State.setDlk_pkm (s : State) (v : Dlk) : (s.setDlk v).pkm = s.pkm := rfl
@[simp] theorem State.setDlk_gge (s : State) (v : Dlk) : (s.setDlk v).gge = s.gge := rfl
@[simp] theorem State.setDlk_chc (s : State) (v : Dlk) : (s.setDlk v).chc = s.chc := rfl
@[simp] theorem State.setDlk_dlk (s : State) (v : Dlk) : (s.setDlk v).dlk = v := rfl
@[simp] theorem State.setDlk_icn (s : State) (v : Dlk) : (s.setDlk v).icn = s.icn := rfl
@[simp] theorem State.setDlk_fmg (s : State) (v : Dlk) : (s.setDlk v).fmg = s.fmg := rfl
@[simp] theorem State.setDlk_mpt (s : State) (v : Dlk) : (s.setDlk v).mpt = s.mpt := rfl
@[simp] theorem State.setDlk_slc (s : State) (v : Dlk) : (s.setDlk v).slc = s.slc := rfl
@[simp] theorem State.setDlk_motorPar (s : State) (v : Dlk) : (s.setDlk v).motorPar = s.motorPar := rfl
@[simp] theorem State.setDlk_blockPar (s : State) (v : Dlk) : (s.setDlk v).blockPar = s.blockPar := rfl
@[simp] theorem State.setDlk_packPar (s : State) (v : Dlk) : (s.setDlk v).packPar = s.packPar := rfl
@[simp] theorem State.setDlk_chargePar (s : State) (v : Dlk) : (s.setDlk v).chargePar = s.chargePar := rfl
@[simp] theorem State.setDlk_dirtPar (s : State) (v : Dlk) : (s.setDlk v).dirtPar = s.dirtPar := rfl
@[simp] theorem State.setDlk_idleSleepS (s : State) (v : Dlk) : (s.setDlk v).idleSleepS = s.idleSleepS := rfl
@[simp] theorem State.setDlk_pending (s : State) (v : Dlk) : (s.setDlk v).pending = s.pending := rfl
@[simp] theorem State.setIcn_trg (s : State) (v : Icn) : (s.setIcn v).trg = s.trg := rfl
@[simp] theorem State.setIcn_drs (s : State) (v : Icn) : (s.setIcn v).drs = s.drs := rfl
@[simp] theorem State.setIcn_mdr (s : State) (v : Icn) : (s.setIcn v).mdr = s.mdr := rfl
@[simp] theorem State.setIcn_srg (s : State) (v : Icn) : (s.setIcn v).srg = s.srg := rfl
@[simp] theorem State.setIcn_sbt (s : State) (v : Icn) : (s.setIcn v).sbt = s.sbt := rfl
@[simp] theorem State.setIcn_blm (s : State) (v : Icn) : (s.setIcn v).blm = s.blm := rfl
@[simp] theorem State.setIcn_dse (s : State) (v : Icn) : (s.setIcn v).dse = s.dse := rfl
@[simp] theorem State.setIcn_pkm (s : State) (v : Icn) : (s.setIcn v).pkm = s.pkm := rfl
@[simp] theorem State.setIcn_gge (s : State) (v : Icn) : (s.setIcn v).gge = s.gge := rfl
@[simp] theorem State.setIcn_chc (s : State) (v : Icn) : (s.setIcn v).chc = s.chc := rfl
@[simp] theorem State.setIcn_dlk (s : State) (v : Icn) : (s.setIcn v).dlk = s.dlk := rfl
@[simp] theorem State.setIcn_icn (s : State) (v : Icn) : (s.setIcn v).icn = v := rfl
@[simp] theorem State.setIcn_fmg (s : State) (v : Icn) : (s.setIcn v).fmg = s.fmg := rfl
@[simp] theorem State.setIcn_mpt (s : State) (v : Icn) : (s.setIcn v).mpt = s.mpt := rfl
@[simp] theorem State.setIcn_slc (s : State) (v : Icn) : (s.setIcn v).slc = s.slc := rfl
@[simp] theorem State.setIcn_motorPar (s : State) (v : Icn) : (s.setIcn v).motorPar = s.motorPar := rfl
@[simp] theorem State.setIcn_blockPar (s : State) (v : Icn) : (s.setIcn v).blockPar = s.blockPar := rfl
@[simp] theorem State.setIcn_packPar (s : State) (v : Icn) : (s.setIcn v).packPar = s.packPar := rfl
@[simp] theorem State.setIcn_chargePar (s : State) (v : Icn) : (s.setIcn v).chargePar = s.chargePar := rfl
@[simp] theorem State.setIcn_dirtPar (s : State) (v : Icn) : (s.setIcn v).dirtPar = s.dirtPar := rfl
@[simp] theorem State.setIcn_idleSleepS (s : State) (v : Icn) : (s.setIcn v).idleSleepS = s.idleSleepS := rfl
@[simp] theorem State.setIcn_pending (s : State) (v : Icn) : (s.setIcn v).pending = s.pending := rfl
@[simp] theorem State.setFmg_trg (s : State) (v : Fmg) : (s.setFmg v).trg = s.trg := rfl
@[simp] theorem State.setFmg_drs (s : State) (v : Fmg) : (s.setFmg v).drs = s.drs := rfl
@[simp] theorem State.setFmg_mdr (s : State) (v : Fmg) : (s.setFmg v).mdr = s.mdr := rfl
@[simp] theorem State.setFmg_srg (s : State) (v : Fmg) : (s.setFmg v).srg = s.srg := rfl
@[simp] theorem State.setFmg_sbt (s : State) (v : Fmg) : (s.setFmg v).sbt = s.sbt := rfl
@[simp] theorem State.setFmg_blm (s : State) (v : Fmg) : (s.setFmg v).blm = s.blm := rfl
@[simp] theorem State.setFmg_dse (s : State) (v : Fmg) : (s.setFmg v).dse = s.dse := rfl
@[simp] theorem State.setFmg_pkm (s : State) (v : Fmg) : (s.setFmg v).pkm = s.pkm := rfl
@[simp] theorem State.setFmg_gge (s : State) (v : Fmg) : (s.setFmg v).gge = s.gge := rfl
@[simp] theorem State.setFmg_chc (s : State) (v : Fmg) : (s.setFmg v).chc = s.chc := rfl
@[simp] theorem State.setFmg_dlk (s : State) (v : Fmg) : (s.setFmg v).dlk = s.dlk := rfl
@[simp] theorem State.setFmg_icn (s : State) (v : Fmg) : (s.setFmg v).icn = s.icn := rfl
@[simp] theorem State.setFmg_fmg (s : State) (v : Fmg) : (s.setFmg v).fmg = v := rfl
@[simp] theorem State.setFmg_mpt (s : State) (v : Fmg) : (s.setFmg v).mpt = s.mpt := rfl
@[simp] theorem State.setFmg_slc (s : State) (v : Fmg) : (s.setFmg v).slc = s.slc := rfl
@[simp] theorem State.setFmg_motorPar (s : State) (v : Fmg) : (s.setFmg v).motorPar = s.motorPar := rfl
@[simp] theorem State.setFmg_blockPar (s : State) (v : Fmg) : (s.setFmg v).blockPar = s.blockPar := rfl
@[simp] theorem State.setFmg_packPar (s : State) (v : Fmg) : (s.setFmg v).packPar = s.packPar := rfl
@[simp] theorem State.setFmg_chargePar (s : State) (v : Fmg) : (s.setFmg v).chargePar = s.chargePar := rfl
@[simp] theorem State.setFmg_dirtPar (s : State) (v : Fmg) : (s.setFmg v).dirtPar = s.dirtPar := rfl
@[simp] theorem State.setFmg_idleSleepS (s : State) (v : Fmg) : (s.setFmg v).idleSleepS = s.idleSleepS := rfl
@[simp] theorem State.setFmg_pending (s : State) (v : Fmg) : (s.setFmg v).pending = s.pending := rfl
@[simp] theorem State.setMpt_trg (s : State) (v : Mpt) : (s.setMpt v).trg = s.trg := rfl
@[simp] theorem State.setMpt_drs (s : State) (v : Mpt) : (s.setMpt v).drs = s.drs := rfl
@[simp] theorem State.setMpt_mdr (s : State) (v : Mpt) : (s.setMpt v).mdr = s.mdr := rfl
@[simp] theorem State.setMpt_srg (s : State) (v : Mpt) : (s.setMpt v).srg = s.srg := rfl
@[simp] theorem State.setMpt_sbt (s : State) (v : Mpt) : (s.setMpt v).sbt = s.sbt := rfl
@[simp] theorem State.setMpt_blm (s : State) (v : Mpt) : (s.setMpt v).blm = s.blm := rfl
@[simp] theorem State.setMpt_dse (s : State) (v : Mpt) : (s.setMpt v).dse = s.dse := rfl
@[simp] theorem State.setMpt_pkm (s : State) (v : Mpt) : (s.setMpt v).pkm = s.pkm := rfl
@[simp] theorem State.setMpt_gge (s : State) (v : Mpt) : (s.setMpt v).gge = s.gge := rfl
@[simp] theorem State.setMpt_chc (s : State) (v : Mpt) : (s.setMpt v).chc = s.chc := rfl
@[simp] theorem State.setMpt_dlk (s : State) (v : Mpt) : (s.setMpt v).dlk = s.dlk := rfl
@[simp] theorem State.setMpt_icn (s : State) (v : Mpt) : (s.setMpt v).icn = s.icn := rfl
@[simp] theorem State.setMpt_fmg (s : State) (v : Mpt) : (s.setMpt v).fmg = s.fmg := rfl
@[simp] theorem State.setMpt_mpt (s : State) (v : Mpt) : (s.setMpt v).mpt = v := rfl
@[simp] theorem State.setMpt_slc (s : State) (v : Mpt) : (s.setMpt v).slc = s.slc := rfl
@[simp] theorem State.setMpt_motorPar (s : State) (v : Mpt) : (s.setMpt v).motorPar = s.motorPar := rfl
@[simp] theorem State.setMpt_blockPar (s : State) (v : Mpt) : (s.setMpt v).blockPar = s.blockPar := rfl
@[simp] theorem State.setMpt_packPar (s : State) (v : Mpt) : (s.setMpt v).packPar = s.packPar := rfl
@[simp] theorem State.setMpt_chargePar (s : State) (v : Mpt) : (s.setMpt v).chargePar = s.chargePar := rfl
@[simp] theorem State.setMpt_dirtPar (s : State) (v : Mpt) : (s.setMpt v).dirtPar = s.dirtPar := rfl
@[simp] theorem State.setMpt_idleSleepS (s : State) (v : Mpt) : (s.setMpt v).idleSleepS = s.idleSleepS := rfl
@[simp] theorem State.setMpt_pending (s : State) (v : Mpt) : (s.setMpt v).pending = s.pending := rfl
@[simp] theorem State.setSlc_trg (s : State) (v : Slc) : (s.setSlc v).trg = s.trg := rfl
@[simp] theorem State.setSlc_drs (s : State) (v : Slc) : (s.setSlc v).drs = s.drs := rfl
@[simp] theorem State.setSlc_mdr (s : State) (v : Slc) : (s.setSlc v).mdr = s.mdr := rfl
@[simp] theorem State.setSlc_srg (s : State) (v : Slc) : (s.setSlc v).srg = s.srg := rfl
@[simp] theorem State.setSlc_sbt (s : State) (v : Slc) : (s.setSlc v).sbt = s.sbt := rfl
@[simp] theorem State.setSlc_blm (s : State) (v : Slc) : (s.setSlc v).blm = s.blm := rfl
@[simp] theorem State.setSlc_dse (s : State) (v : Slc) : (s.setSlc v).dse = s.dse := rfl
@[simp] theorem State.setSlc_pkm (s : State) (v : Slc) : (s.setSlc v).pkm = s.pkm := rfl
@[simp] theorem State.setSlc_gge (s : State) (v : Slc) : (s.setSlc v).gge = s.gge := rfl
@[simp] theorem State.setSlc_chc (s : State) (v : Slc) : (s.setSlc v).chc = s.chc := rfl
@[simp] theorem State.setSlc_dlk (s : State) (v : Slc) : (s.setSlc v).dlk = s.dlk := rfl
@[simp] theorem State.setSlc_icn (s : State) (v : Slc) : (s.setSlc v).icn = s.icn := rfl
@[simp] theorem State.setSlc_fmg (s : State) (v : Slc) : (s.setSlc v).fmg = s.fmg := rfl
@[simp] theorem State.setSlc_mpt (s : State) (v : Slc) : (s.setSlc v).mpt = s.mpt := rfl
@[simp] theorem State.setSlc_slc (s : State) (v : Slc) : (s.setSlc v).slc = v := rfl
@[simp] theorem State.setSlc_motorPar (s : State) (v : Slc) : (s.setSlc v).motorPar = s.motorPar := rfl
@[simp] theorem State.setSlc_blockPar (s : State) (v : Slc) : (s.setSlc v).blockPar = s.blockPar := rfl
@[simp] theorem State.setSlc_packPar (s : State) (v : Slc) : (s.setSlc v).packPar = s.packPar := rfl
@[simp] theorem State.setSlc_chargePar (s : State) (v : Slc) : (s.setSlc v).chargePar = s.chargePar := rfl
@[simp] theorem State.setSlc_dirtPar (s : State) (v : Slc) : (s.setSlc v).dirtPar = s.dirtPar := rfl
@[simp] theorem State.setSlc_idleSleepS (s : State) (v : Slc) : (s.setSlc v).idleSleepS = s.idleSleepS := rfl
@[simp] theorem State.setSlc_pending (s : State) (v : Slc) : (s.setSlc v).pending = s.pending := rfl
@[simp] theorem State.setMotorPar_trg (s : State) (v : MotorPar) : (s.setMotorPar v).trg = s.trg := rfl
@[simp] theorem State.setMotorPar_drs (s : State) (v : MotorPar) : (s.setMotorPar v).drs = s.drs := rfl
@[simp] theorem State.setMotorPar_mdr (s : State) (v : MotorPar) : (s.setMotorPar v).mdr = s.mdr := rfl
@[simp] theorem State.setMotorPar_srg (s : State) (v : MotorPar) : (s.setMotorPar v).srg = s.srg := rfl
@[simp] theorem State.setMotorPar_sbt (s : State) (v : MotorPar) : (s.setMotorPar v).sbt = s.sbt := rfl
@[simp] theorem State.setMotorPar_blm (s : State) (v : MotorPar) : (s.setMotorPar v).blm = s.blm := rfl
@[simp] theorem State.setMotorPar_dse (s : State) (v : MotorPar) : (s.setMotorPar v).dse = s.dse := rfl
@[simp] theorem State.setMotorPar_pkm (s : State) (v : MotorPar) : (s.setMotorPar v).pkm = s.pkm := rfl
@[simp] theorem State.setMotorPar_gge (s : State) (v : MotorPar) : (s.setMotorPar v).gge = s.gge := rfl
@[simp] theorem State.setMotorPar_chc (s : State) (v : MotorPar) : (s.setMotorPar v).chc = s.chc := rfl
@[simp] theorem State.setMotorPar_dlk (s : State) (v : MotorPar) : (s.setMotorPar v).dlk = s.dlk := rfl
@[simp] theorem State.setMotorPar_icn (s : State) (v : MotorPar) : (s.setMotorPar v).icn = s.icn := rfl
@[simp] theorem State.setMotorPar_fmg (s : State) (v : MotorPar) : (s.setMotorPar v).fmg = s.fmg := rfl
@[simp] theorem State.setMotorPar_mpt (s : State) (v : MotorPar) : (s.setMotorPar v).mpt = s.mpt := rfl
@[simp] theorem State.setMotorPar_slc (s : State) (v : MotorPar) : (s.setMotorPar v).slc = s.slc := rfl
@[simp] theorem State.setMotorPar_motorPar (s : State) (v : MotorPar) : (s.setMotorPar v).motorPar = v := rfl
@[simp] theorem State.setMotorPar_blockPar (s : State) (v : MotorPar) : (s.setMotorPar v).blockPar = s.blockPar := rfl
@[simp] theorem State.setMotorPar_packPar (s : State) (v : MotorPar) : (s.setMotorPar v).packPar = s.packPar := rfl
@[simp] theorem State.setMotorPar_chargePar (s : State) (v : MotorPar) : (s.setMotorPar v).chargePar = s.chargePar := rfl
@[simp] theorem State.setMotorPar_dirtPar (s : State) (v : MotorPar) : (s.setMotorPar v).dirtPar = s.dirtPar := rfl
@[simp] theorem State.setMotorPar_idleSleepS (s : State) (v : MotorPar) : (s.setMotorPar v).idleSleepS = s.idleSleepS := rfl
@[simp] theorem State.setMotorPar_pending (s : State) (v : MotorPar) : (s.setMotorPar v).pending = s.pending := rfl
@[simp] theorem State.setBlockPar_trg (s : State) (v : BlockPar) : (s.setBlockPar v).trg = s.trg := rfl
@[simp] theorem State.setBlockPar_drs (s : State) (v : BlockPar) : (s.setBlockPar v).drs = s.drs := rfl
@[simp] theorem State.setBlockPar_mdr (s : State) (v : BlockPar) : (s.setBlockPar v).mdr = s.mdr := rfl
@[simp] theorem State.setBlockPar_srg (s : State) (v : BlockPar) : (s.setBlockPar v).srg = s.srg := rfl
@[simp] theorem State.setBlockPar_sbt (s : State) (v : BlockPar) : (s.setBlockPar v).sbt = s.sbt := rfl
@[simp] theorem State.setBlockPar_blm (s : State) (v : BlockPar) : (s.setBlockPar v).blm = s.blm := rfl
@[simp] theorem State.setBlockPar_dse (s : State) (v : BlockPar) : (s.setBlockPar v).dse = s.dse := rfl
@[simp] theorem State.setBlockPar_pkm (s : State) (v : BlockPar) : (s.setBlockPar v).pkm = s.pkm := rfl
@[simp] theorem State.setBlockPar_gge (s : State) (v : BlockPar) : (s.setBlockPar v).gge = s.gge := rfl
@[simp] theorem State.setBlockPar_chc (s : State) (v : BlockPar) : (s.setBlockPar v).chc = s.chc := rfl
@[simp] theorem State.setBlockPar_dlk (s : State) (v : BlockPar) : (s.setBlockPar v).dlk = s.dlk := rfl
@[simp] theorem State.setBlockPar_icn (s : State) (v : BlockPar) : (s.setBlockPar v).icn = s.icn := rfl
@[simp] theorem State.setBlockPar_fmg (s : State) (v : BlockPar) : (s.setBlockPar v).fmg = s.fmg := rfl
@[simp] theorem State.setBlockPar_mpt (s : State) (v : BlockPar) : (s.setBlockPar v).mpt = s.mpt := rfl
@[simp] theorem State.setBlockPar_slc (s : State) (v : BlockPar) : (s.setBlockPar v).slc = s.slc := rfl
@[simp] theorem State.setBlockPar_motorPar (s : State) (v : BlockPar) : (s.setBlockPar v).motorPar = s.motorPar := rfl
@[simp] theorem State.setBlockPar_blockPar (s : State) (v : BlockPar) : (s.setBlockPar v).blockPar = v := rfl
@[simp] theorem State.setBlockPar_packPar (s : State) (v : BlockPar) : (s.setBlockPar v).packPar = s.packPar := rfl
@[simp] theorem State.setBlockPar_chargePar (s : State) (v : BlockPar) : (s.setBlockPar v).chargePar = s.chargePar := rfl
@[simp] theorem State.setBlockPar_dirtPar (s : State) (v : BlockPar) : (s.setBlockPar v).dirtPar = s.dirtPar := rfl
@[simp] theorem State.setBlockPar_idleSleepS (s : State) (v : BlockPar) : (s.setBlockPar v).idleSleepS = s.idleSleepS := rfl
@[simp] theorem State.setBlockPar_pending (s : State) (v : BlockPar) : (s.setBlockPar v).pending = s.pending := rfl
@[simp] theorem State.setPackPar_trg (s : State) (v : PackPar) : (s.setPackPar v).trg = s.trg := rfl
@[simp] theorem State.setPackPar_drs (s : State) (v : PackPar) : (s.setPackPar v).drs = s.drs := rfl
@[simp] theorem State.setPackPar_mdr (s : State) (v : PackPar) : (s.setPackPar v).mdr = s.mdr := rfl
@[simp] theorem State.setPackPar_srg (s : State) (v : PackPar) : (s.setPackPar v).srg = s.srg := rfl
@[simp] theorem State.setPackPar_sbt (s : State) (v : PackPar) : (s.setPackPar v).sbt = s.sbt := rfl
@[simp] theorem State.setPackPar_blm (s : State) (v : PackPar) : (s.setPackPar v).blm = s.blm := rfl
@[simp] theorem State.setPackPar_dse (s : State) (v : PackPar) : (s.setPackPar v).dse = s.dse := rfl
@[simp] theorem State.setPackPar_pkm (s : State) (v : PackPar) : (s.setPackPar v).pkm = s.pkm := rfl
@[simp] theorem State.setPackPar_gge (s : State) (v : PackPar) : (s.setPackPar v).gge = s.gge := rfl
@[simp] theorem State.setPackPar_chc (s : State) (v : PackPar) : (s.setPackPar v).chc = s.chc := rfl
@[simp] theorem State.setPackPar_dlk (s : State) (v : PackPar) : (s.setPackPar v).dlk = s.dlk := rfl
@[simp] theorem State.setPackPar_icn (s : State) (v : PackPar) : (s.setPackPar v).icn = s.icn := rfl
@[simp] theorem State.setPackPar_fmg (s : State) (v : PackPar) : (s.setPackPar v).fmg = s.fmg := rfl
@[simp] theorem State.setPackPar_mpt (s : State) (v : PackPar) : (s.setPackPar v).mpt = s.mpt := rfl
@[simp] theorem State.setPackPar_slc (s : State) (v : PackPar) : (s.setPackPar v).slc = s.slc := rfl
@[simp] theorem State.setPackPar_motorPar (s : State) (v : PackPar) : (s.setPackPar v).motorPar = s.motorPar := rfl
@[simp] theorem State.setPackPar_blockPar (s : State) (v : PackPar) : (s.setPackPar v).blockPar = s.blockPar := rfl
@[simp] theorem State.setPackPar_packPar (s : State) (v : PackPar) : (s.setPackPar v).packPar = v := rfl
@[simp] theorem State.setPackPar_chargePar (s : State) (v : PackPar) : (s.setPackPar v).chargePar = s.chargePar := rfl
@[simp] theorem State.setPackPar_dirtPar (s : State) (v : PackPar) : (s.setPackPar v).dirtPar = s.dirtPar := rfl
@[simp] theorem State.setPackPar_idleSleepS (s : State) (v : PackPar) : (s.setPackPar v).idleSleepS = s.idleSleepS := rfl
@[simp] theorem State.setPackPar_pending (s : State) (v : PackPar) : (s.setPackPar v).pending = s.pending := rfl
@[simp] theorem State.setChargePar_trg (s : State) (v : ChargePar) : (s.setChargePar v).trg = s.trg := rfl
@[simp] theorem State.setChargePar_drs (s : State) (v : ChargePar) : (s.setChargePar v).drs = s.drs := rfl
@[simp] theorem State.setChargePar_mdr (s : State) (v : ChargePar) : (s.setChargePar v).mdr = s.mdr := rfl
@[simp] theorem State.setChargePar_srg (s : State) (v : ChargePar) : (s.setChargePar v).srg = s.srg := rfl
@[simp] theorem State.setChargePar_sbt (s : State) (v : ChargePar) : (s.setChargePar v).sbt = s.sbt := rfl
@[simp] theorem State.setChargePar_blm (s : State) (v : ChargePar) : (s.setChargePar v).blm = s.blm := rfl
@[simp] theorem State.setChargePar_dse (s : State) (v : ChargePar) : (s.setChargePar v).dse = s.dse := rfl
@[simp] theorem State.setChargePar_pkm (s : State) (v : ChargePar) : (s.setChargePar v).pkm = s.pkm := rfl
@[simp] theorem State.setChargePar_gge (s : State) (v : ChargePar) : (s.setChargePar v).gge = s.gge := rfl
@[simp] theorem State.setChargePar_chc (s : State) (v : ChargePar) : (s.setChargePar v).chc = s.chc := rfl
@[simp] theorem State.setChargePar_dlk (s : State) (v : ChargePar) : (s.setChargePar v).dlk = s.dlk := rfl
@[simp] theorem State.setChargePar_icn (s : State) (v : ChargePar) : (s.setChargePar v).icn = s.icn := rfl
@[simp] theorem State.setChargePar_fmg (s : State) (v : ChargePar) : (s.setChargePar v).fmg = s.fmg := rfl
@[simp] theorem State.setChargePar_mpt (s : State) (v : ChargePar) : (s.setChargePar v).mpt = s.mpt := rfl
@[simp] theorem State.setChargePar_slc (s : State) (v : ChargePar) : (s.setChargePar v).slc = s.slc := rfl
@[simp] theorem State.setChargePar_motorPar (s : State) (v : ChargePar) : (s.setChargePar v).motorPar = s.motorPar := rfl
@[simp] theorem State.setChargePar_blockPar (s : State) (v : ChargePar) : (s.setChargePar v).blockPar = s.blockPar := rfl
@[simp] theorem State.setChargePar_packPar (s : State) (v : ChargePar) : (s.setChargePar v).packPar = s.packPar := rfl
@[simp] theorem State.setChargePar_chargePar (s : State) (v : ChargePar) : (s.setChargePar v).chargePar = v := rfl
@[simp] theorem State.setChargePar_dirtPar (s : State) (v : ChargePar) : (s.setChargePar v).dirtPar = s.dirtPar := rfl
@[simp] theorem State.setChargePar_idleSleepS (s : State) (v : ChargePar) : (s.setChargePar v).idleSleepS = s.idleSleepS := rfl
@[simp] theorem State.setChargePar_pending (s : State) (v : ChargePar) : (s.setChargePar v).pending = s.pending := rfl
@[simp] theorem State.setDirtPar_trg (s : State) (v : DirtPar) : (s.setDirtPar v).trg = s.trg := rfl
@[simp] theorem State.setDirtPar_drs (s : State) (v : DirtPar) : (s.setDirtPar v).drs = s.drs := rfl
@[simp] theorem State.setDirtPar_mdr (s : State) (v : DirtPar) : (s.setDirtPar v).mdr = s.mdr := rfl
@[simp] theorem State.setDirtPar_srg (s : State) (v : DirtPar) : (s.setDirtPar v).srg = s.srg := rfl
@[simp] theorem State.setDirtPar_sbt (s : State) (v : DirtPar) : (s.setDirtPar v).sbt = s.sbt := rfl
@[simp] theorem State.setDirtPar_blm (s : State) (v : DirtPar) : (s.setDirtPar v).blm = s.blm := rfl
@[simp] theorem State.setDirtPar_dse (s : State) (v : DirtPar) : (s.setDirtPar v).dse = s.dse := rfl
@[simp] theorem State.setDirtPar_pkm (s : State) (v : DirtPar) : (s.setDirtPar v).pkm = s.pkm := rfl
@[simp] theorem State.setDirtPar_gge (s : State) (v : DirtPar) : (s.setDirtPar v).gge = s.gge := rfl
@[simp] theorem State.setDirtPar_chc (s : State) (v : DirtPar) : (s.setDirtPar v).chc = s.chc := rfl
@[simp] theorem State.setDirtPar_dlk (s : State) (v : DirtPar) : (s.setDirtPar v).dlk = s.dlk := rfl
@[simp] theorem State.setDirtPar_icn (s : State) (v : DirtPar) : (s.setDirtPar v).icn = s.icn := rfl
@[simp] theorem State.setDirtPar_fmg (s : State) (v : DirtPar) : (s.setDirtPar v).fmg = s.fmg := rfl
@[simp] theorem State.setDirtPar_mpt (s : State) (v : DirtPar) : (s.setDirtPar v).mpt = s.mpt := rfl
@[simp] theorem State.setDirtPar_slc (s : State) (v : DirtPar) : (s.setDirtPar v).slc = s.slc := rfl
@[simp] theorem State.setDirtPar_motorPar (s : State) (v : DirtPar) : (s.setDirtPar v).motorPar = s.motorPar := rfl
@[simp] theorem State.setDirtPar_blockPar (s : State) (v : DirtPar) : (s.setDirtPar v).blockPar = s.blockPar := rfl
@[simp] theorem State.setDirtPar_packPar (s : State) (v : DirtPar) : (s.setDirtPar v).packPar = s.packPar := rfl
@[simp] theorem State.setDirtPar_chargePar (s : State) (v : DirtPar) : (s.setDirtPar v).chargePar = s.chargePar := rfl
@[simp] theorem State.setDirtPar_dirtPar (s : State) (v : DirtPar) : (s.setDirtPar v).dirtPar = v := rfl
@[simp] theorem State.setDirtPar_idleSleepS (s : State) (v : DirtPar) : (s.setDirtPar v).idleSleepS = s.idleSleepS := rfl
@[simp] theorem State.setDirtPar_pending (s : State) (v : DirtPar) : (s.setDirtPar v).pending = s.pending := rfl
@[simp] theorem State.setIdleSleepS_trg (s : State) (v : Nat) : (s.setIdleSleepS v).trg = s.trg := rfl
@[simp] theorem State.setIdleSleepS_drs (s : State) (v : Nat) : (s.setIdleSleepS v).drs = s.drs := rfl
@[simp] theorem State.setIdleSleepS_mdr (s : State) (v : Nat) : (s.setIdleSleepS v).mdr = s.mdr := rfl
@[simp] theorem State.setIdleSleepS_srg (s : State) (v : Nat) : (s.setIdleSleepS v).srg = s.srg := rfl
@[simp] theorem State.setIdleSleepS_sbt (s : State) (v : Nat) : (s.setIdleSleepS v).sbt = s.sbt := rfl
@[simp] theorem State.setIdleSleepS_blm (s : State) (v : Nat) : (s.setIdleSleepS v).blm = s.blm := rfl
@[simp] theorem State.setIdleSleepS_dse (s : State) (v : Nat) : (s.setIdleSleepS v).dse = s.dse := rfl
@[simp] theorem State.setIdleSleepS_pkm (s : State) (v : Nat) : (s.setIdleSleepS v).pkm = s.pkm := rfl
@[simp] theorem State.setIdleSleepS_gge (s : State) (v : Nat) : (s.setIdleSleepS v).gge = s.gge := rfl
@[simp] theorem State.setIdleSleepS_chc (s : State) (v : Nat) : (s.setIdleSleepS v).chc = s.chc := rfl
@[simp] theorem State.setIdleSleepS_dlk (s : State) (v : Nat) : (s.setIdleSleepS v).dlk = s.dlk := rfl
@[simp] theorem State.setIdleSleepS_icn (s : State) (v : Nat) : (s.setIdleSleepS v).icn = s.icn := rfl
@[simp] theorem State.setIdleSleepS_fmg (s : State) (v : Nat) : (s.setIdleSleepS v).fmg = s.fmg := rfl
@[simp] theorem State.setIdleSleepS_mpt (s : State) (v : Nat) : (s.setIdleSleepS v).mpt = s.mpt := rfl
@[simp] theorem State.setIdleSleepS_slc (s : State) (v : Nat) : (s.setIdleSleepS v).slc = s.slc := rfl
@[simp] theorem State.setIdleSleepS_motorPar (s : State) (v : Nat) : (s.setIdleSleepS v).motorPar = s.motorPar := rfl
@[simp] theorem State.setIdleSleepS_blockPar (s : State) (v : Nat) : (s.setIdleSleepS v).blockPar = s.blockPar := rfl
@[simp] theorem State.setIdleSleepS_packPar (s : State) (v : Nat) : (s.setIdleSleepS v).packPar = s.packPar := rfl
@[simp] theorem State.setIdleSleepS_chargePar (s : State) (v : Nat) : (s.setIdleSleepS v).chargePar = s.chargePar := rfl
@[simp] theorem State.setIdleSleepS_dirtPar (s : State) (v : Nat) : (s.setIdleSleepS v).dirtPar = s.dirtPar := rfl
@[simp] theorem State.setIdleSleepS_idleSleepS (s : State) (v : Nat) : (s.setIdleSleepS v).idleSleepS = v := rfl
@[simp] theorem State.setIdleSleepS_pending (s : State) (v : Nat) : (s.setIdleSleepS v).pending = s.pending := rfl
@[simp] theorem State.setPending_trg (s : State) (v : List Instr) : (s.setPending v).trg = s.trg := rfl
@[simp] theorem State.setPending_drs (s : State) (v : List Instr) : (s.setPending v).drs = s.drs := rfl
@[simp] theorem State.setPending_mdr (s : State) (v : List Instr) : (s.setPending v).mdr = s.mdr := rfl
@[simp] theorem State.setPending_srg (s : State) (v : List Instr) : (s.setPending v).srg = s.srg := rfl
@[simp] theorem State.setPending_sbt (s : State) (v : List Instr) : (s.setPending v).sbt = s.sbt := rfl
@[simp] theorem State.setPending_blm (s : State) (v : List Instr) : (s.setPending v).blm = s.blm := rfl
@[simp] theorem State.setPending_dse (s : State) (v : List Instr) : (s.setPending v).dse = s.dse := rfl
@[simp] theorem State.setPending_pkm (s : State) (v : List Instr) : (s.setPending v).pkm = s.pkm := rfl
@[simp] theorem State.setPending_gge (s : State) (v : List Instr) : (s.setPending v).gge = s.gge := rfl
@[simp] theorem State.setPending_chc (s : State) (v : List Instr) : (s.setPending v).chc = s.chc := rfl
@[simp] theorem State.setPending_dlk (s : State) (v : List Instr) : (s.setPending v).dlk = s.dlk := rfl
@[simp] theorem State.setPending_icn (s : State) (v : List Instr) : (s.setPending v).icn = s.icn := rfl
@[simp] theorem State.setPending_fmg (s : State) (v : List Instr) : (s.setPending v).fmg = s.fmg := rfl
@[simp] theorem State.setPending_mpt (s : State) (v : List Instr) : (s.setPending v).mpt = s.mpt := rfl
@[simp] theorem State.setPending_slc (s : State) (v : List Instr) : (s.setPending v).slc = s.slc := rfl
@[simp] theorem State.setPending_motorPar (s : State) (v : List Instr) : (s.setPending v).motorPar = s.motorPar := rfl
@[simp] theorem State.setPending_blockPar (s : State) (v : List Instr) : (s.setPending v).blockPar = s.blockPar := rfl
@[simp] theorem State.setPending_packPar (s : State) (v : List Instr) : (s.setPending v).packPar = s.packPar := rfl
@[simp] theorem State.setPending_chargePar (s : State) (v : List Instr) : (s.setPending v).chargePar = s.chargePar := rfl
@[simp] theorem State.setPending_dirtPar (s : State) (v : List Instr) : (s.setPending v).dirtPar = s.dirtPar := rfl
@[simp] theorem State.setPending_idleSleepS (s : State) (v : List Instr) : (s.setPending v).idleSleepS = s.idleSleepS := rfl
@[simp] theorem State.setPending_pending (s : State) (v : List Instr) : (s.setPending v).pending = v := rfl

end Sys2Proof.Machine
end

