-- ==== Sys2Proof/Laws/Frames.lean ====
section
/-! SUPPORT. What each shared operation leaves alone: for every operation one lemma naming all fields of the state that it
never changes, whatever it does. Proofs cite these and do not unfold the operation. -/

namespace Sys2Proof.Machine

/-! ### The Message Port -/

@[simp] theorem clearPendingReach_frame (s : State) : (clearPendingReach s).trg = s.trg ∧
    (clearPendingReach s).drs = s.drs ∧ (clearPendingReach s).mdr = s.mdr ∧ (clearPendingReach s).srg = s.srg ∧
    (clearPendingReach s).sbt = s.sbt ∧ (clearPendingReach s).blm = s.blm ∧ (clearPendingReach s).dse = s.dse ∧
    (clearPendingReach s).pkm = s.pkm ∧ (clearPendingReach s).gge = s.gge ∧ (clearPendingReach s).chc = s.chc ∧
    (clearPendingReach s).dlk = s.dlk ∧ (clearPendingReach s).fmg = s.fmg ∧ (clearPendingReach s).mpt = s.mpt ∧
    (clearPendingReach s).slc = s.slc ∧ (clearPendingReach s).motorPar = s.motorPar ∧
    (clearPendingReach s).blockPar = s.blockPar ∧ (clearPendingReach s).packPar = s.packPar ∧
    (clearPendingReach s).chargePar = s.chargePar ∧ (clearPendingReach s).dirtPar = s.dirtPar ∧
    (clearPendingReach s).idleSleepS = s.idleSleepS ∧ (clearPendingReach s).pending = s.pending := by simp [clearPendingReach]
@[simp] theorem raise_frame (n : Notice) (s : State) : (raise n s).trg = s.trg ∧ (raise n s).drs = s.drs ∧
    (raise n s).mdr = s.mdr ∧ (raise n s).srg = s.srg ∧ (raise n s).sbt = s.sbt ∧ (raise n s).blm = s.blm ∧
    (raise n s).dse = s.dse ∧ (raise n s).pkm = s.pkm ∧ (raise n s).gge = s.gge ∧ (raise n s).chc = s.chc ∧
    (raise n s).dlk = s.dlk ∧ (raise n s).fmg = s.fmg ∧ (raise n s).slc = s.slc ∧ (raise n s).motorPar = s.motorPar ∧
    (raise n s).blockPar = s.blockPar ∧ (raise n s).packPar = s.packPar ∧ (raise n s).chargePar = s.chargePar ∧
    (raise n s).dirtPar = s.dirtPar ∧ (raise n s).idleSleepS = s.idleSleepS ∧ (raise n s).pending = s.pending := by
  unfold raise
  repeat' split
  all_goals simp
@[simp] theorem beginTransmission_frame (s : State) : (beginTransmission s).trg = s.trg ∧
    (beginTransmission s).drs = s.drs ∧ (beginTransmission s).mdr = s.mdr ∧ (beginTransmission s).srg = s.srg ∧
    (beginTransmission s).sbt = s.sbt ∧ (beginTransmission s).blm = s.blm ∧ (beginTransmission s).dse = s.dse ∧
    (beginTransmission s).pkm = s.pkm ∧ (beginTransmission s).gge = s.gge ∧ (beginTransmission s).chc = s.chc ∧
    (beginTransmission s).dlk = s.dlk ∧ (beginTransmission s).fmg = s.fmg ∧ (beginTransmission s).slc = s.slc ∧
    (beginTransmission s).motorPar = s.motorPar ∧ (beginTransmission s).blockPar = s.blockPar ∧
    (beginTransmission s).packPar = s.packPar ∧ (beginTransmission s).chargePar = s.chargePar ∧
    (beginTransmission s).dirtPar = s.dirtPar ∧ (beginTransmission s).idleSleepS = s.idleSleepS ∧
    (beginTransmission s).pending = s.pending := by
  unfold beginTransmission
  repeat' split
  all_goals simp
@[simp] theorem queueReply_frame (r : Reply) (s : State) : (queueReply r s).trg = s.trg ∧
    (queueReply r s).drs = s.drs ∧ (queueReply r s).mdr = s.mdr ∧ (queueReply r s).srg = s.srg ∧
    (queueReply r s).sbt = s.sbt ∧ (queueReply r s).blm = s.blm ∧ (queueReply r s).dse = s.dse ∧
    (queueReply r s).pkm = s.pkm ∧ (queueReply r s).gge = s.gge ∧ (queueReply r s).chc = s.chc ∧
    (queueReply r s).dlk = s.dlk ∧ (queueReply r s).icn = s.icn ∧ (queueReply r s).fmg = s.fmg ∧
    (queueReply r s).slc = s.slc ∧ (queueReply r s).motorPar = s.motorPar ∧ (queueReply r s).blockPar = s.blockPar ∧
    (queueReply r s).packPar = s.packPar ∧ (queueReply r s).chargePar = s.chargePar ∧
    (queueReply r s).dirtPar = s.dirtPar ∧ (queueReply r s).idleSleepS = s.idleSleepS ∧
    (queueReply r s).pending = s.pending := by simp [queueReply]

/-! ### The Intake Counters -/

@[simp] theorem putCounter_frame (i : Nat) (c : Counter) (s : State) : (putCounter i c s).trg = s.trg ∧
    (putCounter i c s).drs = s.drs ∧ (putCounter i c s).mdr = s.mdr ∧ (putCounter i c s).srg = s.srg ∧
    (putCounter i c s).sbt = s.sbt ∧ (putCounter i c s).blm = s.blm ∧ (putCounter i c s).dse = s.dse ∧
    (putCounter i c s).pkm = s.pkm ∧ (putCounter i c s).gge = s.gge ∧ (putCounter i c s).chc = s.chc ∧
    (putCounter i c s).dlk = s.dlk ∧ (putCounter i c s).fmg = s.fmg ∧ (putCounter i c s).mpt = s.mpt ∧
    (putCounter i c s).slc = s.slc ∧ (putCounter i c s).motorPar = s.motorPar ∧
    (putCounter i c s).blockPar = s.blockPar ∧ (putCounter i c s).packPar = s.packPar ∧
    (putCounter i c s).chargePar = s.chargePar ∧ (putCounter i c s).dirtPar = s.dirtPar ∧
    (putCounter i c s).idleSleepS = s.idleSleepS ∧ (putCounter i c s).pending = s.pending := by simp [putCounter]
@[simp] theorem notifyReach_frame (i : Nat) (s : State) : (notifyReach i s).trg = s.trg ∧
    (notifyReach i s).drs = s.drs ∧ (notifyReach i s).mdr = s.mdr ∧ (notifyReach i s).srg = s.srg ∧
    (notifyReach i s).sbt = s.sbt ∧ (notifyReach i s).blm = s.blm ∧ (notifyReach i s).dse = s.dse ∧
    (notifyReach i s).pkm = s.pkm ∧ (notifyReach i s).gge = s.gge ∧ (notifyReach i s).chc = s.chc ∧
    (notifyReach i s).dlk = s.dlk ∧ (notifyReach i s).fmg = s.fmg ∧ (notifyReach i s).slc = s.slc ∧
    (notifyReach i s).motorPar = s.motorPar ∧ (notifyReach i s).blockPar = s.blockPar ∧
    (notifyReach i s).packPar = s.packPar ∧ (notifyReach i s).chargePar = s.chargePar ∧
    (notifyReach i s).dirtPar = s.dirtPar ∧ (notifyReach i s).idleSleepS = s.idleSleepS ∧
    (notifyReach i s).pending = s.pending := by unfold notifyReach; split <;> simp
/-- Nothing but the counters and the Message Port differs. -/
def CountingOnly (s t : State) : Prop := t.trg = s.trg ∧ t.drs = s.drs ∧ t.mdr = s.mdr ∧ t.srg = s.srg ∧
    t.sbt = s.sbt ∧ t.blm = s.blm ∧ t.dse = s.dse ∧ t.pkm = s.pkm ∧ t.gge = s.gge ∧ t.chc = s.chc ∧ t.dlk = s.dlk ∧
    t.fmg = s.fmg ∧ t.slc = s.slc ∧ t.motorPar = s.motorPar ∧ t.blockPar = s.blockPar ∧ t.packPar = s.packPar ∧
    t.chargePar = s.chargePar ∧ t.dirtPar = s.dirtPar ∧ t.idleSleepS = s.idleSleepS ∧ t.pending = s.pending

theorem CountingOnly.trans {s t u : State} (h : CountingOnly s t) (k : CountingOnly t u) : CountingOnly s u := by
  simp only [CountingOnly] at h k ⊢
  simp only [k, h, and_self]

theorem startWaiting_countingOnly (judge : Nat → State → State) (i j : Nat) (s : State)
    (h : ∀ j t, CountingOnly t (judge j t)) : CountingOnly s (startWaiting judge i j s) := by
  have put (c : Counter) : CountingOnly s (putCounter j c s) := by simp [CountingOnly]
  unfold startWaiting
  dsimp only
  split
  · split
    · exact (put _).trans (h _ _)
    · exact put _
  · simp [CountingOnly]

theorem reach_countingOnly (fuel i : Nat) (s : State) : CountingOnly s (reach fuel i s) := by
  induction fuel generalizing i s with
  | zero => simp [reach, CountingOnly]
  | succ n ih =>
    have first : CountingOnly s (notifyReach i (putCounter i (reachedCounter (s.icn.counters.get i)) s)) := by
      simp [CountingOnly]
    have start (j : Nat) (t : State) : CountingOnly t (startWaiting (reach n) i j t) :=
      startWaiting_countingOnly _ _ _ _ fun j t => ih j t
    exact (((first.trans (start 0 _)).trans (start 1 _)).trans (start 2 _)).trans (start 3 _)

@[simp] theorem reach_frame (fuel i : Nat) (s : State) : (reach fuel i s).trg = s.trg ∧ (reach fuel i s).drs = s.drs ∧
    (reach fuel i s).mdr = s.mdr ∧ (reach fuel i s).srg = s.srg ∧ (reach fuel i s).sbt = s.sbt ∧
    (reach fuel i s).blm = s.blm ∧ (reach fuel i s).dse = s.dse ∧ (reach fuel i s).pkm = s.pkm ∧
    (reach fuel i s).gge = s.gge ∧ (reach fuel i s).chc = s.chc ∧ (reach fuel i s).dlk = s.dlk ∧
    (reach fuel i s).fmg = s.fmg ∧ (reach fuel i s).slc = s.slc ∧ (reach fuel i s).motorPar = s.motorPar ∧
    (reach fuel i s).blockPar = s.blockPar ∧ (reach fuel i s).packPar = s.packPar ∧
    (reach fuel i s).chargePar = s.chargePar ∧ (reach fuel i s).dirtPar = s.dirtPar ∧
    (reach fuel i s).idleSleepS = s.idleSleepS ∧ (reach fuel i s).pending = s.pending := reach_countingOnly fuel i s
@[simp] theorem judgeReach_frame (i : Nat) (s : State) : (judgeReach i s).trg = s.trg ∧ (judgeReach i s).drs = s.drs ∧
    (judgeReach i s).mdr = s.mdr ∧ (judgeReach i s).srg = s.srg ∧ (judgeReach i s).sbt = s.sbt ∧
    (judgeReach i s).blm = s.blm ∧ (judgeReach i s).dse = s.dse ∧ (judgeReach i s).pkm = s.pkm ∧
    (judgeReach i s).gge = s.gge ∧ (judgeReach i s).chc = s.chc ∧ (judgeReach i s).dlk = s.dlk ∧
    (judgeReach i s).fmg = s.fmg ∧ (judgeReach i s).slc = s.slc ∧ (judgeReach i s).motorPar = s.motorPar ∧
    (judgeReach i s).blockPar = s.blockPar ∧ (judgeReach i s).packPar = s.packPar ∧
    (judgeReach i s).chargePar = s.chargePar ∧ (judgeReach i s).dirtPar = s.dirtPar ∧
    (judgeReach i s).idleSleepS = s.idleSleepS ∧ (judgeReach i s).pending = s.pending := by unfold judgeReach; split <;> simp
@[simp] theorem countEvents_frame (l : List (CounterSource × CountAmount)) (s : State) :
    (countEvents l s).trg = s.trg ∧ (countEvents l s).drs = s.drs ∧ (countEvents l s).mdr = s.mdr ∧
    (countEvents l s).srg = s.srg ∧ (countEvents l s).sbt = s.sbt ∧ (countEvents l s).blm = s.blm ∧
    (countEvents l s).dse = s.dse ∧ (countEvents l s).pkm = s.pkm ∧ (countEvents l s).gge = s.gge ∧
    (countEvents l s).chc = s.chc ∧ (countEvents l s).dlk = s.dlk ∧ (countEvents l s).fmg = s.fmg ∧
    (countEvents l s).slc = s.slc ∧ (countEvents l s).motorPar = s.motorPar ∧
    (countEvents l s).blockPar = s.blockPar ∧ (countEvents l s).packPar = s.packPar ∧
    (countEvents l s).chargePar = s.chargePar ∧ (countEvents l s).dirtPar = s.dirtPar ∧
    (countEvents l s).idleSleepS = s.idleSleepS ∧ (countEvents l s).pending = s.pending := by
  unfold countEvents
  dsimp only
  repeat' split
  all_goals simp
@[simp] theorem countEvent_frame (source : CounterSource) (a : CountAmount) (s : State) :
    (countEvent source a s).trg = s.trg ∧ (countEvent source a s).drs = s.drs ∧ (countEvent source a s).mdr = s.mdr ∧
    (countEvent source a s).srg = s.srg ∧ (countEvent source a s).sbt = s.sbt ∧ (countEvent source a s).blm = s.blm ∧
    (countEvent source a s).dse = s.dse ∧ (countEvent source a s).pkm = s.pkm ∧ (countEvent source a s).gge = s.gge ∧
    (countEvent source a s).chc = s.chc ∧ (countEvent source a s).dlk = s.dlk ∧ (countEvent source a s).fmg = s.fmg ∧
    (countEvent source a s).slc = s.slc ∧ (countEvent source a s).motorPar = s.motorPar ∧
    (countEvent source a s).blockPar = s.blockPar ∧ (countEvent source a s).packPar = s.packPar ∧
    (countEvent source a s).chargePar = s.chargePar ∧ (countEvent source a s).dirtPar = s.dirtPar ∧
    (countEvent source a s).idleSleepS = s.idleSleepS ∧ (countEvent source a s).pending = s.pending :=
  countEvents_frame [(source, a)] s
@[simp] theorem clearOnEvacuation_frame (s : State) : (clearOnEvacuation s).trg = s.trg ∧
    (clearOnEvacuation s).drs = s.drs ∧ (clearOnEvacuation s).mdr = s.mdr ∧ (clearOnEvacuation s).srg = s.srg ∧
    (clearOnEvacuation s).sbt = s.sbt ∧ (clearOnEvacuation s).blm = s.blm ∧ (clearOnEvacuation s).dse = s.dse ∧
    (clearOnEvacuation s).pkm = s.pkm ∧ (clearOnEvacuation s).gge = s.gge ∧ (clearOnEvacuation s).chc = s.chc ∧
    (clearOnEvacuation s).dlk = s.dlk ∧ (clearOnEvacuation s).fmg = s.fmg ∧ (clearOnEvacuation s).mpt = s.mpt ∧
    (clearOnEvacuation s).slc = s.slc ∧ (clearOnEvacuation s).motorPar = s.motorPar ∧
    (clearOnEvacuation s).blockPar = s.blockPar ∧ (clearOnEvacuation s).packPar = s.packPar ∧
    (clearOnEvacuation s).chargePar = s.chargePar ∧ (clearOnEvacuation s).dirtPar = s.dirtPar ∧
    (clearOnEvacuation s).idleSleepS = s.idleSleepS ∧ (clearOnEvacuation s).pending = s.pending := by simp [clearOnEvacuation]

/-! ### The Demand Resolver -/

@[simp] theorem evaluateAs_frame (runDemand : Bool) (s : State) : (evaluateAs runDemand s).trg = s.trg ∧
    (evaluateAs runDemand s).mdr = s.mdr ∧ (evaluateAs runDemand s).srg = s.srg ∧
    (evaluateAs runDemand s).sbt = s.sbt ∧ (evaluateAs runDemand s).blm = s.blm ∧
    (evaluateAs runDemand s).dse = s.dse ∧ (evaluateAs runDemand s).pkm = s.pkm ∧
    (evaluateAs runDemand s).gge = s.gge ∧ (evaluateAs runDemand s).chc = s.chc ∧
    (evaluateAs runDemand s).dlk = s.dlk ∧ (evaluateAs runDemand s).icn = s.icn ∧
    (evaluateAs runDemand s).fmg = s.fmg ∧ (evaluateAs runDemand s).mpt = s.mpt ∧
    (evaluateAs runDemand s).slc = s.slc ∧ (evaluateAs runDemand s).motorPar = s.motorPar ∧
    (evaluateAs runDemand s).blockPar = s.blockPar ∧ (evaluateAs runDemand s).packPar = s.packPar ∧
    (evaluateAs runDemand s).chargePar = s.chargePar ∧ (evaluateAs runDemand s).dirtPar = s.dirtPar ∧
    (evaluateAs runDemand s).idleSleepS = s.idleSleepS ∧ (evaluateAs runDemand s).pending = s.pending := by simp [evaluateAs]
@[simp] theorem evaluate_frame (s : State) : (evaluate s).trg = s.trg ∧ (evaluate s).mdr = s.mdr ∧
    (evaluate s).srg = s.srg ∧ (evaluate s).sbt = s.sbt ∧ (evaluate s).blm = s.blm ∧ (evaluate s).dse = s.dse ∧
    (evaluate s).pkm = s.pkm ∧ (evaluate s).gge = s.gge ∧ (evaluate s).chc = s.chc ∧ (evaluate s).dlk = s.dlk ∧
    (evaluate s).icn = s.icn ∧ (evaluate s).fmg = s.fmg ∧ (evaluate s).mpt = s.mpt ∧ (evaluate s).slc = s.slc ∧
    (evaluate s).motorPar = s.motorPar ∧ (evaluate s).blockPar = s.blockPar ∧ (evaluate s).packPar = s.packPar ∧
    (evaluate s).chargePar = s.chargePar ∧ (evaluate s).dirtPar = s.dirtPar ∧ (evaluate s).idleSleepS = s.idleSleepS ∧
    (evaluate s).pending = s.pending := by simp [evaluate]
@[simp] theorem clearClaims_frame (s : State) : (clearClaims s).mdr = s.mdr ∧ (clearClaims s).srg = s.srg ∧
    (clearClaims s).sbt = s.sbt ∧ (clearClaims s).blm = s.blm ∧ (clearClaims s).dse = s.dse ∧
    (clearClaims s).pkm = s.pkm ∧ (clearClaims s).gge = s.gge ∧ (clearClaims s).chc = s.chc ∧
    (clearClaims s).dlk = s.dlk ∧ (clearClaims s).icn = s.icn ∧ (clearClaims s).fmg = s.fmg ∧
    (clearClaims s).mpt = s.mpt ∧ (clearClaims s).slc = s.slc ∧ (clearClaims s).motorPar = s.motorPar ∧
    (clearClaims s).blockPar = s.blockPar ∧ (clearClaims s).packPar = s.packPar ∧
    (clearClaims s).chargePar = s.chargePar ∧ (clearClaims s).dirtPar = s.dirtPar ∧
    (clearClaims s).idleSleepS = s.idleSleepS ∧ (clearClaims s).pending = s.pending := by simp [clearClaims]
@[simp] theorem abortEdit_frame (cause : AbortCause) (s : State) : (abortEdit cause s).trg = s.trg ∧
    (abortEdit cause s).mdr = s.mdr ∧ (abortEdit cause s).srg = s.srg ∧ (abortEdit cause s).sbt = s.sbt ∧
    (abortEdit cause s).blm = s.blm ∧ (abortEdit cause s).dse = s.dse ∧ (abortEdit cause s).pkm = s.pkm ∧
    (abortEdit cause s).gge = s.gge ∧ (abortEdit cause s).chc = s.chc ∧ (abortEdit cause s).dlk = s.dlk ∧
    (abortEdit cause s).fmg = s.fmg ∧ (abortEdit cause s).slc = s.slc ∧ (abortEdit cause s).motorPar = s.motorPar ∧
    (abortEdit cause s).blockPar = s.blockPar ∧ (abortEdit cause s).packPar = s.packPar ∧
    (abortEdit cause s).chargePar = s.chargePar ∧ (abortEdit cause s).dirtPar = s.dirtPar ∧
    (abortEdit cause s).idleSleepS = s.idleSleepS ∧ (abortEdit cause s).pending = s.pending := by unfold abortEdit; split <;> simp

/-! ### The Fault Manager -/

@[simp] theorem tableRaise_frame (k : FaultKind) (d : Detail) (s : State) : (tableRaise k d s).trg = s.trg ∧
    (tableRaise k d s).drs = s.drs ∧ (tableRaise k d s).mdr = s.mdr ∧ (tableRaise k d s).srg = s.srg ∧
    (tableRaise k d s).sbt = s.sbt ∧ (tableRaise k d s).blm = s.blm ∧ (tableRaise k d s).dse = s.dse ∧
    (tableRaise k d s).pkm = s.pkm ∧ (tableRaise k d s).gge = s.gge ∧ (tableRaise k d s).chc = s.chc ∧
    (tableRaise k d s).dlk = s.dlk ∧ (tableRaise k d s).icn = s.icn ∧ (tableRaise k d s).mpt = s.mpt ∧
    (tableRaise k d s).slc = s.slc ∧ (tableRaise k d s).motorPar = s.motorPar ∧
    (tableRaise k d s).blockPar = s.blockPar ∧ (tableRaise k d s).packPar = s.packPar ∧
    (tableRaise k d s).chargePar = s.chargePar ∧ (tableRaise k d s).dirtPar = s.dirtPar ∧
    (tableRaise k d s).idleSleepS = s.idleSleepS ∧ (tableRaise k d s).pending = s.pending := by simp [tableRaise]
@[simp] theorem raiseTripNotice_frame (e : TripEvent) (s : State) : (raiseTripNotice e s).trg = s.trg ∧
    (raiseTripNotice e s).drs = s.drs ∧ (raiseTripNotice e s).mdr = s.mdr ∧ (raiseTripNotice e s).srg = s.srg ∧
    (raiseTripNotice e s).sbt = s.sbt ∧ (raiseTripNotice e s).blm = s.blm ∧ (raiseTripNotice e s).dse = s.dse ∧
    (raiseTripNotice e s).pkm = s.pkm ∧ (raiseTripNotice e s).gge = s.gge ∧ (raiseTripNotice e s).chc = s.chc ∧
    (raiseTripNotice e s).dlk = s.dlk ∧ (raiseTripNotice e s).fmg = s.fmg ∧ (raiseTripNotice e s).slc = s.slc ∧
    (raiseTripNotice e s).motorPar = s.motorPar ∧ (raiseTripNotice e s).blockPar = s.blockPar ∧
    (raiseTripNotice e s).packPar = s.packPar ∧ (raiseTripNotice e s).chargePar = s.chargePar ∧
    (raiseTripNotice e s).dirtPar = s.dirtPar ∧ (raiseTripNotice e s).idleSleepS = s.idleSleepS ∧
    (raiseTripNotice e s).pending = s.pending := by simp [raiseTripNotice]
@[simp] theorem laterCause_frame (k : FaultKind) (d : Detail) (s : State) : (laterCause k d s).trg = s.trg ∧
    (laterCause k d s).drs = s.drs ∧ (laterCause k d s).mdr = s.mdr ∧ (laterCause k d s).srg = s.srg ∧
    (laterCause k d s).sbt = s.sbt ∧ (laterCause k d s).blm = s.blm ∧ (laterCause k d s).dse = s.dse ∧
    (laterCause k d s).pkm = s.pkm ∧ (laterCause k d s).gge = s.gge ∧ (laterCause k d s).chc = s.chc ∧
    (laterCause k d s).dlk = s.dlk ∧ (laterCause k d s).slc = s.slc ∧ (laterCause k d s).motorPar = s.motorPar ∧
    (laterCause k d s).blockPar = s.blockPar ∧ (laterCause k d s).packPar = s.packPar ∧
    (laterCause k d s).chargePar = s.chargePar ∧ (laterCause k d s).dirtPar = s.dirtPar ∧
    (laterCause k d s).idleSleepS = s.idleSleepS ∧ (laterCause k d s).pending = s.pending := by simp [laterCause]
@[simp] theorem noteRaise_frame (k : FaultKind) (d : Detail) (s : State) : (noteRaise k d s).trg = s.trg ∧
    (noteRaise k d s).drs = s.drs ∧ (noteRaise k d s).mdr = s.mdr ∧ (noteRaise k d s).srg = s.srg ∧
    (noteRaise k d s).sbt = s.sbt ∧ (noteRaise k d s).blm = s.blm ∧ (noteRaise k d s).dse = s.dse ∧
    (noteRaise k d s).pkm = s.pkm ∧ (noteRaise k d s).gge = s.gge ∧ (noteRaise k d s).chc = s.chc ∧
    (noteRaise k d s).dlk = s.dlk ∧ (noteRaise k d s).slc = s.slc ∧ (noteRaise k d s).motorPar = s.motorPar ∧
    (noteRaise k d s).blockPar = s.blockPar ∧ (noteRaise k d s).packPar = s.packPar ∧
    (noteRaise k d s).chargePar = s.chargePar ∧ (noteRaise k d s).dirtPar = s.dirtPar ∧
    (noteRaise k d s).idleSleepS = s.idleSleepS ∧ (noteRaise k d s).pending = s.pending := by unfold noteRaise; dsimp only; split <;> simp
@[simp] theorem raiseNotified_frame (k : FaultKind) (d : Detail) (s : State) : (raiseNotified k d s).trg = s.trg ∧
    (raiseNotified k d s).drs = s.drs ∧ (raiseNotified k d s).mdr = s.mdr ∧ (raiseNotified k d s).srg = s.srg ∧
    (raiseNotified k d s).sbt = s.sbt ∧ (raiseNotified k d s).blm = s.blm ∧ (raiseNotified k d s).dse = s.dse ∧
    (raiseNotified k d s).pkm = s.pkm ∧ (raiseNotified k d s).gge = s.gge ∧ (raiseNotified k d s).chc = s.chc ∧
    (raiseNotified k d s).dlk = s.dlk ∧ (raiseNotified k d s).slc = s.slc ∧
    (raiseNotified k d s).motorPar = s.motorPar ∧ (raiseNotified k d s).blockPar = s.blockPar ∧
    (raiseNotified k d s).packPar = s.packPar ∧ (raiseNotified k d s).chargePar = s.chargePar ∧
    (raiseNotified k d s).dirtPar = s.dirtPar ∧ (raiseNotified k d s).idleSleepS = s.idleSleepS ∧
    (raiseNotified k d s).pending = s.pending := by unfold raiseNotified; dsimp only; split <;> simp
@[simp] theorem reportSensor_frame (e : SetEvent) (r : SensorReason) (s : State) : (reportSensor e r s).trg = s.trg ∧
    (reportSensor e r s).drs = s.drs ∧ (reportSensor e r s).mdr = s.mdr ∧ (reportSensor e r s).srg = s.srg ∧
    (reportSensor e r s).sbt = s.sbt ∧ (reportSensor e r s).blm = s.blm ∧ (reportSensor e r s).dse = s.dse ∧
    (reportSensor e r s).pkm = s.pkm ∧ (reportSensor e r s).gge = s.gge ∧ (reportSensor e r s).chc = s.chc ∧
    (reportSensor e r s).dlk = s.dlk ∧ (reportSensor e r s).fmg = s.fmg ∧ (reportSensor e r s).slc = s.slc ∧
    (reportSensor e r s).motorPar = s.motorPar ∧ (reportSensor e r s).blockPar = s.blockPar ∧
    (reportSensor e r s).packPar = s.packPar ∧ (reportSensor e r s).chargePar = s.chargePar ∧
    (reportSensor e r s).dirtPar = s.dirtPar ∧ (reportSensor e r s).idleSleepS = s.idleSleepS ∧
    (reportSensor e r s).pending = s.pending := by unfold reportSensor; split <;> simp

/-! ### The Dirt Sensing Engine -/

@[simp] theorem raiseSensor_frame (s : State) : (raiseSensor s).trg = s.trg ∧ (raiseSensor s).drs = s.drs ∧
    (raiseSensor s).mdr = s.mdr ∧ (raiseSensor s).srg = s.srg ∧ (raiseSensor s).sbt = s.sbt ∧
    (raiseSensor s).blm = s.blm ∧ (raiseSensor s).dse = s.dse ∧ (raiseSensor s).pkm = s.pkm ∧
    (raiseSensor s).gge = s.gge ∧ (raiseSensor s).chc = s.chc ∧ (raiseSensor s).dlk = s.dlk ∧
    (raiseSensor s).slc = s.slc ∧ (raiseSensor s).motorPar = s.motorPar ∧ (raiseSensor s).blockPar = s.blockPar ∧
    (raiseSensor s).packPar = s.packPar ∧ (raiseSensor s).chargePar = s.chargePar ∧
    (raiseSensor s).dirtPar = s.dirtPar ∧ (raiseSensor s).idleSleepS = s.idleSleepS ∧
    (raiseSensor s).pending = s.pending := by simp [raiseSensor]
@[simp] theorem judgeKill_frame (s : State) : (judgeKill s).trg = s.trg ∧ (judgeKill s).drs = s.drs ∧
    (judgeKill s).mdr = s.mdr ∧ (judgeKill s).srg = s.srg ∧ (judgeKill s).sbt = s.sbt ∧ (judgeKill s).blm = s.blm ∧
    (judgeKill s).pkm = s.pkm ∧ (judgeKill s).gge = s.gge ∧ (judgeKill s).chc = s.chc ∧ (judgeKill s).dlk = s.dlk ∧
    (judgeKill s).slc = s.slc ∧ (judgeKill s).motorPar = s.motorPar ∧ (judgeKill s).blockPar = s.blockPar ∧
    (judgeKill s).packPar = s.packPar ∧ (judgeKill s).chargePar = s.chargePar ∧ (judgeKill s).dirtPar = s.dirtPar ∧
    (judgeKill s).idleSleepS = s.idleSleepS ∧ (judgeKill s).pending = s.pending := by
  unfold judgeKill
  dsimp only
  repeat' split
  all_goals simp
@[simp] theorem killedEnd_frame (a : Nat) (s : State) : (killedEnd a s).trg = s.trg ∧ (killedEnd a s).drs = s.drs ∧
    (killedEnd a s).mdr = s.mdr ∧ (killedEnd a s).srg = s.srg ∧ (killedEnd a s).sbt = s.sbt ∧
    (killedEnd a s).blm = s.blm ∧ (killedEnd a s).pkm = s.pkm ∧ (killedEnd a s).gge = s.gge ∧
    (killedEnd a s).chc = s.chc ∧ (killedEnd a s).dlk = s.dlk ∧ (killedEnd a s).fmg = s.fmg ∧
    (killedEnd a s).slc = s.slc ∧ (killedEnd a s).motorPar = s.motorPar ∧ (killedEnd a s).blockPar = s.blockPar ∧
    (killedEnd a s).packPar = s.packPar ∧ (killedEnd a s).chargePar = s.chargePar ∧
    (killedEnd a s).dirtPar = s.dirtPar ∧ (killedEnd a s).idleSleepS = s.idleSleepS ∧
    (killedEnd a s).pending = s.pending := by
  unfold killedEnd
  repeat' split
  all_goals simp
@[simp] theorem raiseDirtNotice_frame (old : DirtLevel) (cause : DirtCause) (s : State) :
    (raiseDirtNotice old cause s).trg = s.trg ∧ (raiseDirtNotice old cause s).drs = s.drs ∧
    (raiseDirtNotice old cause s).mdr = s.mdr ∧ (raiseDirtNotice old cause s).srg = s.srg ∧
    (raiseDirtNotice old cause s).sbt = s.sbt ∧ (raiseDirtNotice old cause s).blm = s.blm ∧
    (raiseDirtNotice old cause s).dse = s.dse ∧ (raiseDirtNotice old cause s).pkm = s.pkm ∧
    (raiseDirtNotice old cause s).gge = s.gge ∧ (raiseDirtNotice old cause s).chc = s.chc ∧
    (raiseDirtNotice old cause s).dlk = s.dlk ∧ (raiseDirtNotice old cause s).fmg = s.fmg ∧
    (raiseDirtNotice old cause s).slc = s.slc ∧ (raiseDirtNotice old cause s).motorPar = s.motorPar ∧
    (raiseDirtNotice old cause s).blockPar = s.blockPar ∧ (raiseDirtNotice old cause s).packPar = s.packPar ∧
    (raiseDirtNotice old cause s).chargePar = s.chargePar ∧ (raiseDirtNotice old cause s).dirtPar = s.dirtPar ∧
    (raiseDirtNotice old cause s).idleSleepS = s.idleSleepS ∧ (raiseDirtNotice old cause s).pending = s.pending := by simp [raiseDirtNotice]
@[simp] theorem reportLevel_frame (old : DirtLevel) (s : State) : (reportLevel old s).trg = s.trg ∧ (reportLevel old s).drs = s.drs ∧
    (reportLevel old s).mdr = s.mdr ∧ (reportLevel old s).srg = s.srg ∧ (reportLevel old s).sbt = s.sbt ∧ (reportLevel old s).blm = s.blm ∧
    (reportLevel old s).dse = s.dse ∧ (reportLevel old s).pkm = s.pkm ∧ (reportLevel old s).gge = s.gge ∧ (reportLevel old s).chc = s.chc ∧ (reportLevel old s).dlk = s.dlk ∧
    (reportLevel old s).fmg = s.fmg ∧ (reportLevel old s).slc = s.slc ∧ (reportLevel old s).motorPar = s.motorPar ∧
    (reportLevel old s).blockPar = s.blockPar ∧ (reportLevel old s).packPar = s.packPar ∧ (reportLevel old s).chargePar = s.chargePar ∧
    (reportLevel old s).dirtPar = s.dirtPar ∧ (reportLevel old s).idleSleepS = s.idleSleepS ∧ (reportLevel old s).pending = s.pending := by unfold reportLevel; split <;> simp
@[simp] theorem beginWindow_frame (s : State) : (beginWindow s).trg = s.trg ∧ (beginWindow s).drs = s.drs ∧
    (beginWindow s).mdr = s.mdr ∧ (beginWindow s).srg = s.srg ∧ (beginWindow s).sbt = s.sbt ∧
    (beginWindow s).blm = s.blm ∧ (beginWindow s).pkm = s.pkm ∧ (beginWindow s).gge = s.gge ∧
    (beginWindow s).chc = s.chc ∧ (beginWindow s).dlk = s.dlk ∧ (beginWindow s).icn = s.icn ∧
    (beginWindow s).fmg = s.fmg ∧ (beginWindow s).mpt = s.mpt ∧ (beginWindow s).slc = s.slc ∧
    (beginWindow s).motorPar = s.motorPar ∧ (beginWindow s).blockPar = s.blockPar ∧
    (beginWindow s).packPar = s.packPar ∧ (beginWindow s).chargePar = s.chargePar ∧
    (beginWindow s).dirtPar = s.dirtPar ∧ (beginWindow s).idleSleepS = s.idleSleepS ∧
    (beginWindow s).pending = s.pending := by simp [beginWindow]
@[simp] theorem opticalEnd_frame (amplitude : Nat) (s : State) : (opticalEnd amplitude s).1.trg = s.trg ∧
    (opticalEnd amplitude s).1.drs = s.drs ∧ (opticalEnd amplitude s).1.mdr = s.mdr ∧
    (opticalEnd amplitude s).1.srg = s.srg ∧ (opticalEnd amplitude s).1.sbt = s.sbt ∧
    (opticalEnd amplitude s).1.blm = s.blm ∧ (opticalEnd amplitude s).1.pkm = s.pkm ∧
    (opticalEnd amplitude s).1.gge = s.gge ∧ (opticalEnd amplitude s).1.chc = s.chc ∧
    (opticalEnd amplitude s).1.dlk = s.dlk ∧ (opticalEnd amplitude s).1.slc = s.slc ∧
    (opticalEnd amplitude s).1.motorPar = s.motorPar ∧ (opticalEnd amplitude s).1.blockPar = s.blockPar ∧
    (opticalEnd amplitude s).1.packPar = s.packPar ∧ (opticalEnd amplitude s).1.chargePar = s.chargePar ∧
    (opticalEnd amplitude s).1.dirtPar = s.dirtPar ∧ (opticalEnd amplitude s).1.idleSleepS = s.idleSleepS ∧
    (opticalEnd amplitude s).1.pending = s.pending := by
  unfold opticalEnd
  dsimp only
  split <;> simp
@[simp] theorem windowSteps_frame (w : DirtWindow) (amplitude level : Nat) (signal : List Nat) (s : State) :
    (windowSteps w amplitude level signal s).trg = s.trg ∧ (windowSteps w amplitude level signal s).drs = s.drs ∧
    (windowSteps w amplitude level signal s).mdr = s.mdr ∧ (windowSteps w amplitude level signal s).srg = s.srg ∧
    (windowSteps w amplitude level signal s).sbt = s.sbt ∧ (windowSteps w amplitude level signal s).blm = s.blm ∧
    (windowSteps w amplitude level signal s).pkm = s.pkm ∧ (windowSteps w amplitude level signal s).gge = s.gge ∧
    (windowSteps w amplitude level signal s).chc = s.chc ∧ (windowSteps w amplitude level signal s).dlk = s.dlk ∧
    (windowSteps w amplitude level signal s).slc = s.slc ∧
    (windowSteps w amplitude level signal s).motorPar = s.motorPar ∧
    (windowSteps w amplitude level signal s).blockPar = s.blockPar ∧
    (windowSteps w amplitude level signal s).packPar = s.packPar ∧
    (windowSteps w amplitude level signal s).chargePar = s.chargePar ∧
    (windowSteps w amplitude level signal s).dirtPar = s.dirtPar ∧
    (windowSteps w amplitude level signal s).idleSleepS = s.idleSleepS ∧
    (windowSteps w amplitude level signal s).pending = s.pending := by simp [windowSteps]
@[simp] theorem dirtWindowEnd_frame (w : DirtWindow) (amplitude level : Nat) (signal : List Nat) (s : State) :
    (dirtWindowEnd w amplitude level signal s).trg = s.trg ∧ (dirtWindowEnd w amplitude level signal s).mdr = s.mdr ∧
    (dirtWindowEnd w amplitude level signal s).srg = s.srg ∧ (dirtWindowEnd w amplitude level signal s).sbt = s.sbt ∧
    (dirtWindowEnd w amplitude level signal s).blm = s.blm ∧ (dirtWindowEnd w amplitude level signal s).pkm = s.pkm ∧
    (dirtWindowEnd w amplitude level signal s).gge = s.gge ∧ (dirtWindowEnd w amplitude level signal s).chc = s.chc ∧
    (dirtWindowEnd w amplitude level signal s).dlk = s.dlk ∧ (dirtWindowEnd w amplitude level signal s).slc = s.slc ∧
    (dirtWindowEnd w amplitude level signal s).motorPar = s.motorPar ∧
    (dirtWindowEnd w amplitude level signal s).blockPar = s.blockPar ∧
    (dirtWindowEnd w amplitude level signal s).packPar = s.packPar ∧
    (dirtWindowEnd w amplitude level signal s).chargePar = s.chargePar ∧
    (dirtWindowEnd w amplitude level signal s).dirtPar = s.dirtPar ∧
    (dirtWindowEnd w amplitude level signal s).idleSleepS = s.idleSleepS ∧
    (dirtWindowEnd w amplitude level signal s).pending = s.pending := by simp [dirtWindowEnd]
@[simp] theorem dirtSample_frame (speed : Nat) (s : State) : (dirtSample speed s).trg = s.trg ∧
    (dirtSample speed s).drs = s.drs ∧ (dirtSample speed s).mdr = s.mdr ∧ (dirtSample speed s).srg = s.srg ∧
    (dirtSample speed s).sbt = s.sbt ∧ (dirtSample speed s).blm = s.blm ∧ (dirtSample speed s).pkm = s.pkm ∧
    (dirtSample speed s).gge = s.gge ∧ (dirtSample speed s).chc = s.chc ∧ (dirtSample speed s).dlk = s.dlk ∧
    (dirtSample speed s).icn = s.icn ∧ (dirtSample speed s).fmg = s.fmg ∧ (dirtSample speed s).mpt = s.mpt ∧
    (dirtSample speed s).slc = s.slc ∧ (dirtSample speed s).motorPar = s.motorPar ∧
    (dirtSample speed s).blockPar = s.blockPar ∧ (dirtSample speed s).packPar = s.packPar ∧
    (dirtSample speed s).chargePar = s.chargePar ∧ (dirtSample speed s).dirtPar = s.dirtPar ∧
    (dirtSample speed s).idleSleepS = s.idleSleepS ∧ (dirtSample speed s).pending = s.pending := by unfold dirtSample; split <;> simp
@[simp] theorem dirtEnterRun_frame (s : State) : (dirtEnterRun s).trg = s.trg ∧ (dirtEnterRun s).drs = s.drs ∧
    (dirtEnterRun s).mdr = s.mdr ∧ (dirtEnterRun s).srg = s.srg ∧ (dirtEnterRun s).sbt = s.sbt ∧
    (dirtEnterRun s).blm = s.blm ∧ (dirtEnterRun s).pkm = s.pkm ∧ (dirtEnterRun s).gge = s.gge ∧
    (dirtEnterRun s).chc = s.chc ∧ (dirtEnterRun s).dlk = s.dlk ∧ (dirtEnterRun s).icn = s.icn ∧
    (dirtEnterRun s).fmg = s.fmg ∧ (dirtEnterRun s).mpt = s.mpt ∧ (dirtEnterRun s).slc = s.slc ∧
    (dirtEnterRun s).motorPar = s.motorPar ∧ (dirtEnterRun s).blockPar = s.blockPar ∧
    (dirtEnterRun s).packPar = s.packPar ∧ (dirtEnterRun s).chargePar = s.chargePar ∧
    (dirtEnterRun s).dirtPar = s.dirtPar ∧ (dirtEnterRun s).idleSleepS = s.idleSleepS ∧
    (dirtEnterRun s).pending = s.pending := by unfold dirtEnterRun; split <;> simp
@[simp] theorem dirtLeaveRun_frame (s : State) : (dirtLeaveRun s).trg = s.trg ∧ (dirtLeaveRun s).mdr = s.mdr ∧
    (dirtLeaveRun s).srg = s.srg ∧ (dirtLeaveRun s).sbt = s.sbt ∧ (dirtLeaveRun s).blm = s.blm ∧
    (dirtLeaveRun s).pkm = s.pkm ∧ (dirtLeaveRun s).gge = s.gge ∧ (dirtLeaveRun s).chc = s.chc ∧
    (dirtLeaveRun s).dlk = s.dlk ∧ (dirtLeaveRun s).fmg = s.fmg ∧ (dirtLeaveRun s).slc = s.slc ∧
    (dirtLeaveRun s).motorPar = s.motorPar ∧ (dirtLeaveRun s).blockPar = s.blockPar ∧
    (dirtLeaveRun s).packPar = s.packPar ∧ (dirtLeaveRun s).chargePar = s.chargePar ∧
    (dirtLeaveRun s).dirtPar = s.dirtPar ∧ (dirtLeaveRun s).idleSleepS = s.idleSleepS ∧
    (dirtLeaveRun s).pending = s.pending := by
  unfold dirtLeaveRun
  dsimp only
  repeat' split
  all_goals simp
@[simp] theorem writeOpticalMode_frame (m : OpticalMode) (s : State) : (writeOpticalMode m s).trg = s.trg ∧
    (writeOpticalMode m s).drs = s.drs ∧ (writeOpticalMode m s).mdr = s.mdr ∧ (writeOpticalMode m s).srg = s.srg ∧
    (writeOpticalMode m s).sbt = s.sbt ∧ (writeOpticalMode m s).blm = s.blm ∧ (writeOpticalMode m s).pkm = s.pkm ∧
    (writeOpticalMode m s).gge = s.gge ∧ (writeOpticalMode m s).chc = s.chc ∧ (writeOpticalMode m s).dlk = s.dlk ∧
    (writeOpticalMode m s).fmg = s.fmg ∧ (writeOpticalMode m s).slc = s.slc ∧
    (writeOpticalMode m s).motorPar = s.motorPar ∧ (writeOpticalMode m s).blockPar = s.blockPar ∧
    (writeOpticalMode m s).packPar = s.packPar ∧ (writeOpticalMode m s).chargePar = s.chargePar ∧
    (writeOpticalMode m s).idleSleepS = s.idleSleepS ∧ (writeOpticalMode m s).pending = s.pending := by
  unfold writeOpticalMode
  dsimp only
  repeat' split
  all_goals simp
@[simp] theorem writeEmitter_frame (v : Nat) (s : State) : (writeEmitter v s).trg = s.trg ∧
    (writeEmitter v s).drs = s.drs ∧ (writeEmitter v s).mdr = s.mdr ∧ (writeEmitter v s).srg = s.srg ∧
    (writeEmitter v s).sbt = s.sbt ∧ (writeEmitter v s).blm = s.blm ∧ (writeEmitter v s).pkm = s.pkm ∧
    (writeEmitter v s).gge = s.gge ∧ (writeEmitter v s).chc = s.chc ∧ (writeEmitter v s).dlk = s.dlk ∧
    (writeEmitter v s).icn = s.icn ∧ (writeEmitter v s).fmg = s.fmg ∧ (writeEmitter v s).mpt = s.mpt ∧
    (writeEmitter v s).slc = s.slc ∧ (writeEmitter v s).motorPar = s.motorPar ∧
    (writeEmitter v s).blockPar = s.blockPar ∧ (writeEmitter v s).packPar = s.packPar ∧
    (writeEmitter v s).chargePar = s.chargePar ∧ (writeEmitter v s).idleSleepS = s.idleSleepS ∧
    (writeEmitter v s).pending = s.pending := by
  unfold writeEmitter
  dsimp only
  repeat' split
  all_goals simp
@[simp] theorem writeCarrier_frame (v : Nat) (s : State) : (writeCarrier v s).trg = s.trg ∧
    (writeCarrier v s).drs = s.drs ∧ (writeCarrier v s).mdr = s.mdr ∧ (writeCarrier v s).srg = s.srg ∧
    (writeCarrier v s).sbt = s.sbt ∧ (writeCarrier v s).blm = s.blm ∧ (writeCarrier v s).pkm = s.pkm ∧
    (writeCarrier v s).gge = s.gge ∧ (writeCarrier v s).chc = s.chc ∧ (writeCarrier v s).dlk = s.dlk ∧
    (writeCarrier v s).icn = s.icn ∧ (writeCarrier v s).fmg = s.fmg ∧ (writeCarrier v s).mpt = s.mpt ∧
    (writeCarrier v s).slc = s.slc ∧ (writeCarrier v s).motorPar = s.motorPar ∧
    (writeCarrier v s).blockPar = s.blockPar ∧ (writeCarrier v s).packPar = s.packPar ∧
    (writeCarrier v s).chargePar = s.chargePar ∧ (writeCarrier v s).idleSleepS = s.idleSleepS ∧
    (writeCarrier v s).pending = s.pending := by
  unfold writeCarrier
  dsimp only
  repeat' split
  all_goals simp

/-! ### The Charge Gauge -/

@[simp] theorem setCharge_frame (q : Nat) (e : GaugeEvent) (s : State) : (setCharge q e s).trg = s.trg ∧
    (setCharge q e s).drs = s.drs ∧ (setCharge q e s).mdr = s.mdr ∧ (setCharge q e s).srg = s.srg ∧
    (setCharge q e s).sbt = s.sbt ∧ (setCharge q e s).blm = s.blm ∧ (setCharge q e s).dse = s.dse ∧
    (setCharge q e s).pkm = s.pkm ∧ (setCharge q e s).chc = s.chc ∧ (setCharge q e s).dlk = s.dlk ∧
    (setCharge q e s).icn = s.icn ∧ (setCharge q e s).fmg = s.fmg ∧ (setCharge q e s).mpt = s.mpt ∧
    (setCharge q e s).slc = s.slc ∧ (setCharge q e s).motorPar = s.motorPar ∧
    (setCharge q e s).blockPar = s.blockPar ∧ (setCharge q e s).packPar = s.packPar ∧
    (setCharge q e s).chargePar = s.chargePar ∧ (setCharge q e s).dirtPar = s.dirtPar ∧
    (setCharge q e s).idleSleepS = s.idleSleepS ∧ (setCharge q e s).pending = s.pending := by simp [setCharge]
@[simp] theorem gaugeScan_frame (i : Int) (dt : Nat) (cutoffNow : Bool) (s : State) :
    (gaugeScan i dt cutoffNow s).trg = s.trg ∧ (gaugeScan i dt cutoffNow s).drs = s.drs ∧
    (gaugeScan i dt cutoffNow s).mdr = s.mdr ∧ (gaugeScan i dt cutoffNow s).srg = s.srg ∧
    (gaugeScan i dt cutoffNow s).sbt = s.sbt ∧ (gaugeScan i dt cutoffNow s).blm = s.blm ∧
    (gaugeScan i dt cutoffNow s).dse = s.dse ∧ (gaugeScan i dt cutoffNow s).pkm = s.pkm ∧
    (gaugeScan i dt cutoffNow s).chc = s.chc ∧ (gaugeScan i dt cutoffNow s).dlk = s.dlk ∧
    (gaugeScan i dt cutoffNow s).icn = s.icn ∧ (gaugeScan i dt cutoffNow s).fmg = s.fmg ∧
    (gaugeScan i dt cutoffNow s).mpt = s.mpt ∧ (gaugeScan i dt cutoffNow s).slc = s.slc ∧
    (gaugeScan i dt cutoffNow s).motorPar = s.motorPar ∧ (gaugeScan i dt cutoffNow s).blockPar = s.blockPar ∧
    (gaugeScan i dt cutoffNow s).packPar = s.packPar ∧ (gaugeScan i dt cutoffNow s).chargePar = s.chargePar ∧
    (gaugeScan i dt cutoffNow s).dirtPar = s.dirtPar ∧ (gaugeScan i dt cutoffNow s).idleSleepS = s.idleSleepS ∧
    (gaugeScan i dt cutoffNow s).pending = s.pending := by
  unfold gaugeScan
  dsimp only
  repeat' split
  all_goals simp
/-- Counting the events of a list one after another. -/
theorem chargeEvents_frame (l : List Unit) (source : CounterSource) (a : CountAmount) (s : State) :
    (l.foldl (fun t _ => countEvent source a t) s).trg = s.trg ∧
    (l.foldl (fun t _ => countEvent source a t) s).drs = s.drs ∧
    (l.foldl (fun t _ => countEvent source a t) s).mdr = s.mdr ∧
    (l.foldl (fun t _ => countEvent source a t) s).srg = s.srg ∧
    (l.foldl (fun t _ => countEvent source a t) s).sbt = s.sbt ∧
    (l.foldl (fun t _ => countEvent source a t) s).blm = s.blm ∧
    (l.foldl (fun t _ => countEvent source a t) s).dse = s.dse ∧
    (l.foldl (fun t _ => countEvent source a t) s).pkm = s.pkm ∧
    (l.foldl (fun t _ => countEvent source a t) s).gge = s.gge ∧
    (l.foldl (fun t _ => countEvent source a t) s).chc = s.chc ∧
    (l.foldl (fun t _ => countEvent source a t) s).dlk = s.dlk ∧
    (l.foldl (fun t _ => countEvent source a t) s).fmg = s.fmg ∧
    (l.foldl (fun t _ => countEvent source a t) s).slc = s.slc ∧
    (l.foldl (fun t _ => countEvent source a t) s).motorPar = s.motorPar ∧
    (l.foldl (fun t _ => countEvent source a t) s).blockPar = s.blockPar ∧
    (l.foldl (fun t _ => countEvent source a t) s).packPar = s.packPar ∧
    (l.foldl (fun t _ => countEvent source a t) s).chargePar = s.chargePar ∧
    (l.foldl (fun t _ => countEvent source a t) s).dirtPar = s.dirtPar ∧
    (l.foldl (fun t _ => countEvent source a t) s).idleSleepS = s.idleSleepS ∧
    (l.foldl (fun t _ => countEvent source a t) s).pending = s.pending := by
  induction l generalizing s with
  | nil => simp
  | cons _ l ih => simp [ih]
@[simp] theorem chargeIn_frame (i : Int) (dt : Nat) (s : State) : (chargeIn i dt s).trg = s.trg ∧
    (chargeIn i dt s).drs = s.drs ∧ (chargeIn i dt s).mdr = s.mdr ∧ (chargeIn i dt s).srg = s.srg ∧
    (chargeIn i dt s).sbt = s.sbt ∧ (chargeIn i dt s).blm = s.blm ∧ (chargeIn i dt s).dse = s.dse ∧
    (chargeIn i dt s).pkm = s.pkm ∧ (chargeIn i dt s).chc = s.chc ∧ (chargeIn i dt s).dlk = s.dlk ∧
    (chargeIn i dt s).fmg = s.fmg ∧ (chargeIn i dt s).slc = s.slc ∧ (chargeIn i dt s).motorPar = s.motorPar ∧
    (chargeIn i dt s).blockPar = s.blockPar ∧ (chargeIn i dt s).packPar = s.packPar ∧
    (chargeIn i dt s).chargePar = s.chargePar ∧ (chargeIn i dt s).dirtPar = s.dirtPar ∧
    (chargeIn i dt s).idleSleepS = s.idleSleepS ∧ (chargeIn i dt s).pending = s.pending := by simp [chargeIn, chargeEvents_frame]
@[simp] theorem writeCapacity_frame (f : Nat) (s : State) : (writeCapacity f s).trg = s.trg ∧
    (writeCapacity f s).drs = s.drs ∧ (writeCapacity f s).mdr = s.mdr ∧ (writeCapacity f s).srg = s.srg ∧
    (writeCapacity f s).sbt = s.sbt ∧ (writeCapacity f s).blm = s.blm ∧ (writeCapacity f s).dse = s.dse ∧
    (writeCapacity f s).pkm = s.pkm ∧ (writeCapacity f s).chc = s.chc ∧ (writeCapacity f s).dlk = s.dlk ∧
    (writeCapacity f s).icn = s.icn ∧ (writeCapacity f s).fmg = s.fmg ∧ (writeCapacity f s).mpt = s.mpt ∧
    (writeCapacity f s).slc = s.slc ∧ (writeCapacity f s).motorPar = s.motorPar ∧
    (writeCapacity f s).blockPar = s.blockPar ∧ (writeCapacity f s).packPar = s.packPar ∧
    (writeCapacity f s).chargePar = s.chargePar ∧ (writeCapacity f s).dirtPar = s.dirtPar ∧
    (writeCapacity f s).idleSleepS = s.idleSleepS ∧ (writeCapacity f s).pending = s.pending := by unfold writeCapacity; split <;> simp

/-! ### The Pack Monitor -/

@[simp] theorem chooseInterval_frame (s : State) : (chooseInterval s).trg = s.trg ∧ (chooseInterval s).drs = s.drs ∧
    (chooseInterval s).mdr = s.mdr ∧ (chooseInterval s).srg = s.srg ∧ (chooseInterval s).sbt = s.sbt ∧
    (chooseInterval s).blm = s.blm ∧ (chooseInterval s).dse = s.dse ∧ (chooseInterval s).gge = s.gge ∧
    (chooseInterval s).chc = s.chc ∧ (chooseInterval s).dlk = s.dlk ∧ (chooseInterval s).icn = s.icn ∧
    (chooseInterval s).fmg = s.fmg ∧ (chooseInterval s).mpt = s.mpt ∧ (chooseInterval s).slc = s.slc ∧
    (chooseInterval s).motorPar = s.motorPar ∧ (chooseInterval s).blockPar = s.blockPar ∧
    (chooseInterval s).packPar = s.packPar ∧ (chooseInterval s).chargePar = s.chargePar ∧
    (chooseInterval s).dirtPar = s.dirtPar ∧ (chooseInterval s).idleSleepS = s.idleSleepS ∧
    (chooseInterval s).pending = s.pending := by simp [chooseInterval]

    @[simp] theorem raisePackNotice_frame (cellOv : Bool) (cause : PackCause) (cell : Nat) (old : PackState) (s : State) :
    (raisePackNotice cellOv cause cell old s).trg = s.trg ∧ (raisePackNotice cellOv cause cell old s).drs = s.drs ∧
    (raisePackNotice cellOv cause cell old s).mdr = s.mdr ∧ (raisePackNotice cellOv cause cell old s).srg = s.srg ∧
    (raisePackNotice cellOv cause cell old s).sbt = s.sbt ∧ (raisePackNotice cellOv cause cell old s).blm = s.blm ∧
    (raisePackNotice cellOv cause cell old s).dse = s.dse ∧ (raisePackNotice cellOv cause cell old s).pkm = s.pkm ∧
    (raisePackNotice cellOv cause cell old s).gge = s.gge ∧ (raisePackNotice cellOv cause cell old s).chc = s.chc ∧
    (raisePackNotice cellOv cause cell old s).dlk = s.dlk ∧ (raisePackNotice cellOv cause cell old s).fmg = s.fmg ∧
    (raisePackNotice cellOv cause cell old s).slc = s.slc ∧
    (raisePackNotice cellOv cause cell old s).motorPar = s.motorPar ∧
    (raisePackNotice cellOv cause cell old s).blockPar = s.blockPar ∧
    (raisePackNotice cellOv cause cell old s).packPar = s.packPar ∧
    (raisePackNotice cellOv cause cell old s).chargePar = s.chargePar ∧
    (raisePackNotice cellOv cause cell old s).dirtPar = s.dirtPar ∧
    (raisePackNotice cellOv cause cell old s).idleSleepS = s.idleSleepS ∧
    (raisePackNotice cellOv cause cell old s).pending = s.pending := by simp [raisePackNotice]
@[simp] theorem changePackState_frame (new : PackState) (cause : PackCause) (cell : Nat) (s : State) :
    (changePackState new cause cell s).trg = s.trg ∧ (changePackState new cause cell s).mdr = s.mdr ∧
    (changePackState new cause cell s).srg = s.srg ∧ (changePackState new cause cell s).sbt = s.sbt ∧
    (changePackState new cause cell s).blm = s.blm ∧ (changePackState new cause cell s).dse = s.dse ∧
    (changePackState new cause cell s).gge = s.gge ∧ (changePackState new cause cell s).chc = s.chc ∧
    (changePackState new cause cell s).dlk = s.dlk ∧ (changePackState new cause cell s).fmg = s.fmg ∧
    (changePackState new cause cell s).slc = s.slc ∧ (changePackState new cause cell s).motorPar = s.motorPar ∧
    (changePackState new cause cell s).blockPar = s.blockPar ∧
    (changePackState new cause cell s).packPar = s.packPar ∧
    (changePackState new cause cell s).chargePar = s.chargePar ∧
    (changePackState new cause cell s).dirtPar = s.dirtPar ∧
    (changePackState new cause cell s).idleSleepS = s.idleSleepS ∧
    (changePackState new cause cell s).pending = s.pending := by simp [changePackState]
@[simp] theorem releaseCutoff_frame (s : State) : (releaseCutoff s).trg = s.trg ∧ (releaseCutoff s).mdr = s.mdr ∧
    (releaseCutoff s).srg = s.srg ∧ (releaseCutoff s).sbt = s.sbt ∧ (releaseCutoff s).blm = s.blm ∧
    (releaseCutoff s).dse = s.dse ∧ (releaseCutoff s).gge = s.gge ∧ (releaseCutoff s).chc = s.chc ∧
    (releaseCutoff s).dlk = s.dlk ∧ (releaseCutoff s).fmg = s.fmg ∧ (releaseCutoff s).slc = s.slc ∧
    (releaseCutoff s).motorPar = s.motorPar ∧ (releaseCutoff s).blockPar = s.blockPar ∧
    (releaseCutoff s).packPar = s.packPar ∧ (releaseCutoff s).chargePar = s.chargePar ∧
    (releaseCutoff s).dirtPar = s.dirtPar ∧ (releaseCutoff s).idleSleepS = s.idleSleepS ∧
    (releaseCutoff s).pending = s.pending := by simp [releaseCutoff]
@[simp] theorem applyBleed_frame (set : Seven Bool) (s : State) : (applyBleed set s).trg = s.trg ∧
    (applyBleed set s).drs = s.drs ∧ (applyBleed set s).mdr = s.mdr ∧ (applyBleed set s).srg = s.srg ∧
    (applyBleed set s).sbt = s.sbt ∧ (applyBleed set s).blm = s.blm ∧ (applyBleed set s).dse = s.dse ∧
    (applyBleed set s).gge = s.gge ∧ (applyBleed set s).chc = s.chc ∧ (applyBleed set s).dlk = s.dlk ∧
    (applyBleed set s).icn = s.icn ∧ (applyBleed set s).fmg = s.fmg ∧ (applyBleed set s).mpt = s.mpt ∧
    (applyBleed set s).slc = s.slc ∧ (applyBleed set s).motorPar = s.motorPar ∧
    (applyBleed set s).blockPar = s.blockPar ∧ (applyBleed set s).packPar = s.packPar ∧
    (applyBleed set s).chargePar = s.chargePar ∧ (applyBleed set s).dirtPar = s.dirtPar ∧
    (applyBleed set s).idleSleepS = s.idleSleepS ∧ (applyBleed set s).pending = s.pending := by simp [applyBleed]

/-! ### The Dock Link (messages) -/

@[simp] theorem raiseDockNotice_frame (grantEvent : Bool) (old : DockState) (cause : DockCause) (s : State) :
    (raiseDockNotice grantEvent old cause s).trg = s.trg ∧ (raiseDockNotice grantEvent old cause s).drs = s.drs ∧
    (raiseDockNotice grantEvent old cause s).mdr = s.mdr ∧ (raiseDockNotice grantEvent old cause s).srg = s.srg ∧
    (raiseDockNotice grantEvent old cause s).sbt = s.sbt ∧ (raiseDockNotice grantEvent old cause s).blm = s.blm ∧
    (raiseDockNotice grantEvent old cause s).dse = s.dse ∧ (raiseDockNotice grantEvent old cause s).pkm = s.pkm ∧
    (raiseDockNotice grantEvent old cause s).gge = s.gge ∧ (raiseDockNotice grantEvent old cause s).chc = s.chc ∧
    (raiseDockNotice grantEvent old cause s).dlk = s.dlk ∧ (raiseDockNotice grantEvent old cause s).fmg = s.fmg ∧
    (raiseDockNotice grantEvent old cause s).slc = s.slc ∧
    (raiseDockNotice grantEvent old cause s).motorPar = s.motorPar ∧
    (raiseDockNotice grantEvent old cause s).blockPar = s.blockPar ∧
    (raiseDockNotice grantEvent old cause s).packPar = s.packPar ∧
    (raiseDockNotice grantEvent old cause s).chargePar = s.chargePar ∧
    (raiseDockNotice grantEvent old cause s).dirtPar = s.dirtPar ∧
    (raiseDockNotice grantEvent old cause s).idleSleepS = s.idleSleepS ∧
    (raiseDockNotice grantEvent old cause s).pending = s.pending := by simp [raiseDockNotice]
@[simp] theorem startExchange_frame (m : DockMsg) (s : State) : (startExchange m s).trg = s.trg ∧
    (startExchange m s).drs = s.drs ∧ (startExchange m s).mdr = s.mdr ∧ (startExchange m s).srg = s.srg ∧
    (startExchange m s).sbt = s.sbt ∧ (startExchange m s).blm = s.blm ∧ (startExchange m s).dse = s.dse ∧
    (startExchange m s).pkm = s.pkm ∧ (startExchange m s).gge = s.gge ∧ (startExchange m s).chc = s.chc ∧
    (startExchange m s).icn = s.icn ∧ (startExchange m s).fmg = s.fmg ∧ (startExchange m s).mpt = s.mpt ∧
    (startExchange m s).slc = s.slc ∧ (startExchange m s).motorPar = s.motorPar ∧
    (startExchange m s).blockPar = s.blockPar ∧ (startExchange m s).packPar = s.packPar ∧
    (startExchange m s).chargePar = s.chargePar ∧ (startExchange m s).dirtPar = s.dirtPar ∧
    (startExchange m s).idleSleepS = s.idleSleepS ∧ (startExchange m s).pending = s.pending := by simp [startExchange]
@[simp] theorem sendRequest_frame (r : DueRequest) (s : State) : (sendRequest r s).trg = s.trg ∧
    (sendRequest r s).drs = s.drs ∧ (sendRequest r s).mdr = s.mdr ∧ (sendRequest r s).srg = s.srg ∧
    (sendRequest r s).sbt = s.sbt ∧ (sendRequest r s).blm = s.blm ∧ (sendRequest r s).dse = s.dse ∧
    (sendRequest r s).pkm = s.pkm ∧ (sendRequest r s).gge = s.gge ∧ (sendRequest r s).chc = s.chc ∧
    (sendRequest r s).icn = s.icn ∧ (sendRequest r s).fmg = s.fmg ∧ (sendRequest r s).mpt = s.mpt ∧
    (sendRequest r s).slc = s.slc ∧ (sendRequest r s).motorPar = s.motorPar ∧
    (sendRequest r s).blockPar = s.blockPar ∧ (sendRequest r s).packPar = s.packPar ∧
    (sendRequest r s).chargePar = s.chargePar ∧ (sendRequest r s).dirtPar = s.dirtPar ∧
    (sendRequest r s).idleSleepS = s.idleSleepS ∧ (sendRequest r s).pending = s.pending := by simp [sendRequest]
@[simp] theorem sendDue_frame (s : State) : (sendDue s).trg = s.trg ∧ (sendDue s).drs = s.drs ∧
    (sendDue s).mdr = s.mdr ∧ (sendDue s).srg = s.srg ∧ (sendDue s).sbt = s.sbt ∧ (sendDue s).blm = s.blm ∧
    (sendDue s).dse = s.dse ∧ (sendDue s).pkm = s.pkm ∧ (sendDue s).gge = s.gge ∧ (sendDue s).chc = s.chc ∧
    (sendDue s).icn = s.icn ∧ (sendDue s).fmg = s.fmg ∧ (sendDue s).mpt = s.mpt ∧ (sendDue s).slc = s.slc ∧
    (sendDue s).motorPar = s.motorPar ∧ (sendDue s).blockPar = s.blockPar ∧ (sendDue s).packPar = s.packPar ∧
    (sendDue s).chargePar = s.chargePar ∧ (sendDue s).dirtPar = s.dirtPar ∧ (sendDue s).idleSleepS = s.idleSleepS ∧
    (sendDue s).pending = s.pending := by
  unfold sendDue
  repeat' split
  all_goals simp
@[simp] theorem requestDue_frame (forKeep : Bool) (s : State) : (requestDue forKeep s).trg = s.trg ∧
    (requestDue forKeep s).drs = s.drs ∧ (requestDue forKeep s).mdr = s.mdr ∧ (requestDue forKeep s).srg = s.srg ∧
    (requestDue forKeep s).sbt = s.sbt ∧ (requestDue forKeep s).blm = s.blm ∧ (requestDue forKeep s).dse = s.dse ∧
    (requestDue forKeep s).pkm = s.pkm ∧ (requestDue forKeep s).gge = s.gge ∧ (requestDue forKeep s).chc = s.chc ∧
    (requestDue forKeep s).icn = s.icn ∧ (requestDue forKeep s).fmg = s.fmg ∧ (requestDue forKeep s).mpt = s.mpt ∧
    (requestDue forKeep s).slc = s.slc ∧ (requestDue forKeep s).motorPar = s.motorPar ∧
    (requestDue forKeep s).blockPar = s.blockPar ∧ (requestDue forKeep s).packPar = s.packPar ∧
    (requestDue forKeep s).chargePar = s.chargePar ∧ (requestDue forKeep s).dirtPar = s.dirtPar ∧
    (requestDue forKeep s).idleSleepS = s.idleSleepS ∧ (requestDue forKeep s).pending = s.pending := by simp [requestDue]
@[simp] theorem handRelease_frame (r : ReleaseReason) (s : State) : (handRelease r s).trg = s.trg ∧
    (handRelease r s).drs = s.drs ∧ (handRelease r s).mdr = s.mdr ∧ (handRelease r s).srg = s.srg ∧
    (handRelease r s).sbt = s.sbt ∧ (handRelease r s).blm = s.blm ∧ (handRelease r s).dse = s.dse ∧
    (handRelease r s).pkm = s.pkm ∧ (handRelease r s).gge = s.gge ∧ (handRelease r s).chc = s.chc ∧
    (handRelease r s).fmg = s.fmg ∧ (handRelease r s).slc = s.slc ∧ (handRelease r s).motorPar = s.motorPar ∧
    (handRelease r s).blockPar = s.blockPar ∧ (handRelease r s).packPar = s.packPar ∧
    (handRelease r s).chargePar = s.chargePar ∧ (handRelease r s).dirtPar = s.dirtPar ∧
    (handRelease r s).idleSleepS = s.idleSleepS ∧ (handRelease r s).pending = s.pending := by
  unfold handRelease
  dsimp only
  repeat' split
  all_goals simp
@[simp] theorem qualifyEntered_frame (s : State) : (qualifyEntered s).trg = s.trg ∧ (qualifyEntered s).drs = s.drs ∧
    (qualifyEntered s).mdr = s.mdr ∧ (qualifyEntered s).srg = s.srg ∧ (qualifyEntered s).sbt = s.sbt ∧
    (qualifyEntered s).blm = s.blm ∧ (qualifyEntered s).dse = s.dse ∧ (qualifyEntered s).pkm = s.pkm ∧
    (qualifyEntered s).gge = s.gge ∧ (qualifyEntered s).chc = s.chc ∧ (qualifyEntered s).icn = s.icn ∧
    (qualifyEntered s).fmg = s.fmg ∧ (qualifyEntered s).mpt = s.mpt ∧ (qualifyEntered s).slc = s.slc ∧
    (qualifyEntered s).motorPar = s.motorPar ∧ (qualifyEntered s).blockPar = s.blockPar ∧
    (qualifyEntered s).packPar = s.packPar ∧ (qualifyEntered s).chargePar = s.chargePar ∧
    (qualifyEntered s).dirtPar = s.dirtPar ∧ (qualifyEntered s).idleSleepS = s.idleSleepS ∧
    (qualifyEntered s).pending = s.pending := by unfold qualifyEntered; split <;> simp

/-! ### The Charge Controller -/

@[simp] theorem raiseChargeNotice_frame (old : ChargeState) (cause : ChargeCause) (s : State) :
    (raiseChargeNotice old cause s).trg = s.trg ∧ (raiseChargeNotice old cause s).drs = s.drs ∧
    (raiseChargeNotice old cause s).mdr = s.mdr ∧ (raiseChargeNotice old cause s).srg = s.srg ∧
    (raiseChargeNotice old cause s).sbt = s.sbt ∧ (raiseChargeNotice old cause s).blm = s.blm ∧
    (raiseChargeNotice old cause s).dse = s.dse ∧ (raiseChargeNotice old cause s).pkm = s.pkm ∧
    (raiseChargeNotice old cause s).gge = s.gge ∧ (raiseChargeNotice old cause s).chc = s.chc ∧
    (raiseChargeNotice old cause s).dlk = s.dlk ∧ (raiseChargeNotice old cause s).fmg = s.fmg ∧
    (raiseChargeNotice old cause s).slc = s.slc ∧ (raiseChargeNotice old cause s).motorPar = s.motorPar ∧
    (raiseChargeNotice old cause s).blockPar = s.blockPar ∧ (raiseChargeNotice old cause s).packPar = s.packPar ∧
    (raiseChargeNotice old cause s).chargePar = s.chargePar ∧ (raiseChargeNotice old cause s).dirtPar = s.dirtPar ∧
    (raiseChargeNotice old cause s).idleSleepS = s.idleSleepS ∧ (raiseChargeNotice old cause s).pending = s.pending := by simp [raiseChargeNotice]
@[simp] theorem changeCharge_frame (new : ChargeState) (cause : ChargeCause) (suspend : SuspendSet) (s : State) :
    (changeCharge new cause suspend s).trg = s.trg ∧ (changeCharge new cause suspend s).mdr = s.mdr ∧
    (changeCharge new cause suspend s).srg = s.srg ∧ (changeCharge new cause suspend s).sbt = s.sbt ∧
    (changeCharge new cause suspend s).blm = s.blm ∧ (changeCharge new cause suspend s).dse = s.dse ∧
    (changeCharge new cause suspend s).gge = s.gge ∧ (changeCharge new cause suspend s).fmg = s.fmg ∧
    (changeCharge new cause suspend s).slc = s.slc ∧ (changeCharge new cause suspend s).motorPar = s.motorPar ∧
    (changeCharge new cause suspend s).blockPar = s.blockPar ∧
    (changeCharge new cause suspend s).packPar = s.packPar ∧
    (changeCharge new cause suspend s).chargePar = s.chargePar ∧
    (changeCharge new cause suspend s).dirtPar = s.dirtPar ∧
    (changeCharge new cause suspend s).idleSleepS = s.idleSleepS ∧
    (changeCharge new cause suspend s).pending = s.pending := by
  unfold changeCharge
  dsimp only
  repeat' split
  all_goals simp
@[simp] theorem enterSuspend_frame (temp : Bool) (s : State) : (enterSuspend temp s).trg = s.trg ∧
    (enterSuspend temp s).mdr = s.mdr ∧ (enterSuspend temp s).srg = s.srg ∧ (enterSuspend temp s).sbt = s.sbt ∧
    (enterSuspend temp s).blm = s.blm ∧ (enterSuspend temp s).dse = s.dse ∧ (enterSuspend temp s).gge = s.gge ∧
    (enterSuspend temp s).fmg = s.fmg ∧ (enterSuspend temp s).slc = s.slc ∧
    (enterSuspend temp s).motorPar = s.motorPar ∧ (enterSuspend temp s).blockPar = s.blockPar ∧
    (enterSuspend temp s).packPar = s.packPar ∧ (enterSuspend temp s).chargePar = s.chargePar ∧
    (enterSuspend temp s).dirtPar = s.dirtPar ∧ (enterSuspend temp s).idleSleepS = s.idleSleepS ∧
    (enterSuspend temp s).pending = s.pending := by simp [enterSuspend]
@[simp] theorem enterChargeFault_frame (k : FaultKind) (s : State) : (enterChargeFault k s).trg = s.trg ∧
    (enterChargeFault k s).mdr = s.mdr ∧ (enterChargeFault k s).srg = s.srg ∧ (enterChargeFault k s).sbt = s.sbt ∧
    (enterChargeFault k s).blm = s.blm ∧ (enterChargeFault k s).dse = s.dse ∧ (enterChargeFault k s).gge = s.gge ∧
    (enterChargeFault k s).fmg = s.fmg ∧ (enterChargeFault k s).slc = s.slc ∧
    (enterChargeFault k s).motorPar = s.motorPar ∧ (enterChargeFault k s).blockPar = s.blockPar ∧
    (enterChargeFault k s).packPar = s.packPar ∧ (enterChargeFault k s).chargePar = s.chargePar ∧
    (enterChargeFault k s).dirtPar = s.dirtPar ∧ (enterChargeFault k s).idleSleepS = s.idleSleepS ∧
    (enterChargeFault k s).pending = s.pending := by unfold enterChargeFault; split <;> simp
@[simp] theorem raiseChargeStop_frame (k : FaultKind) (d : Detail) (s : State) : (raiseChargeStop k d s).trg = s.trg ∧
    (raiseChargeStop k d s).mdr = s.mdr ∧ (raiseChargeStop k d s).srg = s.srg ∧ (raiseChargeStop k d s).sbt = s.sbt ∧
    (raiseChargeStop k d s).blm = s.blm ∧ (raiseChargeStop k d s).dse = s.dse ∧ (raiseChargeStop k d s).gge = s.gge ∧
    (raiseChargeStop k d s).slc = s.slc ∧ (raiseChargeStop k d s).motorPar = s.motorPar ∧
    (raiseChargeStop k d s).blockPar = s.blockPar ∧ (raiseChargeStop k d s).packPar = s.packPar ∧
    (raiseChargeStop k d s).chargePar = s.chargePar ∧ (raiseChargeStop k d s).dirtPar = s.dirtPar ∧
    (raiseChargeStop k d s).idleSleepS = s.idleSleepS ∧ (raiseChargeStop k d s).pending = s.pending := by simp [raiseChargeStop]
@[simp] theorem enterDone_frame (cause : ChargeCause) (s : State) : (enterDone cause s).trg = s.trg ∧
    (enterDone cause s).mdr = s.mdr ∧ (enterDone cause s).srg = s.srg ∧ (enterDone cause s).sbt = s.sbt ∧
    (enterDone cause s).blm = s.blm ∧ (enterDone cause s).dse = s.dse ∧ (enterDone cause s).fmg = s.fmg ∧
    (enterDone cause s).slc = s.slc ∧ (enterDone cause s).motorPar = s.motorPar ∧
    (enterDone cause s).blockPar = s.blockPar ∧ (enterDone cause s).packPar = s.packPar ∧
    (enterDone cause s).chargePar = s.chargePar ∧ (enterDone cause s).dirtPar = s.dirtPar ∧
    (enterDone cause s).idleSleepS = s.idleSleepS ∧ (enterDone cause s).pending = s.pending := by simp [enterDone]
@[simp] theorem judgeQualify_frame (s : State) : (judgeQualify s).trg = s.trg ∧ (judgeQualify s).mdr = s.mdr ∧
    (judgeQualify s).srg = s.srg ∧ (judgeQualify s).sbt = s.sbt ∧ (judgeQualify s).blm = s.blm ∧
    (judgeQualify s).dse = s.dse ∧ (judgeQualify s).gge = s.gge ∧ (judgeQualify s).slc = s.slc ∧
    (judgeQualify s).motorPar = s.motorPar ∧ (judgeQualify s).blockPar = s.blockPar ∧
    (judgeQualify s).packPar = s.packPar ∧ (judgeQualify s).chargePar = s.chargePar ∧
    (judgeQualify s).dirtPar = s.dirtPar ∧ (judgeQualify s).idleSleepS = s.idleSleepS ∧
    (judgeQualify s).pending = s.pending := by
  unfold judgeQualify
  repeat' split
  all_goals simp
@[simp] theorem capSetpoint_frame (s : State) : (capSetpoint s).trg = s.trg ∧ (capSetpoint s).drs = s.drs ∧
    (capSetpoint s).mdr = s.mdr ∧ (capSetpoint s).srg = s.srg ∧ (capSetpoint s).sbt = s.sbt ∧
    (capSetpoint s).blm = s.blm ∧ (capSetpoint s).dse = s.dse ∧ (capSetpoint s).pkm = s.pkm ∧
    (capSetpoint s).gge = s.gge ∧ (capSetpoint s).dlk = s.dlk ∧ (capSetpoint s).icn = s.icn ∧
    (capSetpoint s).fmg = s.fmg ∧ (capSetpoint s).mpt = s.mpt ∧ (capSetpoint s).slc = s.slc ∧
    (capSetpoint s).motorPar = s.motorPar ∧ (capSetpoint s).blockPar = s.blockPar ∧
    (capSetpoint s).packPar = s.packPar ∧ (capSetpoint s).chargePar = s.chargePar ∧
    (capSetpoint s).dirtPar = s.dirtPar ∧ (capSetpoint s).idleSleepS = s.idleSleepS ∧
    (capSetpoint s).pending = s.pending := by simp [capSetpoint]
@[simp] theorem resumeIfClear_frame (s : State) : (resumeIfClear s).trg = s.trg ∧ (resumeIfClear s).mdr = s.mdr ∧
    (resumeIfClear s).srg = s.srg ∧ (resumeIfClear s).sbt = s.sbt ∧ (resumeIfClear s).blm = s.blm ∧
    (resumeIfClear s).dse = s.dse ∧ (resumeIfClear s).gge = s.gge ∧ (resumeIfClear s).fmg = s.fmg ∧
    (resumeIfClear s).slc = s.slc ∧ (resumeIfClear s).motorPar = s.motorPar ∧
    (resumeIfClear s).blockPar = s.blockPar ∧ (resumeIfClear s).packPar = s.packPar ∧
    (resumeIfClear s).chargePar = s.chargePar ∧ (resumeIfClear s).dirtPar = s.dirtPar ∧
    (resumeIfClear s).idleSleepS = s.idleSleepS ∧ (resumeIfClear s).pending = s.pending := by unfold resumeIfClear; split <;> simp
@[simp] theorem grantDelivered_frame (s : State) : (grantDelivered s).trg = s.trg ∧ (grantDelivered s).mdr = s.mdr ∧
    (grantDelivered s).srg = s.srg ∧ (grantDelivered s).sbt = s.sbt ∧ (grantDelivered s).blm = s.blm ∧
    (grantDelivered s).dse = s.dse ∧ (grantDelivered s).gge = s.gge ∧ (grantDelivered s).slc = s.slc ∧
    (grantDelivered s).motorPar = s.motorPar ∧ (grantDelivered s).blockPar = s.blockPar ∧
    (grantDelivered s).packPar = s.packPar ∧ (grantDelivered s).chargePar = s.chargePar ∧
    (grantDelivered s).dirtPar = s.dirtPar ∧ (grantDelivered s).idleSleepS = s.idleSleepS ∧
    (grantDelivered s).pending = s.pending := by
  unfold grantDelivered
  dsimp only
  repeat' split
  all_goals simp
@[simp] theorem dockGone_frame (s : State) : (dockGone s).trg = s.trg ∧ (dockGone s).mdr = s.mdr ∧
    (dockGone s).srg = s.srg ∧ (dockGone s).sbt = s.sbt ∧ (dockGone s).blm = s.blm ∧ (dockGone s).dse = s.dse ∧
    (dockGone s).gge = s.gge ∧ (dockGone s).fmg = s.fmg ∧ (dockGone s).slc = s.slc ∧
    (dockGone s).motorPar = s.motorPar ∧ (dockGone s).blockPar = s.blockPar ∧ (dockGone s).packPar = s.packPar ∧
    (dockGone s).chargePar = s.chargePar ∧ (dockGone s).dirtPar = s.dirtPar ∧ (dockGone s).idleSleepS = s.idleSleepS ∧
    (dockGone s).pending = s.pending := by unfold dockGone; split <;> simp
@[simp] theorem dockSeen_frame (s : State) : (dockSeen s).trg = s.trg ∧ (dockSeen s).mdr = s.mdr ∧
    (dockSeen s).srg = s.srg ∧ (dockSeen s).sbt = s.sbt ∧ (dockSeen s).blm = s.blm ∧ (dockSeen s).dse = s.dse ∧
    (dockSeen s).gge = s.gge ∧ (dockSeen s).fmg = s.fmg ∧ (dockSeen s).slc = s.slc ∧
    (dockSeen s).motorPar = s.motorPar ∧ (dockSeen s).blockPar = s.blockPar ∧ (dockSeen s).packPar = s.packPar ∧
    (dockSeen s).chargePar = s.chargePar ∧ (dockSeen s).dirtPar = s.dirtPar ∧ (dockSeen s).idleSleepS = s.idleSleepS ∧
    (dockSeen s).pending = s.pending := by unfold dockSeen; split <;> simp
@[simp] theorem handBleed_frame (set : Seven Bool) (s : State) : (handBleed set s).trg = s.trg ∧
    (handBleed set s).drs = s.drs ∧ (handBleed set s).mdr = s.mdr ∧ (handBleed set s).srg = s.srg ∧
    (handBleed set s).sbt = s.sbt ∧ (handBleed set s).blm = s.blm ∧ (handBleed set s).dse = s.dse ∧
    (handBleed set s).gge = s.gge ∧ (handBleed set s).dlk = s.dlk ∧ (handBleed set s).icn = s.icn ∧
    (handBleed set s).fmg = s.fmg ∧ (handBleed set s).mpt = s.mpt ∧ (handBleed set s).slc = s.slc ∧
    (handBleed set s).motorPar = s.motorPar ∧ (handBleed set s).blockPar = s.blockPar ∧
    (handBleed set s).packPar = s.packPar ∧ (handBleed set s).chargePar = s.chargePar ∧
    (handBleed set s).dirtPar = s.dirtPar ∧ (handBleed set s).idleSleepS = s.idleSleepS ∧
    (handBleed set s).pending = s.pending := by simp [handBleed]
@[simp] theorem cvStep_frame (measured : Int) (s : State) : (cvStep measured s).trg = s.trg ∧
    (cvStep measured s).mdr = s.mdr ∧ (cvStep measured s).srg = s.srg ∧ (cvStep measured s).sbt = s.sbt ∧
    (cvStep measured s).blm = s.blm ∧ (cvStep measured s).dse = s.dse ∧ (cvStep measured s).fmg = s.fmg ∧
    (cvStep measured s).slc = s.slc ∧ (cvStep measured s).motorPar = s.motorPar ∧
    (cvStep measured s).blockPar = s.blockPar ∧ (cvStep measured s).packPar = s.packPar ∧
    (cvStep measured s).chargePar = s.chargePar ∧ (cvStep measured s).dirtPar = s.dirtPar ∧
    (cvStep measured s).idleSleepS = s.idleSleepS ∧ (cvStep measured s).pending = s.pending := by
  unfold cvStep
  dsimp only
  repeat' split
  all_goals simp
@[simp] theorem balanceStep_frame (s : State) : (balanceStep s).trg = s.trg ∧ (balanceStep s).mdr = s.mdr ∧
    (balanceStep s).srg = s.srg ∧ (balanceStep s).sbt = s.sbt ∧ (balanceStep s).blm = s.blm ∧
    (balanceStep s).dse = s.dse ∧ (balanceStep s).fmg = s.fmg ∧ (balanceStep s).slc = s.slc ∧
    (balanceStep s).motorPar = s.motorPar ∧ (balanceStep s).blockPar = s.blockPar ∧
    (balanceStep s).packPar = s.packPar ∧ (balanceStep s).chargePar = s.chargePar ∧
    (balanceStep s).dirtPar = s.dirtPar ∧ (balanceStep s).idleSleepS = s.idleSleepS ∧
    (balanceStep s).pending = s.pending := by unfold balanceStep; dsimp only; split <;> simp
@[simp] theorem stateStep_frame (measured : Int) (s : State) : (stateStep measured s).trg = s.trg ∧
    (stateStep measured s).mdr = s.mdr ∧ (stateStep measured s).srg = s.srg ∧ (stateStep measured s).sbt = s.sbt ∧
    (stateStep measured s).blm = s.blm ∧ (stateStep measured s).dse = s.dse ∧ (stateStep measured s).slc = s.slc ∧
    (stateStep measured s).motorPar = s.motorPar ∧ (stateStep measured s).blockPar = s.blockPar ∧
    (stateStep measured s).packPar = s.packPar ∧ (stateStep measured s).chargePar = s.chargePar ∧
    (stateStep measured s).dirtPar = s.dirtPar ∧ (stateStep measured s).idleSleepS = s.idleSleepS ∧
    (stateStep measured s).pending = s.pending := by
  unfold stateStep
  repeat' split
  all_goals simp
@[simp] theorem suspendStep_frame (s : State) : (suspendStep s).trg = s.trg ∧ (suspendStep s).mdr = s.mdr ∧
    (suspendStep s).srg = s.srg ∧ (suspendStep s).sbt = s.sbt ∧ (suspendStep s).blm = s.blm ∧
    (suspendStep s).dse = s.dse ∧ (suspendStep s).gge = s.gge ∧ (suspendStep s).fmg = s.fmg ∧
    (suspendStep s).slc = s.slc ∧ (suspendStep s).motorPar = s.motorPar ∧ (suspendStep s).blockPar = s.blockPar ∧
    (suspendStep s).packPar = s.packPar ∧ (suspendStep s).chargePar = s.chargePar ∧
    (suspendStep s).dirtPar = s.dirtPar ∧ (suspendStep s).idleSleepS = s.idleSleepS ∧
    (suspendStep s).pending = s.pending := by simp [suspendStep]
@[simp] theorem stageTest_frame (measured : Int) (s : State) : (stageTest measured s).trg = s.trg ∧
    (stageTest measured s).mdr = s.mdr ∧ (stageTest measured s).srg = s.srg ∧ (stageTest measured s).sbt = s.sbt ∧
    (stageTest measured s).blm = s.blm ∧ (stageTest measured s).dse = s.dse ∧ (stageTest measured s).gge = s.gge ∧
    (stageTest measured s).slc = s.slc ∧ (stageTest measured s).motorPar = s.motorPar ∧
    (stageTest measured s).blockPar = s.blockPar ∧ (stageTest measured s).packPar = s.packPar ∧
    (stageTest measured s).chargePar = s.chargePar ∧ (stageTest measured s).dirtPar = s.dirtPar ∧
    (stageTest measured s).idleSleepS = s.idleSleepS ∧ (stageTest measured s).pending = s.pending := by
  unfold stageTest
  dsimp only
  repeat' split
  all_goals simp
@[simp] theorem chargeScan_frame (s : State) : (chargeScan s).trg = s.trg ∧ (chargeScan s).mdr = s.mdr ∧
    (chargeScan s).srg = s.srg ∧ (chargeScan s).sbt = s.sbt ∧ (chargeScan s).blm = s.blm ∧
    (chargeScan s).dse = s.dse ∧ (chargeScan s).slc = s.slc ∧ (chargeScan s).motorPar = s.motorPar ∧
    (chargeScan s).blockPar = s.blockPar ∧ (chargeScan s).packPar = s.packPar ∧
    (chargeScan s).chargePar = s.chargePar ∧ (chargeScan s).dirtPar = s.dirtPar ∧
    (chargeScan s).idleSleepS = s.idleSleepS ∧ (chargeScan s).pending = s.pending := by
  unfold chargeScan
  dsimp only
  repeat' split
  all_goals simp

/-! ### The Speed Band Table -/

@[simp] theorem lookupAdvance_frame (s : State) : (lookupAdvance s).2.trg = s.trg ∧ (lookupAdvance s).2.drs = s.drs ∧
    (lookupAdvance s).2.mdr = s.mdr ∧ (lookupAdvance s).2.srg = s.srg ∧ (lookupAdvance s).2.blm = s.blm ∧
    (lookupAdvance s).2.dse = s.dse ∧ (lookupAdvance s).2.pkm = s.pkm ∧ (lookupAdvance s).2.gge = s.gge ∧
    (lookupAdvance s).2.chc = s.chc ∧ (lookupAdvance s).2.dlk = s.dlk ∧ (lookupAdvance s).2.icn = s.icn ∧
    (lookupAdvance s).2.fmg = s.fmg ∧ (lookupAdvance s).2.mpt = s.mpt ∧ (lookupAdvance s).2.slc = s.slc ∧
    (lookupAdvance s).2.motorPar = s.motorPar ∧ (lookupAdvance s).2.blockPar = s.blockPar ∧
    (lookupAdvance s).2.packPar = s.packPar ∧ (lookupAdvance s).2.chargePar = s.chargePar ∧
    (lookupAdvance s).2.dirtPar = s.dirtPar ∧ (lookupAdvance s).2.idleSleepS = s.idleSleepS ∧
    (lookupAdvance s).2.pending = s.pending := by simp [lookupAdvance]
/-- Learning either leaves the part alone or writes the table (R65). -/
theorem learnSample_eq (sample : Sample) (s : State) :
    learnSample sample s = s ∨ ∃ table, learnSample sample s = s.setSbt table := by
  unfold learnSample
  split
  · exact .inr ⟨_, rfl⟩
  · exact .inl rfl

@[simp] theorem learnSample_frame (sample : Sample) (s : State) : (learnSample sample s).trg = s.trg ∧
    (learnSample sample s).drs = s.drs ∧ (learnSample sample s).mdr = s.mdr ∧ (learnSample sample s).srg = s.srg ∧
    (learnSample sample s).blm = s.blm ∧ (learnSample sample s).dse = s.dse ∧ (learnSample sample s).pkm = s.pkm ∧
    (learnSample sample s).gge = s.gge ∧ (learnSample sample s).chc = s.chc ∧ (learnSample sample s).dlk = s.dlk ∧
    (learnSample sample s).icn = s.icn ∧ (learnSample sample s).fmg = s.fmg ∧ (learnSample sample s).mpt = s.mpt ∧
    (learnSample sample s).slc = s.slc ∧ (learnSample sample s).motorPar = s.motorPar ∧
    (learnSample sample s).blockPar = s.blockPar ∧ (learnSample sample s).packPar = s.packPar ∧
    (learnSample sample s).chargePar = s.chargePar ∧ (learnSample sample s).dirtPar = s.dirtPar ∧
    (learnSample sample s).idleSleepS = s.idleSleepS ∧ (learnSample sample s).pending = s.pending := by
  obtain h | ⟨table, h⟩ := learnSample_eq sample s <;> simp [h]

/-! ### The Blockage Monitor -/

@[simp] theorem setBlockage_frame (b : Blm) (s : State) : (setBlockage b s).trg = s.trg ∧
    (setBlockage b s).mdr = s.mdr ∧ (setBlockage b s).srg = s.srg ∧ (setBlockage b s).sbt = s.sbt ∧
    (setBlockage b s).dse = s.dse ∧ (setBlockage b s).pkm = s.pkm ∧ (setBlockage b s).gge = s.gge ∧
    (setBlockage b s).chc = s.chc ∧ (setBlockage b s).dlk = s.dlk ∧ (setBlockage b s).icn = s.icn ∧
    (setBlockage b s).fmg = s.fmg ∧ (setBlockage b s).mpt = s.mpt ∧ (setBlockage b s).slc = s.slc ∧
    (setBlockage b s).motorPar = s.motorPar ∧ (setBlockage b s).blockPar = s.blockPar ∧
    (setBlockage b s).packPar = s.packPar ∧ (setBlockage b s).chargePar = s.chargePar ∧
    (setBlockage b s).dirtPar = s.dirtPar ∧ (setBlockage b s).idleSleepS = s.idleSleepS ∧
    (setBlockage b s).pending = s.pending := by simp [setBlockage]
@[simp] theorem raiseBlockageNotice_frame (e : SetEvent) (r : BlockageReason) (s : State) :
    (raiseBlockageNotice e r s).trg = s.trg ∧ (raiseBlockageNotice e r s).drs = s.drs ∧
    (raiseBlockageNotice e r s).mdr = s.mdr ∧ (raiseBlockageNotice e r s).srg = s.srg ∧
    (raiseBlockageNotice e r s).sbt = s.sbt ∧ (raiseBlockageNotice e r s).blm = s.blm ∧
    (raiseBlockageNotice e r s).dse = s.dse ∧ (raiseBlockageNotice e r s).pkm = s.pkm ∧
    (raiseBlockageNotice e r s).gge = s.gge ∧ (raiseBlockageNotice e r s).chc = s.chc ∧
    (raiseBlockageNotice e r s).dlk = s.dlk ∧ (raiseBlockageNotice e r s).fmg = s.fmg ∧
    (raiseBlockageNotice e r s).slc = s.slc ∧ (raiseBlockageNotice e r s).motorPar = s.motorPar ∧
    (raiseBlockageNotice e r s).blockPar = s.blockPar ∧ (raiseBlockageNotice e r s).packPar = s.packPar ∧
    (raiseBlockageNotice e r s).chargePar = s.chargePar ∧ (raiseBlockageNotice e r s).dirtPar = s.dirtPar ∧
    (raiseBlockageNotice e r s).idleSleepS = s.idleSleepS ∧ (raiseBlockageNotice e r s).pending = s.pending := by simp [raiseBlockageNotice]
@[simp] theorem judgeSample_frame (sample : Sample) (reference : Option Nat) (s : State) :
    (judgeSample sample reference s).trg = s.trg ∧ (judgeSample sample reference s).mdr = s.mdr ∧
    (judgeSample sample reference s).srg = s.srg ∧ (judgeSample sample reference s).sbt = s.sbt ∧
    (judgeSample sample reference s).dse = s.dse ∧ (judgeSample sample reference s).pkm = s.pkm ∧
    (judgeSample sample reference s).gge = s.gge ∧ (judgeSample sample reference s).chc = s.chc ∧
    (judgeSample sample reference s).dlk = s.dlk ∧ (judgeSample sample reference s).icn = s.icn ∧
    (judgeSample sample reference s).fmg = s.fmg ∧ (judgeSample sample reference s).mpt = s.mpt ∧
    (judgeSample sample reference s).slc = s.slc ∧ (judgeSample sample reference s).motorPar = s.motorPar ∧
    (judgeSample sample reference s).blockPar = s.blockPar ∧ (judgeSample sample reference s).packPar = s.packPar ∧
    (judgeSample sample reference s).chargePar = s.chargePar ∧ (judgeSample sample reference s).dirtPar = s.dirtPar ∧
    (judgeSample sample reference s).idleSleepS = s.idleSleepS ∧ (judgeSample sample reference s).pending = s.pending := by
  unfold judgeSample
  dsimp only
  repeat' split
  all_goals simp
@[simp] theorem clearBlockage_frame (r : BlockageReason) (s : State) : (clearBlockage r s).trg = s.trg ∧
    (clearBlockage r s).mdr = s.mdr ∧ (clearBlockage r s).srg = s.srg ∧ (clearBlockage r s).sbt = s.sbt ∧
    (clearBlockage r s).dse = s.dse ∧ (clearBlockage r s).pkm = s.pkm ∧ (clearBlockage r s).gge = s.gge ∧
    (clearBlockage r s).chc = s.chc ∧ (clearBlockage r s).dlk = s.dlk ∧ (clearBlockage r s).fmg = s.fmg ∧
    (clearBlockage r s).slc = s.slc ∧ (clearBlockage r s).motorPar = s.motorPar ∧
    (clearBlockage r s).blockPar = s.blockPar ∧ (clearBlockage r s).packPar = s.packPar ∧
    (clearBlockage r s).chargePar = s.chargePar ∧ (clearBlockage r s).dirtPar = s.dirtPar ∧
    (clearBlockage r s).idleSleepS = s.idleSleepS ∧ (clearBlockage r s).pending = s.pending := by simp [clearBlockage]
@[simp] theorem blockageEnterRun_frame (s : State) : (blockageEnterRun s).trg = s.trg ∧
    (blockageEnterRun s).drs = s.drs ∧ (blockageEnterRun s).mdr = s.mdr ∧ (blockageEnterRun s).srg = s.srg ∧
    (blockageEnterRun s).sbt = s.sbt ∧ (blockageEnterRun s).dse = s.dse ∧ (blockageEnterRun s).pkm = s.pkm ∧
    (blockageEnterRun s).gge = s.gge ∧ (blockageEnterRun s).chc = s.chc ∧ (blockageEnterRun s).dlk = s.dlk ∧
    (blockageEnterRun s).icn = s.icn ∧ (blockageEnterRun s).fmg = s.fmg ∧ (blockageEnterRun s).mpt = s.mpt ∧
    (blockageEnterRun s).slc = s.slc ∧ (blockageEnterRun s).motorPar = s.motorPar ∧
    (blockageEnterRun s).blockPar = s.blockPar ∧ (blockageEnterRun s).packPar = s.packPar ∧
    (blockageEnterRun s).chargePar = s.chargePar ∧ (blockageEnterRun s).dirtPar = s.dirtPar ∧
    (blockageEnterRun s).idleSleepS = s.idleSleepS ∧ (blockageEnterRun s).pending = s.pending := by simp [blockageEnterRun]
@[simp] theorem blockageLeaveRun_frame (s : State) : (blockageLeaveRun s).trg = s.trg ∧
    (blockageLeaveRun s).mdr = s.mdr ∧ (blockageLeaveRun s).srg = s.srg ∧ (blockageLeaveRun s).sbt = s.sbt ∧
    (blockageLeaveRun s).dse = s.dse ∧ (blockageLeaveRun s).pkm = s.pkm ∧ (blockageLeaveRun s).gge = s.gge ∧
    (blockageLeaveRun s).chc = s.chc ∧ (blockageLeaveRun s).dlk = s.dlk ∧ (blockageLeaveRun s).fmg = s.fmg ∧
    (blockageLeaveRun s).slc = s.slc ∧ (blockageLeaveRun s).motorPar = s.motorPar ∧
    (blockageLeaveRun s).blockPar = s.blockPar ∧ (blockageLeaveRun s).packPar = s.packPar ∧
    (blockageLeaveRun s).chargePar = s.chargePar ∧ (blockageLeaveRun s).dirtPar = s.dirtPar ∧
    (blockageLeaveRun s).idleSleepS = s.idleSleepS ∧ (blockageLeaveRun s).pending = s.pending := by unfold blockageLeaveRun; dsimp only; split <;> simp

/-! ### The Speed Regulator -/

@[simp] theorem deliverSample_frame (sample : Sample) (s : State) : (deliverSample sample s).trg = s.trg ∧
    (deliverSample sample s).mdr = s.mdr ∧ (deliverSample sample s).srg = s.srg ∧
    (deliverSample sample s).pkm = s.pkm ∧ (deliverSample sample s).gge = s.gge ∧
    (deliverSample sample s).chc = s.chc ∧ (deliverSample sample s).dlk = s.dlk ∧
    (deliverSample sample s).fmg = s.fmg ∧ (deliverSample sample s).slc = s.slc ∧
    (deliverSample sample s).motorPar = s.motorPar ∧ (deliverSample sample s).blockPar = s.blockPar ∧
    (deliverSample sample s).packPar = s.packPar ∧ (deliverSample sample s).chargePar = s.chargePar ∧
    (deliverSample sample s).dirtPar = s.dirtPar ∧ (deliverSample sample s).idleSleepS = s.idleSleepS ∧
    (deliverSample sample s).pending = s.pending := by unfold deliverSample; dsimp only; split <;> simp
@[simp] theorem revolutionEnd_frame (imMean : Int) (s : State) : (revolutionEnd imMean s).trg = s.trg ∧
    (revolutionEnd imMean s).pkm = s.pkm ∧ (revolutionEnd imMean s).gge = s.gge ∧
    (revolutionEnd imMean s).chc = s.chc ∧ (revolutionEnd imMean s).dlk = s.dlk ∧
    (revolutionEnd imMean s).fmg = s.fmg ∧ (revolutionEnd imMean s).slc = s.slc ∧
    (revolutionEnd imMean s).motorPar = s.motorPar ∧ (revolutionEnd imMean s).blockPar = s.blockPar ∧
    (revolutionEnd imMean s).packPar = s.packPar ∧ (revolutionEnd imMean s).chargePar = s.chargePar ∧
    (revolutionEnd imMean s).dirtPar = s.dirtPar ∧ (revolutionEnd imMean s).idleSleepS = s.idleSleepS ∧
    (revolutionEnd imMean s).pending = s.pending := by simp [revolutionEnd]

/-! ### The Motor Drive -/

@[simp] theorem deliverDrs_frame (new : MotorState) (s : State) : (deliverDrs new s).mdr = s.mdr ∧
    (deliverDrs new s).srg = s.srg ∧ (deliverDrs new s).sbt = s.sbt ∧ (deliverDrs new s).blm = s.blm ∧
    (deliverDrs new s).dse = s.dse ∧ (deliverDrs new s).pkm = s.pkm ∧ (deliverDrs new s).gge = s.gge ∧
    (deliverDrs new s).chc = s.chc ∧ (deliverDrs new s).dlk = s.dlk ∧ (deliverDrs new s).fmg = s.fmg ∧
    (deliverDrs new s).slc = s.slc ∧ (deliverDrs new s).motorPar = s.motorPar ∧
    (deliverDrs new s).blockPar = s.blockPar ∧ (deliverDrs new s).packPar = s.packPar ∧
    (deliverDrs new s).chargePar = s.chargePar ∧ (deliverDrs new s).dirtPar = s.dirtPar ∧
    (deliverDrs new s).idleSleepS = s.idleSleepS ∧ (deliverDrs new s).pending = s.pending := by unfold deliverDrs; split <;> simp
@[simp] theorem deliverSrg_frame (new : MotorState) (s : State) : (deliverSrg new s).trg = s.trg ∧
    (deliverSrg new s).drs = s.drs ∧ (deliverSrg new s).mdr = s.mdr ∧ (deliverSrg new s).sbt = s.sbt ∧
    (deliverSrg new s).blm = s.blm ∧ (deliverSrg new s).dse = s.dse ∧ (deliverSrg new s).pkm = s.pkm ∧
    (deliverSrg new s).gge = s.gge ∧ (deliverSrg new s).chc = s.chc ∧ (deliverSrg new s).dlk = s.dlk ∧
    (deliverSrg new s).icn = s.icn ∧ (deliverSrg new s).fmg = s.fmg ∧ (deliverSrg new s).mpt = s.mpt ∧
    (deliverSrg new s).slc = s.slc ∧ (deliverSrg new s).motorPar = s.motorPar ∧
    (deliverSrg new s).blockPar = s.blockPar ∧ (deliverSrg new s).packPar = s.packPar ∧
    (deliverSrg new s).chargePar = s.chargePar ∧ (deliverSrg new s).dirtPar = s.dirtPar ∧
    (deliverSrg new s).idleSleepS = s.idleSleepS ∧ (deliverSrg new s).pending = s.pending := by unfold deliverSrg; split <;> simp
@[simp] theorem deliverBlm_frame (old new : MotorState) (s : State) : (deliverBlm old new s).trg = s.trg ∧
    (deliverBlm old new s).mdr = s.mdr ∧ (deliverBlm old new s).srg = s.srg ∧ (deliverBlm old new s).sbt = s.sbt ∧
    (deliverBlm old new s).dse = s.dse ∧ (deliverBlm old new s).pkm = s.pkm ∧ (deliverBlm old new s).gge = s.gge ∧
    (deliverBlm old new s).chc = s.chc ∧ (deliverBlm old new s).dlk = s.dlk ∧ (deliverBlm old new s).fmg = s.fmg ∧
    (deliverBlm old new s).slc = s.slc ∧ (deliverBlm old new s).motorPar = s.motorPar ∧
    (deliverBlm old new s).blockPar = s.blockPar ∧ (deliverBlm old new s).packPar = s.packPar ∧
    (deliverBlm old new s).chargePar = s.chargePar ∧ (deliverBlm old new s).dirtPar = s.dirtPar ∧
    (deliverBlm old new s).idleSleepS = s.idleSleepS ∧ (deliverBlm old new s).pending = s.pending := by
  unfold deliverBlm
  repeat' split
  all_goals simp
@[simp] theorem deliverDse_frame (old new : MotorState) (s : State) : (deliverDse old new s).trg = s.trg ∧
    (deliverDse old new s).mdr = s.mdr ∧ (deliverDse old new s).srg = s.srg ∧ (deliverDse old new s).sbt = s.sbt ∧
    (deliverDse old new s).blm = s.blm ∧ (deliverDse old new s).pkm = s.pkm ∧ (deliverDse old new s).gge = s.gge ∧
    (deliverDse old new s).chc = s.chc ∧ (deliverDse old new s).dlk = s.dlk ∧ (deliverDse old new s).fmg = s.fmg ∧
    (deliverDse old new s).slc = s.slc ∧ (deliverDse old new s).motorPar = s.motorPar ∧
    (deliverDse old new s).blockPar = s.blockPar ∧ (deliverDse old new s).packPar = s.packPar ∧
    (deliverDse old new s).chargePar = s.chargePar ∧ (deliverDse old new s).dirtPar = s.dirtPar ∧
    (deliverDse old new s).idleSleepS = s.idleSleepS ∧ (deliverDse old new s).pending = s.pending := by
  unfold deliverDse
  repeat' split
  all_goals simp
@[simp] theorem deliverPkm_frame (new : MotorState) (s : State) : (deliverPkm new s).trg = s.trg ∧
    (deliverPkm new s).drs = s.drs ∧ (deliverPkm new s).mdr = s.mdr ∧ (deliverPkm new s).srg = s.srg ∧
    (deliverPkm new s).sbt = s.sbt ∧ (deliverPkm new s).blm = s.blm ∧ (deliverPkm new s).dse = s.dse ∧
    (deliverPkm new s).gge = s.gge ∧ (deliverPkm new s).chc = s.chc ∧ (deliverPkm new s).dlk = s.dlk ∧
    (deliverPkm new s).icn = s.icn ∧ (deliverPkm new s).fmg = s.fmg ∧ (deliverPkm new s).mpt = s.mpt ∧
    (deliverPkm new s).slc = s.slc ∧ (deliverPkm new s).motorPar = s.motorPar ∧
    (deliverPkm new s).blockPar = s.blockPar ∧ (deliverPkm new s).packPar = s.packPar ∧
    (deliverPkm new s).chargePar = s.chargePar ∧ (deliverPkm new s).dirtPar = s.dirtPar ∧
    (deliverPkm new s).idleSleepS = s.idleSleepS ∧ (deliverPkm new s).pending = s.pending := by unfold deliverPkm; split <;> simp
@[simp] theorem deliverIcn_frame (new : MotorState) (s : State) : (deliverIcn new s).trg = s.trg ∧
    (deliverIcn new s).drs = s.drs ∧ (deliverIcn new s).mdr = s.mdr ∧ (deliverIcn new s).srg = s.srg ∧
    (deliverIcn new s).sbt = s.sbt ∧ (deliverIcn new s).blm = s.blm ∧ (deliverIcn new s).dse = s.dse ∧
    (deliverIcn new s).pkm = s.pkm ∧ (deliverIcn new s).gge = s.gge ∧ (deliverIcn new s).chc = s.chc ∧
    (deliverIcn new s).dlk = s.dlk ∧ (deliverIcn new s).fmg = s.fmg ∧ (deliverIcn new s).slc = s.slc ∧
    (deliverIcn new s).motorPar = s.motorPar ∧ (deliverIcn new s).blockPar = s.blockPar ∧
    (deliverIcn new s).packPar = s.packPar ∧ (deliverIcn new s).chargePar = s.chargePar ∧
    (deliverIcn new s).dirtPar = s.dirtPar ∧ (deliverIcn new s).idleSleepS = s.idleSleepS ∧
    (deliverIcn new s).pending = s.pending := by unfold deliverIcn; split <;> simp
@[simp] theorem deliverSlc_frame (s : State) : (deliverSlc s).trg = s.trg ∧ (deliverSlc s).drs = s.drs ∧
    (deliverSlc s).mdr = s.mdr ∧ (deliverSlc s).srg = s.srg ∧ (deliverSlc s).sbt = s.sbt ∧
    (deliverSlc s).blm = s.blm ∧ (deliverSlc s).dse = s.dse ∧ (deliverSlc s).pkm = s.pkm ∧
    (deliverSlc s).gge = s.gge ∧ (deliverSlc s).chc = s.chc ∧ (deliverSlc s).dlk = s.dlk ∧
    (deliverSlc s).icn = s.icn ∧ (deliverSlc s).fmg = s.fmg ∧ (deliverSlc s).mpt = s.mpt ∧
    (deliverSlc s).motorPar = s.motorPar ∧ (deliverSlc s).blockPar = s.blockPar ∧ (deliverSlc s).packPar = s.packPar ∧
    (deliverSlc s).chargePar = s.chargePar ∧ (deliverSlc s).dirtPar = s.dirtPar ∧
    (deliverSlc s).idleSleepS = s.idleSleepS ∧ (deliverSlc s).pending = s.pending := by simp [deliverSlc]
@[simp] theorem motorTo_frame (new : MotorState) (cause : MotorCause) (startPending : Bool) (s : State) :
    (motorTo new cause startPending s).sbt = s.sbt ∧ (motorTo new cause startPending s).gge = s.gge ∧
    (motorTo new cause startPending s).motorPar = s.motorPar ∧
    (motorTo new cause startPending s).blockPar = s.blockPar ∧
    (motorTo new cause startPending s).packPar = s.packPar ∧
    (motorTo new cause startPending s).chargePar = s.chargePar ∧
    (motorTo new cause startPending s).dirtPar = s.dirtPar ∧
    (motorTo new cause startPending s).idleSleepS = s.idleSleepS ∧
    (motorTo new cause startPending s).pending = s.pending := by simp [motorTo]
@[simp] theorem demandRise_frame (s : State) : (demandRise s).sbt = s.sbt ∧ (demandRise s).gge = s.gge ∧
    (demandRise s).motorPar = s.motorPar ∧ (demandRise s).blockPar = s.blockPar ∧ (demandRise s).packPar = s.packPar ∧
    (demandRise s).chargePar = s.chargePar ∧ (demandRise s).dirtPar = s.dirtPar ∧
    (demandRise s).idleSleepS = s.idleSleepS ∧ (demandRise s).pending = s.pending := by
  unfold demandRise
  repeat' split
  all_goals simp
@[simp] theorem demandFall_frame (s : State) : (demandFall s).sbt = s.sbt ∧ (demandFall s).gge = s.gge ∧
    (demandFall s).motorPar = s.motorPar ∧ (demandFall s).blockPar = s.blockPar ∧ (demandFall s).packPar = s.packPar ∧
    (demandFall s).chargePar = s.chargePar ∧ (demandFall s).dirtPar = s.dirtPar ∧
    (demandFall s).idleSleepS = s.idleSleepS ∧ (demandFall s).pending = s.pending := by unfold demandFall; split <;> simp
@[simp] theorem demandRefresh_frame (s : State) : (demandRefresh s).sbt = s.sbt ∧ (demandRefresh s).gge = s.gge ∧
    (demandRefresh s).motorPar = s.motorPar ∧ (demandRefresh s).blockPar = s.blockPar ∧
    (demandRefresh s).packPar = s.packPar ∧ (demandRefresh s).chargePar = s.chargePar ∧
    (demandRefresh s).dirtPar = s.dirtPar ∧ (demandRefresh s).idleSleepS = s.idleSleepS ∧
    (demandRefresh s).pending = s.pending := by
  unfold demandRefresh
  dsimp only
  repeat' split
  all_goals simp
@[simp] theorem forcedStop_frame (s : State) : (forcedStop s).sbt = s.sbt ∧ (forcedStop s).gge = s.gge ∧
    (forcedStop s).motorPar = s.motorPar ∧ (forcedStop s).blockPar = s.blockPar ∧ (forcedStop s).packPar = s.packPar ∧
    (forcedStop s).chargePar = s.chargePar ∧ (forcedStop s).dirtPar = s.dirtPar ∧
    (forcedStop s).idleSleepS = s.idleSleepS ∧ (forcedStop s).pending = s.pending := by simp [forcedStop]
@[simp] theorem coastEnd_frame (cause : MotorCause) (s : State) : (coastEnd cause s).sbt = s.sbt ∧
    (coastEnd cause s).gge = s.gge ∧ (coastEnd cause s).motorPar = s.motorPar ∧
    (coastEnd cause s).blockPar = s.blockPar ∧ (coastEnd cause s).packPar = s.packPar ∧
    (coastEnd cause s).chargePar = s.chargePar ∧ (coastEnd cause s).dirtPar = s.dirtPar ∧
    (coastEnd cause s).idleSleepS = s.idleSleepS ∧ (coastEnd cause s).pending = s.pending := by unfold coastEnd; split <;> simp
@[simp] theorem scheduleCrossing_frame (t d : Nat) (s : State) : (scheduleCrossing t d s).trg = s.trg ∧
    (scheduleCrossing t d s).drs = s.drs ∧ (scheduleCrossing t d s).srg = s.srg ∧
    (scheduleCrossing t d s).blm = s.blm ∧ (scheduleCrossing t d s).dse = s.dse ∧
    (scheduleCrossing t d s).pkm = s.pkm ∧ (scheduleCrossing t d s).gge = s.gge ∧
    (scheduleCrossing t d s).chc = s.chc ∧ (scheduleCrossing t d s).dlk = s.dlk ∧
    (scheduleCrossing t d s).icn = s.icn ∧ (scheduleCrossing t d s).fmg = s.fmg ∧
    (scheduleCrossing t d s).mpt = s.mpt ∧ (scheduleCrossing t d s).slc = s.slc ∧
    (scheduleCrossing t d s).motorPar = s.motorPar ∧ (scheduleCrossing t d s).blockPar = s.blockPar ∧
    (scheduleCrossing t d s).packPar = s.packPar ∧ (scheduleCrossing t d s).chargePar = s.chargePar ∧
    (scheduleCrossing t d s).dirtPar = s.dirtPar ∧ (scheduleCrossing t d s).idleSleepS = s.idleSleepS ∧
    (scheduleCrossing t d s).pending = s.pending := by
  unfold scheduleCrossing
  dsimp only
  generalize scheduledAt _ t _ = period
  simp
@[simp] theorem commutate_frame (period : Nat) (im : Int) (s : State) : (commutate period im s).trg = s.trg ∧
    (commutate period im s).pkm = s.pkm ∧ (commutate period im s).gge = s.gge ∧ (commutate period im s).chc = s.chc ∧
    (commutate period im s).dlk = s.dlk ∧ (commutate period im s).fmg = s.fmg ∧ (commutate period im s).slc = s.slc ∧
    (commutate period im s).motorPar = s.motorPar ∧ (commutate period im s).blockPar = s.blockPar ∧
    (commutate period im s).packPar = s.packPar ∧ (commutate period im s).chargePar = s.chargePar ∧
    (commutate period im s).dirtPar = s.dirtPar ∧ (commutate period im s).idleSleepS = s.idleSleepS ∧
    (commutate period im s).pending = s.pending := by
  unfold commutate
  dsimp only
  repeat' split
  all_goals simp
@[simp] theorem refreshDerate_frame (s : State) : (refreshDerate s).trg = s.trg ∧ (refreshDerate s).srg = s.srg ∧
    (refreshDerate s).sbt = s.sbt ∧ (refreshDerate s).blm = s.blm ∧ (refreshDerate s).dse = s.dse ∧
    (refreshDerate s).pkm = s.pkm ∧ (refreshDerate s).gge = s.gge ∧ (refreshDerate s).chc = s.chc ∧
    (refreshDerate s).dlk = s.dlk ∧ (refreshDerate s).icn = s.icn ∧ (refreshDerate s).fmg = s.fmg ∧
    (refreshDerate s).mpt = s.mpt ∧ (refreshDerate s).slc = s.slc ∧ (refreshDerate s).motorPar = s.motorPar ∧
    (refreshDerate s).blockPar = s.blockPar ∧ (refreshDerate s).packPar = s.packPar ∧
    (refreshDerate s).chargePar = s.chargePar ∧ (refreshDerate s).dirtPar = s.dirtPar ∧
    (refreshDerate s).idleSleepS = s.idleSleepS ∧ (refreshDerate s).pending = s.pending := by
  unfold refreshDerate
  dsimp only
  repeat' split
  all_goals simp

/-! ### Trips and restarts -/

@[simp] theorem trip_frame (k : FaultKind) (d : Detail) (s : State) : (trip k d s).sbt = s.sbt ∧
    (trip k d s).gge = s.gge ∧ (trip k d s).motorPar = s.motorPar ∧ (trip k d s).blockPar = s.blockPar ∧
    (trip k d s).packPar = s.packPar ∧ (trip k d s).chargePar = s.chargePar ∧ (trip k d s).dirtPar = s.dirtPar ∧
    (trip k d s).idleSleepS = s.idleSleepS ∧ (trip k d s).pending = s.pending := by simp [trip]
@[simp] theorem applyStop_frame (k : FaultKind) (d : Detail) (s : State) : (applyStop k d s).sbt = s.sbt ∧
    (applyStop k d s).gge = s.gge ∧ (applyStop k d s).motorPar = s.motorPar ∧
    (applyStop k d s).blockPar = s.blockPar ∧ (applyStop k d s).packPar = s.packPar ∧
    (applyStop k d s).chargePar = s.chargePar ∧ (applyStop k d s).dirtPar = s.dirtPar ∧
    (applyStop k d s).idleSleepS = s.idleSleepS ∧ (applyStop k d s).pending = s.pending := by unfold applyStop; split <;> simp
@[simp] theorem raiseStop_frame (k : FaultKind) (d : Detail) (s : State) : (raiseStop k d s).sbt = s.sbt ∧
    (raiseStop k d s).gge = s.gge ∧ (raiseStop k d s).motorPar = s.motorPar ∧
    (raiseStop k d s).blockPar = s.blockPar ∧ (raiseStop k d s).packPar = s.packPar ∧
    (raiseStop k d s).chargePar = s.chargePar ∧ (raiseStop k d s).dirtPar = s.dirtPar ∧
    (raiseStop k d s).idleSleepS = s.idleSleepS ∧ (raiseStop k d s).pending = s.pending := by simp [raiseStop]
@[simp] theorem startFail_frame (cause : MotorCause) (s : State) : (startFail cause s).sbt = s.sbt ∧
    (startFail cause s).gge = s.gge ∧ (startFail cause s).motorPar = s.motorPar ∧
    (startFail cause s).blockPar = s.blockPar ∧ (startFail cause s).packPar = s.packPar ∧
    (startFail cause s).chargePar = s.chargePar ∧ (startFail cause s).dirtPar = s.dirtPar ∧
    (startFail cause s).idleSleepS = s.idleSleepS ∧ (startFail cause s).pending = s.pending := by unfold startFail; dsimp only; split <;> simp
@[simp] theorem restartDecision_frame (d : Detail) (s : State) : (restartDecision d s).sbt = s.sbt ∧
    (restartDecision d s).gge = s.gge ∧ (restartDecision d s).motorPar = s.motorPar ∧
    (restartDecision d s).blockPar = s.blockPar ∧ (restartDecision d s).packPar = s.packPar ∧
    (restartDecision d s).chargePar = s.chargePar ∧ (restartDecision d s).dirtPar = s.dirtPar ∧
    (restartDecision d s).idleSleepS = s.idleSleepS ∧ (restartDecision d s).pending = s.pending := by
  unfold restartDecision
  dsimp only
  repeat' split
  all_goals simp
@[simp] theorem raiseSyncLoss_frame (s : State) : (raiseSyncLoss s).sbt = s.sbt ∧ (raiseSyncLoss s).gge = s.gge ∧
    (raiseSyncLoss s).motorPar = s.motorPar ∧ (raiseSyncLoss s).blockPar = s.blockPar ∧
    (raiseSyncLoss s).packPar = s.packPar ∧ (raiseSyncLoss s).chargePar = s.chargePar ∧
    (raiseSyncLoss s).dirtPar = s.dirtPar ∧ (raiseSyncLoss s).idleSleepS = s.idleSleepS ∧
    (raiseSyncLoss s).pending = s.pending := by unfold raiseSyncLoss; dsimp only; split <;> simp
@[simp] theorem precheckDecide_frame (tInv : Int) (s : State) : (precheckDecide tInv s).sbt = s.sbt ∧
    (precheckDecide tInv s).gge = s.gge ∧ (precheckDecide tInv s).motorPar = s.motorPar ∧
    (precheckDecide tInv s).blockPar = s.blockPar ∧ (precheckDecide tInv s).packPar = s.packPar ∧
    (precheckDecide tInv s).chargePar = s.chargePar ∧ (precheckDecide tInv s).dirtPar = s.dirtPar ∧
    (precheckDecide tInv s).idleSleepS = s.idleSleepS ∧ (precheckDecide tInv s).pending = s.pending := by
  unfold precheckDecide
  repeat' split
  all_goals simp
@[simp] theorem enterRun_frame (s : State) : (enterRun s).sbt = s.sbt ∧ (enterRun s).gge = s.gge ∧
    (enterRun s).motorPar = s.motorPar ∧ (enterRun s).blockPar = s.blockPar ∧ (enterRun s).packPar = s.packPar ∧
    (enterRun s).chargePar = s.chargePar ∧ (enterRun s).dirtPar = s.dirtPar ∧ (enterRun s).idleSleepS = s.idleSleepS ∧
    (enterRun s).pending = s.pending := by simp [enterRun]
@[simp] theorem enterHandover_frame (t d : Nat) (s : State) : (enterHandover t d s).gge = s.gge ∧
    (enterHandover t d s).motorPar = s.motorPar ∧ (enterHandover t d s).blockPar = s.blockPar ∧
    (enterHandover t d s).packPar = s.packPar ∧ (enterHandover t d s).chargePar = s.chargePar ∧
    (enterHandover t d s).dirtPar = s.dirtPar ∧ (enterHandover t d s).idleSleepS = s.idleSleepS ∧
    (enterHandover t d s).pending = s.pending := by simp [enterHandover]
@[simp] theorem enterRunCaught_frame (s : State) : (enterRunCaught s).gge = s.gge ∧
    (enterRunCaught s).motorPar = s.motorPar ∧ (enterRunCaught s).blockPar = s.blockPar ∧
    (enterRunCaught s).packPar = s.packPar ∧ (enterRunCaught s).chargePar = s.chargePar ∧
    (enterRunCaught s).dirtPar = s.dirtPar ∧ (enterRunCaught s).idleSleepS = s.idleSleepS ∧
    (enterRunCaught s).pending = s.pending := by simp [enterRunCaught]
@[simp] theorem clearTrip_frame (way : ClearWay) (s : State) : (clearTrip way s).sbt = s.sbt ∧
    (clearTrip way s).gge = s.gge ∧ (clearTrip way s).motorPar = s.motorPar ∧
    (clearTrip way s).blockPar = s.blockPar ∧ (clearTrip way s).packPar = s.packPar ∧
    (clearTrip way s).chargePar = s.chargePar ∧ (clearTrip way s).dirtPar = s.dirtPar ∧
    (clearTrip way s).idleSleepS = s.idleSleepS ∧ (clearTrip way s).pending = s.pending := by simp [clearTrip]
@[simp] theorem raisePersist_frame (s : State) : (raisePersist s).sbt = s.sbt ∧ (raisePersist s).gge = s.gge ∧
    (raisePersist s).motorPar = s.motorPar ∧ (raisePersist s).blockPar = s.blockPar ∧
    (raisePersist s).packPar = s.packPar ∧ (raisePersist s).chargePar = s.chargePar ∧
    (raisePersist s).dirtPar = s.dirtPar ∧ (raisePersist s).idleSleepS = s.idleSleepS ∧
    (raisePersist s).pending = s.pending := by unfold raisePersist; split <;> simp
@[simp] theorem enterBlocked_frame (s : State) : (enterBlocked s).sbt = s.sbt ∧ (enterBlocked s).gge = s.gge ∧
    (enterBlocked s).motorPar = s.motorPar ∧ (enterBlocked s).blockPar = s.blockPar ∧
    (enterBlocked s).packPar = s.packPar ∧ (enterBlocked s).chargePar = s.chargePar ∧
    (enterBlocked s).dirtPar = s.dirtPar ∧ (enterBlocked s).idleSleepS = s.idleSleepS ∧
    (enterBlocked s).pending = s.pending := by
  unfold enterBlocked
  dsimp only
  repeat' split
  all_goals simp
@[simp] theorem enterRetrying_frame (s : State) : (enterRetrying s).trg = s.trg ∧ (enterRetrying s).mdr = s.mdr ∧
    (enterRetrying s).srg = s.srg ∧ (enterRetrying s).sbt = s.sbt ∧ (enterRetrying s).dse = s.dse ∧
    (enterRetrying s).pkm = s.pkm ∧ (enterRetrying s).gge = s.gge ∧ (enterRetrying s).chc = s.chc ∧
    (enterRetrying s).dlk = s.dlk ∧ (enterRetrying s).icn = s.icn ∧ (enterRetrying s).fmg = s.fmg ∧
    (enterRetrying s).mpt = s.mpt ∧ (enterRetrying s).slc = s.slc ∧ (enterRetrying s).motorPar = s.motorPar ∧
    (enterRetrying s).blockPar = s.blockPar ∧ (enterRetrying s).packPar = s.packPar ∧
    (enterRetrying s).chargePar = s.chargePar ∧ (enterRetrying s).dirtPar = s.dirtPar ∧
    (enterRetrying s).idleSleepS = s.idleSleepS ∧ (enterRetrying s).pending = s.pending := by simp [enterRetrying]
@[simp] theorem expireBlock_frame (s : State) : (expireBlock s).sbt = s.sbt ∧ (expireBlock s).gge = s.gge ∧
    (expireBlock s).motorPar = s.motorPar ∧ (expireBlock s).blockPar = s.blockPar ∧
    (expireBlock s).packPar = s.packPar ∧ (expireBlock s).chargePar = s.chargePar ∧
    (expireBlock s).dirtPar = s.dirtPar ∧ (expireBlock s).idleSleepS = s.idleSleepS ∧
    (expireBlock s).pending = s.pending := by unfold expireBlock; split <;> simp
@[simp] theorem expireRetry_frame (s : State) : (expireRetry s).trg = s.trg ∧ (expireRetry s).mdr = s.mdr ∧
    (expireRetry s).srg = s.srg ∧ (expireRetry s).sbt = s.sbt ∧ (expireRetry s).dse = s.dse ∧
    (expireRetry s).pkm = s.pkm ∧ (expireRetry s).gge = s.gge ∧ (expireRetry s).chc = s.chc ∧
    (expireRetry s).dlk = s.dlk ∧ (expireRetry s).icn = s.icn ∧ (expireRetry s).fmg = s.fmg ∧
    (expireRetry s).mpt = s.mpt ∧ (expireRetry s).slc = s.slc ∧ (expireRetry s).motorPar = s.motorPar ∧
    (expireRetry s).blockPar = s.blockPar ∧ (expireRetry s).packPar = s.packPar ∧
    (expireRetry s).chargePar = s.chargePar ∧ (expireRetry s).dirtPar = s.dirtPar ∧
    (expireRetry s).idleSleepS = s.idleSleepS ∧ (expireRetry s).pending = s.pending := by unfold expireRetry; split <;> simp

/-! ### The Dock Link (states) -/

@[simp] theorem deliverDockSlc_frame (s : State) : (deliverDockSlc s).trg = s.trg ∧ (deliverDockSlc s).drs = s.drs ∧
    (deliverDockSlc s).mdr = s.mdr ∧ (deliverDockSlc s).srg = s.srg ∧ (deliverDockSlc s).sbt = s.sbt ∧
    (deliverDockSlc s).blm = s.blm ∧ (deliverDockSlc s).dse = s.dse ∧ (deliverDockSlc s).pkm = s.pkm ∧
    (deliverDockSlc s).gge = s.gge ∧ (deliverDockSlc s).chc = s.chc ∧ (deliverDockSlc s).dlk = s.dlk ∧
    (deliverDockSlc s).icn = s.icn ∧ (deliverDockSlc s).fmg = s.fmg ∧ (deliverDockSlc s).mpt = s.mpt ∧
    (deliverDockSlc s).motorPar = s.motorPar ∧ (deliverDockSlc s).blockPar = s.blockPar ∧
    (deliverDockSlc s).packPar = s.packPar ∧ (deliverDockSlc s).chargePar = s.chargePar ∧
    (deliverDockSlc s).dirtPar = s.dirtPar ∧ (deliverDockSlc s).idleSleepS = s.idleSleepS ∧
    (deliverDockSlc s).pending = s.pending := by simp [deliverDockSlc]
@[simp] theorem dockChanged_frame (old : DockState) (cause : DockCause) (s : State) :
    (dockChanged old cause s).trg = s.trg ∧ (dockChanged old cause s).mdr = s.mdr ∧
    (dockChanged old cause s).srg = s.srg ∧ (dockChanged old cause s).sbt = s.sbt ∧
    (dockChanged old cause s).blm = s.blm ∧ (dockChanged old cause s).dse = s.dse ∧
    (dockChanged old cause s).gge = s.gge ∧ (dockChanged old cause s).motorPar = s.motorPar ∧
    (dockChanged old cause s).blockPar = s.blockPar ∧ (dockChanged old cause s).packPar = s.packPar ∧
    (dockChanged old cause s).chargePar = s.chargePar ∧ (dockChanged old cause s).dirtPar = s.dirtPar ∧
    (dockChanged old cause s).idleSleepS = s.idleSleepS ∧ (dockChanged old cause s).pending = s.pending := by simp [dockChanged]
@[simp] theorem grantChanged_frame (before : Nat) (cause : DockCause) (s : State) :
    (grantChanged before cause s).trg = s.trg ∧ (grantChanged before cause s).mdr = s.mdr ∧
    (grantChanged before cause s).srg = s.srg ∧ (grantChanged before cause s).sbt = s.sbt ∧
    (grantChanged before cause s).blm = s.blm ∧ (grantChanged before cause s).dse = s.dse ∧
    (grantChanged before cause s).gge = s.gge ∧ (grantChanged before cause s).slc = s.slc ∧
    (grantChanged before cause s).motorPar = s.motorPar ∧ (grantChanged before cause s).blockPar = s.blockPar ∧
    (grantChanged before cause s).packPar = s.packPar ∧ (grantChanged before cause s).chargePar = s.chargePar ∧
    (grantChanged before cause s).dirtPar = s.dirtPar ∧ (grantChanged before cause s).idleSleepS = s.idleSleepS ∧
    (grantChanged before cause s).pending = s.pending := by unfold grantChanged; split <;> simp
@[simp] theorem dockArrival_frame (s : State) : (dockArrival s).sbt = s.sbt ∧ (dockArrival s).gge = s.gge ∧
    (dockArrival s).motorPar = s.motorPar ∧ (dockArrival s).blockPar = s.blockPar ∧
    (dockArrival s).packPar = s.packPar ∧ (dockArrival s).chargePar = s.chargePar ∧
    (dockArrival s).dirtPar = s.dirtPar ∧ (dockArrival s).idleSleepS = s.idleSleepS ∧
    (dockArrival s).pending = s.pending := by simp [dockArrival]
@[simp] theorem dockLoss_frame (s : State) : (dockLoss s).sbt = s.sbt ∧ (dockLoss s).gge = s.gge ∧
    (dockLoss s).motorPar = s.motorPar ∧ (dockLoss s).blockPar = s.blockPar ∧ (dockLoss s).packPar = s.packPar ∧
    (dockLoss s).chargePar = s.chargePar ∧ (dockLoss s).dirtPar = s.dirtPar ∧ (dockLoss s).idleSleepS = s.idleSleepS ∧
    (dockLoss s).pending = s.pending := by simp [dockLoss]
@[simp] theorem enterGreeting_frame (cause : DockCause) (s : State) : (enterGreeting cause s).trg = s.trg ∧
    (enterGreeting cause s).mdr = s.mdr ∧ (enterGreeting cause s).srg = s.srg ∧ (enterGreeting cause s).sbt = s.sbt ∧
    (enterGreeting cause s).blm = s.blm ∧ (enterGreeting cause s).dse = s.dse ∧ (enterGreeting cause s).gge = s.gge ∧
    (enterGreeting cause s).motorPar = s.motorPar ∧ (enterGreeting cause s).blockPar = s.blockPar ∧
    (enterGreeting cause s).packPar = s.packPar ∧ (enterGreeting cause s).chargePar = s.chargePar ∧
    (enterGreeting cause s).dirtPar = s.dirtPar ∧ (enterGreeting cause s).idleSleepS = s.idleSleepS ∧
    (enterGreeting cause s).pending = s.pending := by simp [enterGreeting]
@[simp] theorem enterLost_frame (s : State) : (enterLost s).trg = s.trg ∧ (enterLost s).mdr = s.mdr ∧
    (enterLost s).srg = s.srg ∧ (enterLost s).sbt = s.sbt ∧ (enterLost s).blm = s.blm ∧ (enterLost s).dse = s.dse ∧
    (enterLost s).gge = s.gge ∧ (enterLost s).motorPar = s.motorPar ∧ (enterLost s).blockPar = s.blockPar ∧
    (enterLost s).packPar = s.packPar ∧ (enterLost s).chargePar = s.chargePar ∧ (enterLost s).dirtPar = s.dirtPar ∧
    (enterLost s).idleSleepS = s.idleSleepS ∧ (enterLost s).pending = s.pending := by simp [enterLost]
@[simp] theorem enterActive_frame (grant : Nat) (released : Bool) (cause : DockCause) (s : State) :
    (enterActive grant released cause s).trg = s.trg ∧ (enterActive grant released cause s).mdr = s.mdr ∧
    (enterActive grant released cause s).srg = s.srg ∧ (enterActive grant released cause s).sbt = s.sbt ∧
    (enterActive grant released cause s).blm = s.blm ∧ (enterActive grant released cause s).dse = s.dse ∧
    (enterActive grant released cause s).gge = s.gge ∧ (enterActive grant released cause s).motorPar = s.motorPar ∧
    (enterActive grant released cause s).blockPar = s.blockPar ∧
    (enterActive grant released cause s).packPar = s.packPar ∧
    (enterActive grant released cause s).chargePar = s.chargePar ∧
    (enterActive grant released cause s).dirtPar = s.dirtPar ∧
    (enterActive grant released cause s).idleSleepS = s.idleSleepS ∧
    (enterActive grant released cause s).pending = s.pending := by simp [enterActive]
@[simp] theorem evacuated_frame (s : State) : (evacuated s).trg = s.trg ∧ (evacuated s).drs = s.drs ∧
    (evacuated s).mdr = s.mdr ∧ (evacuated s).srg = s.srg ∧ (evacuated s).sbt = s.sbt ∧ (evacuated s).blm = s.blm ∧
    (evacuated s).dse = s.dse ∧ (evacuated s).pkm = s.pkm ∧ (evacuated s).gge = s.gge ∧ (evacuated s).chc = s.chc ∧
    (evacuated s).fmg = s.fmg ∧ (evacuated s).slc = s.slc ∧ (evacuated s).motorPar = s.motorPar ∧
    (evacuated s).blockPar = s.blockPar ∧ (evacuated s).packPar = s.packPar ∧ (evacuated s).chargePar = s.chargePar ∧
    (evacuated s).dirtPar = s.dirtPar ∧ (evacuated s).idleSleepS = s.idleSleepS ∧ (evacuated s).pending = s.pending := by simp [evacuated]
@[simp] theorem takeEvacuation_frame (flag : Bool) (s : State) : (takeEvacuation flag s).trg = s.trg ∧
    (takeEvacuation flag s).drs = s.drs ∧ (takeEvacuation flag s).mdr = s.mdr ∧ (takeEvacuation flag s).srg = s.srg ∧
    (takeEvacuation flag s).sbt = s.sbt ∧ (takeEvacuation flag s).blm = s.blm ∧ (takeEvacuation flag s).dse = s.dse ∧
    (takeEvacuation flag s).pkm = s.pkm ∧ (takeEvacuation flag s).gge = s.gge ∧ (takeEvacuation flag s).chc = s.chc ∧
    (takeEvacuation flag s).fmg = s.fmg ∧ (takeEvacuation flag s).slc = s.slc ∧
    (takeEvacuation flag s).motorPar = s.motorPar ∧ (takeEvacuation flag s).blockPar = s.blockPar ∧
    (takeEvacuation flag s).packPar = s.packPar ∧ (takeEvacuation flag s).chargePar = s.chargePar ∧
    (takeEvacuation flag s).dirtPar = s.dirtPar ∧ (takeEvacuation flag s).idleSleepS = s.idleSleepS ∧
    (takeEvacuation flag s).pending = s.pending := by
  unfold takeEvacuation
  dsimp only
  repeat' split
  all_goals simp
@[simp] theorem takeAck_frame (status : AckStatus) (flag : Bool) (s : State) : (takeAck status flag s).trg = s.trg ∧
    (takeAck status flag s).mdr = s.mdr ∧ (takeAck status flag s).srg = s.srg ∧ (takeAck status flag s).sbt = s.sbt ∧
    (takeAck status flag s).blm = s.blm ∧ (takeAck status flag s).dse = s.dse ∧ (takeAck status flag s).gge = s.gge ∧
    (takeAck status flag s).slc = s.slc ∧ (takeAck status flag s).motorPar = s.motorPar ∧
    (takeAck status flag s).blockPar = s.blockPar ∧ (takeAck status flag s).packPar = s.packPar ∧
    (takeAck status flag s).chargePar = s.chargePar ∧ (takeAck status flag s).dirtPar = s.dirtPar ∧
    (takeAck status flag s).idleSleepS = s.idleSleepS ∧ (takeAck status flag s).pending = s.pending := by simp [takeAck]
@[simp] theorem actOnReply_frame (r : DockReply) (s : State) : (actOnReply r s).trg = s.trg ∧
    (actOnReply r s).mdr = s.mdr ∧ (actOnReply r s).srg = s.srg ∧ (actOnReply r s).sbt = s.sbt ∧
    (actOnReply r s).blm = s.blm ∧ (actOnReply r s).dse = s.dse ∧ (actOnReply r s).gge = s.gge ∧
    (actOnReply r s).motorPar = s.motorPar ∧ (actOnReply r s).blockPar = s.blockPar ∧
    (actOnReply r s).packPar = s.packPar ∧ (actOnReply r s).chargePar = s.chargePar ∧
    (actOnReply r s).dirtPar = s.dirtPar ∧ (actOnReply r s).idleSleepS = s.idleSleepS ∧
    (actOnReply r s).pending = s.pending := by
  unfold actOnReply
  repeat' split
  all_goals simp
@[simp] theorem answerExchange_frame (r : DockReply) (s : State) : (answerExchange r s).trg = s.trg ∧
    (answerExchange r s).mdr = s.mdr ∧ (answerExchange r s).srg = s.srg ∧ (answerExchange r s).sbt = s.sbt ∧
    (answerExchange r s).blm = s.blm ∧ (answerExchange r s).dse = s.dse ∧ (answerExchange r s).gge = s.gge ∧
    (answerExchange r s).motorPar = s.motorPar ∧ (answerExchange r s).blockPar = s.blockPar ∧
    (answerExchange r s).packPar = s.packPar ∧ (answerExchange r s).chargePar = s.chargePar ∧
    (answerExchange r s).dirtPar = s.dirtPar ∧ (answerExchange r s).idleSleepS = s.idleSleepS ∧
    (answerExchange r s).pending = s.pending := by simp [answerExchange]
@[simp] theorem endUnanswered_frame (s : State) : (endUnanswered s).trg = s.trg ∧ (endUnanswered s).mdr = s.mdr ∧
    (endUnanswered s).srg = s.srg ∧ (endUnanswered s).sbt = s.sbt ∧ (endUnanswered s).blm = s.blm ∧
    (endUnanswered s).dse = s.dse ∧ (endUnanswered s).gge = s.gge ∧ (endUnanswered s).motorPar = s.motorPar ∧
    (endUnanswered s).blockPar = s.blockPar ∧ (endUnanswered s).packPar = s.packPar ∧
    (endUnanswered s).chargePar = s.chargePar ∧ (endUnanswered s).dirtPar = s.dirtPar ∧
    (endUnanswered s).idleSleepS = s.idleSleepS ∧ (endUnanswered s).pending = s.pending := by
  unfold endUnanswered
  dsimp only
  repeat' split
  all_goals simp
@[simp] theorem attemptUnanswered_frame (e : Exchange) (s : State) : (attemptUnanswered e s).trg = s.trg ∧
    (attemptUnanswered e s).mdr = s.mdr ∧ (attemptUnanswered e s).srg = s.srg ∧ (attemptUnanswered e s).sbt = s.sbt ∧
    (attemptUnanswered e s).blm = s.blm ∧ (attemptUnanswered e s).dse = s.dse ∧ (attemptUnanswered e s).gge = s.gge ∧
    (attemptUnanswered e s).motorPar = s.motorPar ∧ (attemptUnanswered e s).blockPar = s.blockPar ∧
    (attemptUnanswered e s).packPar = s.packPar ∧ (attemptUnanswered e s).chargePar = s.chargePar ∧
    (attemptUnanswered e s).dirtPar = s.dirtPar ∧ (attemptUnanswered e s).idleSleepS = s.idleSleepS ∧
    (attemptUnanswered e s).pending = s.pending := by unfold attemptUnanswered; split <;> simp
@[simp] theorem receptionEnded_frame (s : State) : (receptionEnded s).trg = s.trg ∧ (receptionEnded s).mdr = s.mdr ∧
    (receptionEnded s).srg = s.srg ∧ (receptionEnded s).sbt = s.sbt ∧ (receptionEnded s).blm = s.blm ∧
    (receptionEnded s).dse = s.dse ∧ (receptionEnded s).gge = s.gge ∧ (receptionEnded s).motorPar = s.motorPar ∧
    (receptionEnded s).blockPar = s.blockPar ∧ (receptionEnded s).packPar = s.packPar ∧
    (receptionEnded s).chargePar = s.chargePar ∧ (receptionEnded s).dirtPar = s.dirtPar ∧
    (receptionEnded s).idleSleepS = s.idleSleepS ∧ (receptionEnded s).pending = s.pending := by
  unfold receptionEnded
  repeat' split
  all_goals simp
@[simp] theorem dockFrameTaken_frame (bytes : List Byte) (s : State) : (dockFrameTaken bytes s).trg = s.trg ∧
    (dockFrameTaken bytes s).mdr = s.mdr ∧ (dockFrameTaken bytes s).srg = s.srg ∧
    (dockFrameTaken bytes s).sbt = s.sbt ∧ (dockFrameTaken bytes s).blm = s.blm ∧
    (dockFrameTaken bytes s).dse = s.dse ∧ (dockFrameTaken bytes s).gge = s.gge ∧
    (dockFrameTaken bytes s).motorPar = s.motorPar ∧ (dockFrameTaken bytes s).blockPar = s.blockPar ∧
    (dockFrameTaken bytes s).packPar = s.packPar ∧ (dockFrameTaken bytes s).chargePar = s.chargePar ∧
    (dockFrameTaken bytes s).dirtPar = s.dirtPar ∧ (dockFrameTaken bytes s).idleSleepS = s.idleSleepS ∧
    (dockFrameTaken bytes s).pending = s.pending := by
  unfold dockFrameTaken
  dsimp only
  repeat' split
  all_goals simp
@[simp] theorem firstMessage_frame (s : State) : (firstMessage s).trg = s.trg ∧ (firstMessage s).drs = s.drs ∧
    (firstMessage s).mdr = s.mdr ∧ (firstMessage s).srg = s.srg ∧ (firstMessage s).sbt = s.sbt ∧
    (firstMessage s).blm = s.blm ∧ (firstMessage s).dse = s.dse ∧ (firstMessage s).pkm = s.pkm ∧
    (firstMessage s).gge = s.gge ∧ (firstMessage s).chc = s.chc ∧ (firstMessage s).icn = s.icn ∧
    (firstMessage s).fmg = s.fmg ∧ (firstMessage s).mpt = s.mpt ∧ (firstMessage s).slc = s.slc ∧
    (firstMessage s).motorPar = s.motorPar ∧ (firstMessage s).blockPar = s.blockPar ∧
    (firstMessage s).packPar = s.packPar ∧ (firstMessage s).chargePar = s.chargePar ∧
    (firstMessage s).dirtPar = s.dirtPar ∧ (firstMessage s).idleSleepS = s.idleSleepS ∧
    (firstMessage s).pending = s.pending := by unfold firstMessage; dsimp only; split <;> simp
@[simp] theorem dockScan_frame (s : State) : (dockScan s).trg = s.trg ∧ (dockScan s).drs = s.drs ∧
    (dockScan s).mdr = s.mdr ∧ (dockScan s).srg = s.srg ∧ (dockScan s).sbt = s.sbt ∧ (dockScan s).blm = s.blm ∧
    (dockScan s).dse = s.dse ∧ (dockScan s).pkm = s.pkm ∧ (dockScan s).gge = s.gge ∧ (dockScan s).chc = s.chc ∧
    (dockScan s).icn = s.icn ∧ (dockScan s).fmg = s.fmg ∧ (dockScan s).mpt = s.mpt ∧ (dockScan s).slc = s.slc ∧
    (dockScan s).motorPar = s.motorPar ∧ (dockScan s).blockPar = s.blockPar ∧ (dockScan s).packPar = s.packPar ∧
    (dockScan s).chargePar = s.chargePar ∧ (dockScan s).dirtPar = s.dirtPar ∧ (dockScan s).idleSleepS = s.idleSleepS ∧
    (dockScan s).pending = s.pending := by
  unfold dockScan
  repeat' split
  all_goals simp
@[simp] theorem keepDue_frame (s : State) : (keepDue s).trg = s.trg ∧ (keepDue s).drs = s.drs ∧
    (keepDue s).mdr = s.mdr ∧ (keepDue s).srg = s.srg ∧ (keepDue s).sbt = s.sbt ∧ (keepDue s).blm = s.blm ∧
    (keepDue s).dse = s.dse ∧ (keepDue s).pkm = s.pkm ∧ (keepDue s).gge = s.gge ∧ (keepDue s).chc = s.chc ∧
    (keepDue s).icn = s.icn ∧ (keepDue s).fmg = s.fmg ∧ (keepDue s).mpt = s.mpt ∧ (keepDue s).slc = s.slc ∧
    (keepDue s).motorPar = s.motorPar ∧ (keepDue s).blockPar = s.blockPar ∧ (keepDue s).packPar = s.packPar ∧
    (keepDue s).chargePar = s.chargePar ∧ (keepDue s).dirtPar = s.dirtPar ∧ (keepDue s).idleSleepS = s.idleSleepS ∧
    (keepDue s).pending = s.pending := by unfold keepDue; split <;> simp

/-! ### The start of a scan -/

@[simp] theorem startScan_frame (s : State) : (startScan s).trg = s.trg ∧ (startScan s).drs = s.drs ∧
    (startScan s).mdr = s.mdr ∧ (startScan s).srg = s.srg ∧ (startScan s).sbt = s.sbt ∧ (startScan s).blm = s.blm ∧
    (startScan s).dse = s.dse ∧ (startScan s).gge = s.gge ∧ (startScan s).chc = s.chc ∧ (startScan s).dlk = s.dlk ∧
    (startScan s).icn = s.icn ∧ (startScan s).fmg = s.fmg ∧ (startScan s).mpt = s.mpt ∧ (startScan s).slc = s.slc ∧
    (startScan s).motorPar = s.motorPar ∧ (startScan s).blockPar = s.blockPar ∧ (startScan s).packPar = s.packPar ∧
    (startScan s).chargePar = s.chargePar ∧ (startScan s).dirtPar = s.dirtPar ∧
    (startScan s).idleSleepS = s.idleSleepS ∧ (startScan s).pending = s.pending := by simp [startScan]
@[simp] theorem startDueScan_frame (s : State) : (startDueScan s).trg = s.trg ∧ (startDueScan s).drs = s.drs ∧
    (startDueScan s).mdr = s.mdr ∧ (startDueScan s).srg = s.srg ∧ (startDueScan s).sbt = s.sbt ∧
    (startDueScan s).blm = s.blm ∧ (startDueScan s).dse = s.dse ∧ (startDueScan s).gge = s.gge ∧
    (startDueScan s).chc = s.chc ∧ (startDueScan s).dlk = s.dlk ∧ (startDueScan s).icn = s.icn ∧
    (startDueScan s).fmg = s.fmg ∧ (startDueScan s).mpt = s.mpt ∧ (startDueScan s).slc = s.slc ∧
    (startDueScan s).motorPar = s.motorPar ∧ (startDueScan s).blockPar = s.blockPar ∧
    (startDueScan s).packPar = s.packPar ∧ (startDueScan s).chargePar = s.chargePar ∧
    (startDueScan s).dirtPar = s.dirtPar ∧ (startDueScan s).idleSleepS = s.idleSleepS ∧
    (startDueScan s).pending = s.pending := by
  unfold startDueScan; split <;> simp

/-! ### The Sleep Controller -/

@[simp] theorem enterSleep_frame (s : State) : (enterSleep s).sbt = s.sbt ∧ (enterSleep s).gge = s.gge ∧
    (enterSleep s).motorPar = s.motorPar ∧ (enterSleep s).blockPar = s.blockPar ∧ (enterSleep s).packPar = s.packPar ∧
    (enterSleep s).chargePar = s.chargePar ∧ (enterSleep s).dirtPar = s.dirtPar ∧
    (enterSleep s).idleSleepS = s.idleSleepS ∧ (enterSleep s).pending = s.pending := by simp [enterSleep]
@[simp] theorem wake_frame (cause : WakeCause) (s : State) : (wake cause s).sbt = s.sbt ∧ (wake cause s).gge = s.gge ∧
    (wake cause s).motorPar = s.motorPar ∧ (wake cause s).blockPar = s.blockPar ∧ (wake cause s).packPar = s.packPar ∧
    (wake cause s).chargePar = s.chargePar ∧ (wake cause s).dirtPar = s.dirtPar ∧
    (wake cause s).idleSleepS = s.idleSleepS ∧ (wake cause s).pending = s.pending := by simp [wake]
@[simp] theorem wakeIfAsleep_frame (cause : WakeCause) (s : State) : (wakeIfAsleep cause s).sbt = s.sbt ∧
    (wakeIfAsleep cause s).gge = s.gge ∧ (wakeIfAsleep cause s).motorPar = s.motorPar ∧
    (wakeIfAsleep cause s).blockPar = s.blockPar ∧ (wakeIfAsleep cause s).packPar = s.packPar ∧
    (wakeIfAsleep cause s).chargePar = s.chargePar ∧ (wakeIfAsleep cause s).dirtPar = s.dirtPar ∧
    (wakeIfAsleep cause s).idleSleepS = s.idleSleepS ∧ (wakeIfAsleep cause s).pending = s.pending := by unfold wakeIfAsleep; split <;> simp
@[simp] theorem idleZero_frame (s : State) : (idleZero s).trg = s.trg ∧ (idleZero s).drs = s.drs ∧
    (idleZero s).mdr = s.mdr ∧ (idleZero s).srg = s.srg ∧ (idleZero s).sbt = s.sbt ∧ (idleZero s).blm = s.blm ∧
    (idleZero s).dse = s.dse ∧ (idleZero s).pkm = s.pkm ∧ (idleZero s).gge = s.gge ∧ (idleZero s).chc = s.chc ∧
    (idleZero s).dlk = s.dlk ∧ (idleZero s).icn = s.icn ∧ (idleZero s).fmg = s.fmg ∧ (idleZero s).mpt = s.mpt ∧
    (idleZero s).motorPar = s.motorPar ∧ (idleZero s).blockPar = s.blockPar ∧ (idleZero s).packPar = s.packPar ∧
    (idleZero s).chargePar = s.chargePar ∧ (idleZero s).dirtPar = s.dirtPar ∧ (idleZero s).idleSleepS = s.idleSleepS ∧
    (idleZero s).pending = s.pending := by simp [idleZero]
@[simp] theorem contactRisen_frame (s : State) : (contactRisen s).sbt = s.sbt ∧ (contactRisen s).gge = s.gge ∧
    (contactRisen s).motorPar = s.motorPar ∧ (contactRisen s).blockPar = s.blockPar ∧ (contactRisen s).packPar =
    s.packPar ∧ (contactRisen s).chargePar = s.chargePar ∧ (contactRisen s).dirtPar = s.dirtPar ∧ (contactRisen
    s).idleSleepS = s.idleSleepS ∧ (contactRisen s).pending = s.pending := by unfold contactRisen; dsimp only; split <;> simp
@[simp] theorem contactSeen_frame (s : State) : (contactSeen s).sbt = s.sbt ∧ (contactSeen s).gge = s.gge ∧
    (contactSeen s).motorPar = s.motorPar ∧ (contactSeen s).blockPar = s.blockPar ∧ (contactSeen s).packPar =
    s.packPar ∧ (contactSeen s).chargePar = s.chargePar ∧ (contactSeen s).dirtPar = s.dirtPar ∧ (contactSeen
    s).idleSleepS = s.idleSleepS ∧ (contactSeen s).pending = s.pending := by unfold contactSeen; split <;> simp
@[simp] theorem startAtOnce_frame (s : State) : (startAtOnce s).sbt = s.sbt ∧ (startAtOnce s).gge = s.gge ∧
    (startAtOnce s).motorPar = s.motorPar ∧ (startAtOnce s).blockPar = s.blockPar ∧ (startAtOnce s).packPar =
    s.packPar ∧ (startAtOnce s).chargePar = s.chargePar ∧ (startAtOnce s).dirtPar = s.dirtPar ∧ (startAtOnce
    s).idleSleepS = s.idleSleepS ∧ (startAtOnce s).pending = s.pending := by simp [startAtOnce]
@[simp] theorem resetValues_frame (cause : ResetCause) (s : State) : (resetValues cause s).pending = s.pending := rfl
@[simp] theorem powerReset_frame (cause : ResetCause) (s : State) : (powerReset cause s).pending = s.pending := by simp [powerReset]
@[simp] theorem hostReset_frame (s : State) : (hostReset s).pending = s.pending := by simp [hostReset]
@[simp] theorem resetRequest_frame (tag : Byte) (s : State) : (resetRequest tag s).pending = s.pending := by simp [resetRequest]
@[simp] theorem shipEntry_frame (s : State) : (shipEntry s).pending = s.pending := by unfold shipEntry; split <;> simp
@[simp] theorem makeEntry_frame (s : State) : (makeEntry s).pending = s.pending := by unfold makeEntry; split <;> simp

/-! ### The scan -/

@[simp] theorem seventhCell_frame (sc : Scan) (s : State) : (seventhCell sc s).trg = s.trg ∧
    (seventhCell sc s).drs = s.drs ∧ (seventhCell sc s).mdr = s.mdr ∧ (seventhCell sc s).srg = s.srg ∧
    (seventhCell sc s).sbt = s.sbt ∧ (seventhCell sc s).blm = s.blm ∧ (seventhCell sc s).dse = s.dse ∧
    (seventhCell sc s).gge = s.gge ∧ (seventhCell sc s).chc = s.chc ∧ (seventhCell sc s).dlk = s.dlk ∧
    (seventhCell sc s).icn = s.icn ∧ (seventhCell sc s).fmg = s.fmg ∧ (seventhCell sc s).mpt = s.mpt ∧
    (seventhCell sc s).slc = s.slc ∧ (seventhCell sc s).motorPar = s.motorPar ∧
    (seventhCell sc s).blockPar = s.blockPar ∧ (seventhCell sc s).packPar = s.packPar ∧
    (seventhCell sc s).chargePar = s.chargePar ∧ (seventhCell sc s).dirtPar = s.dirtPar ∧
    (seventhCell sc s).idleSleepS = s.idleSleepS ∧ (seventhCell sc s).pending = s.pending := by simp [seventhCell]
@[simp] theorem recordCells_frame (r : ScanReading) (s : State) : (recordCells r s).trg = s.trg ∧
    (recordCells r s).drs = s.drs ∧ (recordCells r s).mdr = s.mdr ∧ (recordCells r s).srg = s.srg ∧
    (recordCells r s).sbt = s.sbt ∧ (recordCells r s).blm = s.blm ∧ (recordCells r s).dse = s.dse ∧
    (recordCells r s).gge = s.gge ∧ (recordCells r s).chc = s.chc ∧ (recordCells r s).dlk = s.dlk ∧
    (recordCells r s).icn = s.icn ∧ (recordCells r s).fmg = s.fmg ∧ (recordCells r s).mpt = s.mpt ∧
    (recordCells r s).slc = s.slc ∧ (recordCells r s).motorPar = s.motorPar ∧
    (recordCells r s).blockPar = s.blockPar ∧ (recordCells r s).packPar = s.packPar ∧
    (recordCells r s).chargePar = s.chargePar ∧ (recordCells r s).dirtPar = s.dirtPar ∧
    (recordCells r s).idleSleepS = s.idleSleepS ∧ (recordCells r s).pending = s.pending := by simp [recordCells]
@[simp] theorem recordOthers_frame (r : ScanReading) (s : State) : (recordOthers r s).trg = s.trg ∧
    (recordOthers r s).drs = s.drs ∧ (recordOthers r s).mdr = s.mdr ∧ (recordOthers r s).srg = s.srg ∧
    (recordOthers r s).sbt = s.sbt ∧ (recordOthers r s).blm = s.blm ∧ (recordOthers r s).dse = s.dse ∧
    (recordOthers r s).gge = s.gge ∧ (recordOthers r s).chc = s.chc ∧ (recordOthers r s).dlk = s.dlk ∧
    (recordOthers r s).icn = s.icn ∧ (recordOthers r s).fmg = s.fmg ∧ (recordOthers r s).mpt = s.mpt ∧
    (recordOthers r s).slc = s.slc ∧ (recordOthers r s).motorPar = s.motorPar ∧
    (recordOthers r s).blockPar = s.blockPar ∧ (recordOthers r s).packPar = s.packPar ∧
    (recordOthers r s).chargePar = s.chargePar ∧ (recordOthers r s).dirtPar = s.dirtPar ∧
    (recordOthers r s).idleSleepS = s.idleSleepS ∧ (recordOthers r s).pending = s.pending := by simp [recordOthers]
@[simp] theorem judgePackHot_frame (s : State) : (judgePackHot s).sbt = s.sbt ∧ (judgePackHot s).gge = s.gge ∧
    (judgePackHot s).motorPar = s.motorPar ∧ (judgePackHot s).blockPar = s.blockPar ∧
    (judgePackHot s).packPar = s.packPar ∧ (judgePackHot s).chargePar = s.chargePar ∧
    (judgePackHot s).dirtPar = s.dirtPar ∧ (judgePackHot s).idleSleepS = s.idleSleepS ∧
    (judgePackHot s).pending = s.pending := by
  unfold judgePackHot
  repeat' split
  all_goals simp
@[simp] theorem enterCutoff_frame (s : State) : (enterCutoff s).sbt = s.sbt ∧ (enterCutoff s).motorPar = s.motorPar ∧
    (enterCutoff s).blockPar = s.blockPar ∧ (enterCutoff s).packPar = s.packPar ∧
    (enterCutoff s).chargePar = s.chargePar ∧ (enterCutoff s).dirtPar = s.dirtPar ∧
    (enterCutoff s).idleSleepS = s.idleSleepS ∧ (enterCutoff s).pending = s.pending := by simp [enterCutoff]
@[simp] theorem ovEvent_frame (cell : Nat) (s : State) : (ovEvent cell s).trg = s.trg ∧ (ovEvent cell s).mdr = s.mdr ∧
    (ovEvent cell s).srg = s.srg ∧ (ovEvent cell s).sbt = s.sbt ∧ (ovEvent cell s).blm = s.blm ∧
    (ovEvent cell s).dse = s.dse ∧ (ovEvent cell s).gge = s.gge ∧ (ovEvent cell s).slc = s.slc ∧
    (ovEvent cell s).motorPar = s.motorPar ∧ (ovEvent cell s).blockPar = s.blockPar ∧
    (ovEvent cell s).packPar = s.packPar ∧ (ovEvent cell s).chargePar = s.chargePar ∧
    (ovEvent cell s).dirtPar = s.dirtPar ∧ (ovEvent cell s).idleSleepS = s.idleSleepS ∧
    (ovEvent cell s).pending = s.pending := by unfold ovEvent; dsimp only; split <;> simp
@[simp] theorem judgeRelease_frame (s : State) : (judgeRelease s).trg = s.trg ∧ (judgeRelease s).mdr = s.mdr ∧
    (judgeRelease s).srg = s.srg ∧ (judgeRelease s).sbt = s.sbt ∧ (judgeRelease s).blm = s.blm ∧
    (judgeRelease s).dse = s.dse ∧ (judgeRelease s).gge = s.gge ∧ (judgeRelease s).chc = s.chc ∧
    (judgeRelease s).dlk = s.dlk ∧ (judgeRelease s).fmg = s.fmg ∧ (judgeRelease s).slc = s.slc ∧
    (judgeRelease s).motorPar = s.motorPar ∧ (judgeRelease s).blockPar = s.blockPar ∧
    (judgeRelease s).packPar = s.packPar ∧ (judgeRelease s).chargePar = s.chargePar ∧
    (judgeRelease s).dirtPar = s.dirtPar ∧ (judgeRelease s).idleSleepS = s.idleSleepS ∧
    (judgeRelease s).pending = s.pending := by unfold judgeRelease; split <;> simp
@[simp] theorem judgePackState_frame (s : State) : (judgePackState s).trg = s.trg ∧ (judgePackState s).mdr = s.mdr ∧
    (judgePackState s).srg = s.srg ∧ (judgePackState s).sbt = s.sbt ∧ (judgePackState s).blm = s.blm ∧
    (judgePackState s).dse = s.dse ∧ (judgePackState s).gge = s.gge ∧ (judgePackState s).chc = s.chc ∧
    (judgePackState s).dlk = s.dlk ∧ (judgePackState s).fmg = s.fmg ∧ (judgePackState s).slc = s.slc ∧
    (judgePackState s).motorPar = s.motorPar ∧ (judgePackState s).blockPar = s.blockPar ∧
    (judgePackState s).packPar = s.packPar ∧ (judgePackState s).chargePar = s.chargePar ∧
    (judgePackState s).dirtPar = s.dirtPar ∧ (judgePackState s).idleSleepS = s.idleSleepS ∧
    (judgePackState s).pending = s.pending := by
  unfold judgePackState
  dsimp only
  repeat' split
  all_goals simp
@[simp] theorem moveAllowances_frame (sc : Scan) (s : State) : (moveAllowances sc s).trg = s.trg ∧
    (moveAllowances sc s).drs = s.drs ∧ (moveAllowances sc s).mdr = s.mdr ∧ (moveAllowances sc s).srg = s.srg ∧
    (moveAllowances sc s).sbt = s.sbt ∧ (moveAllowances sc s).blm = s.blm ∧ (moveAllowances sc s).dse = s.dse ∧
    (moveAllowances sc s).gge = s.gge ∧ (moveAllowances sc s).chc = s.chc ∧ (moveAllowances sc s).dlk = s.dlk ∧
    (moveAllowances sc s).icn = s.icn ∧ (moveAllowances sc s).fmg = s.fmg ∧ (moveAllowances sc s).mpt = s.mpt ∧
    (moveAllowances sc s).slc = s.slc ∧ (moveAllowances sc s).motorPar = s.motorPar ∧
    (moveAllowances sc s).blockPar = s.blockPar ∧ (moveAllowances sc s).packPar = s.packPar ∧
    (moveAllowances sc s).chargePar = s.chargePar ∧ (moveAllowances sc s).dirtPar = s.dirtPar ∧
    (moveAllowances sc s).idleSleepS = s.idleSleepS ∧ (moveAllowances sc s).pending = s.pending := by simp [moveAllowances]
@[simp] theorem gaugeStep_frame (sc : Scan) (cutoffNow : Bool) (s : State) : (gaugeStep sc cutoffNow s).trg = s.trg ∧
    (gaugeStep sc cutoffNow s).drs = s.drs ∧ (gaugeStep sc cutoffNow s).mdr = s.mdr ∧
    (gaugeStep sc cutoffNow s).srg = s.srg ∧ (gaugeStep sc cutoffNow s).sbt = s.sbt ∧
    (gaugeStep sc cutoffNow s).blm = s.blm ∧ (gaugeStep sc cutoffNow s).dse = s.dse ∧
    (gaugeStep sc cutoffNow s).pkm = s.pkm ∧ (gaugeStep sc cutoffNow s).chc = s.chc ∧
    (gaugeStep sc cutoffNow s).dlk = s.dlk ∧ (gaugeStep sc cutoffNow s).fmg = s.fmg ∧
    (gaugeStep sc cutoffNow s).slc = s.slc ∧ (gaugeStep sc cutoffNow s).motorPar = s.motorPar ∧
    (gaugeStep sc cutoffNow s).blockPar = s.blockPar ∧ (gaugeStep sc cutoffNow s).packPar = s.packPar ∧
    (gaugeStep sc cutoffNow s).chargePar = s.chargePar ∧ (gaugeStep sc cutoffNow s).dirtPar = s.dirtPar ∧
    (gaugeStep sc cutoffNow s).idleSleepS = s.idleSleepS ∧ (gaugeStep sc cutoffNow s).pending = s.pending := by unfold gaugeStep; dsimp only; split <;> simp
@[simp] theorem deliverTInv_frame (t : Int) (s : State) : (deliverTInv t s).sbt = s.sbt ∧
    (deliverTInv t s).gge = s.gge ∧ (deliverTInv t s).motorPar = s.motorPar ∧
    (deliverTInv t s).blockPar = s.blockPar ∧ (deliverTInv t s).packPar = s.packPar ∧
    (deliverTInv t s).chargePar = s.chargePar ∧ (deliverTInv t s).dirtPar = s.dirtPar ∧
    (deliverTInv t s).idleSleepS = s.idleSleepS ∧ (deliverTInv t s).pending = s.pending := by
  unfold deliverTInv
  dsimp only
  repeat' split
  all_goals simp
@[simp] theorem deliverScan_frame (s : State) : (deliverScan s).sbt = s.sbt ∧ (deliverScan s).motorPar = s.motorPar ∧
    (deliverScan s).blockPar = s.blockPar ∧ (deliverScan s).packPar = s.packPar ∧
    (deliverScan s).chargePar = s.chargePar ∧ (deliverScan s).dirtPar = s.dirtPar ∧
    (deliverScan s).idleSleepS = s.idleSleepS ∧ (deliverScan s).pending = s.pending := by simp [deliverScan]
@[simp] theorem judgeDeepUv_frame (s : State) : (judgeDeepUv s).1.trg = s.trg ∧ (judgeDeepUv s).1.drs = s.drs ∧
    (judgeDeepUv s).1.mdr = s.mdr ∧ (judgeDeepUv s).1.srg = s.srg ∧ (judgeDeepUv s).1.sbt = s.sbt ∧
    (judgeDeepUv s).1.blm = s.blm ∧ (judgeDeepUv s).1.dse = s.dse ∧ (judgeDeepUv s).1.gge = s.gge ∧
    (judgeDeepUv s).1.chc = s.chc ∧ (judgeDeepUv s).1.dlk = s.dlk ∧ (judgeDeepUv s).1.icn = s.icn ∧
    (judgeDeepUv s).1.fmg = s.fmg ∧ (judgeDeepUv s).1.mpt = s.mpt ∧ (judgeDeepUv s).1.slc = s.slc ∧
    (judgeDeepUv s).1.motorPar = s.motorPar ∧ (judgeDeepUv s).1.blockPar = s.blockPar ∧
    (judgeDeepUv s).1.packPar = s.packPar ∧ (judgeDeepUv s).1.chargePar = s.chargePar ∧
    (judgeDeepUv s).1.dirtPar = s.dirtPar ∧ (judgeDeepUv s).1.idleSleepS = s.idleSleepS ∧
    (judgeDeepUv s).1.pending = s.pending := by
  unfold judgeDeepUv
  simp
@[simp] theorem ovEvents_frame (l : List Nat) (s : State) : (l.foldl (fun s i => ovEvent i s) s).trg = s.trg ∧
    (l.foldl (fun s i => ovEvent i s) s).mdr = s.mdr ∧ (l.foldl (fun s i => ovEvent i s) s).srg = s.srg ∧
    (l.foldl (fun s i => ovEvent i s) s).sbt = s.sbt ∧ (l.foldl (fun s i => ovEvent i s) s).blm = s.blm ∧
    (l.foldl (fun s i => ovEvent i s) s).dse = s.dse ∧ (l.foldl (fun s i => ovEvent i s) s).gge = s.gge ∧
    (l.foldl (fun s i => ovEvent i s) s).slc = s.slc ∧ (l.foldl (fun s i => ovEvent i s) s).motorPar = s.motorPar ∧
    (l.foldl (fun s i => ovEvent i s) s).blockPar = s.blockPar ∧
    (l.foldl (fun s i => ovEvent i s) s).packPar = s.packPar ∧
    (l.foldl (fun s i => ovEvent i s) s).chargePar = s.chargePar ∧
    (l.foldl (fun s i => ovEvent i s) s).dirtPar = s.dirtPar ∧
    (l.foldl (fun s i => ovEvent i s) s).idleSleepS = s.idleSleepS ∧
    (l.foldl (fun s i => ovEvent i s) s).pending = s.pending := by
  induction l generalizing s with
  | nil => simp
  | cons _ l ih => simp [ih]
@[simp] theorem protectCells_frame (before : Pkm) (s : State) : (protectCells before s).1.sbt = s.sbt ∧
    (protectCells before s).1.motorPar = s.motorPar ∧ (protectCells before s).1.blockPar = s.blockPar ∧
    (protectCells before s).1.packPar = s.packPar ∧ (protectCells before s).1.chargePar = s.chargePar ∧
    (protectCells before s).1.dirtPar = s.dirtPar ∧ (protectCells before s).1.idleSleepS = s.idleSleepS ∧
    (protectCells before s).1.pending = s.pending := by
  unfold protectCells
  dsimp only
  split <;> simp
@[simp] theorem watchScanEnd_frame (r : ScanReading) (s : State) : (watchScanEnd r s).pending = s.pending := by
  unfold watchScanEnd
  dsimp only
  repeat' split
  all_goals simp
@[simp] theorem onScanEnd_frame (sc : Scan) (r : ScanReading) (s : State) : (onScanEnd sc r s).pending = s.pending := by
  unfold onScanEnd
  dsimp only
  repeat' split
  all_goals simp
@[simp] theorem scanEnd_frame (r : ScanReading) (s : State) : (scanEnd r s).pending = s.pending := by
  unfold scanEnd
  dsimp only
  repeat' split
  all_goals simp

/-! ### Parameter writes -/

@[simp] theorem writeBlockTime_frame (v : Nat) (s : State) : (writeBlockTime v s).sbt = s.sbt ∧
    (writeBlockTime v s).gge = s.gge ∧ (writeBlockTime v s).motorPar = s.motorPar ∧
    (writeBlockTime v s).packPar = s.packPar ∧ (writeBlockTime v s).chargePar = s.chargePar ∧
    (writeBlockTime v s).dirtPar = s.dirtPar ∧ (writeBlockTime v s).idleSleepS = s.idleSleepS ∧
    (writeBlockTime v s).pending = s.pending := by simp [writeBlockTime]
@[simp] theorem writeRetryTime_frame (v : Nat) (s : State) : (writeRetryTime v s).trg = s.trg ∧
    (writeRetryTime v s).mdr = s.mdr ∧ (writeRetryTime v s).srg = s.srg ∧ (writeRetryTime v s).sbt = s.sbt ∧
    (writeRetryTime v s).dse = s.dse ∧ (writeRetryTime v s).pkm = s.pkm ∧ (writeRetryTime v s).gge = s.gge ∧
    (writeRetryTime v s).chc = s.chc ∧ (writeRetryTime v s).dlk = s.dlk ∧ (writeRetryTime v s).icn = s.icn ∧
    (writeRetryTime v s).fmg = s.fmg ∧ (writeRetryTime v s).mpt = s.mpt ∧ (writeRetryTime v s).slc = s.slc ∧
    (writeRetryTime v s).motorPar = s.motorPar ∧ (writeRetryTime v s).packPar = s.packPar ∧
    (writeRetryTime v s).chargePar = s.chargePar ∧ (writeRetryTime v s).dirtPar = s.dirtPar ∧
    (writeRetryTime v s).idleSleepS = s.idleSleepS ∧ (writeRetryTime v s).pending = s.pending := by simp [writeRetryTime]
@[simp] theorem writeIMax_frame (v : Nat) (s : State) : (writeIMax v s).trg = s.trg ∧ (writeIMax v s).drs = s.drs ∧
    (writeIMax v s).mdr = s.mdr ∧ (writeIMax v s).srg = s.srg ∧ (writeIMax v s).sbt = s.sbt ∧
    (writeIMax v s).blm = s.blm ∧ (writeIMax v s).dse = s.dse ∧ (writeIMax v s).gge = s.gge ∧
    (writeIMax v s).chc = s.chc ∧ (writeIMax v s).dlk = s.dlk ∧ (writeIMax v s).icn = s.icn ∧
    (writeIMax v s).fmg = s.fmg ∧ (writeIMax v s).mpt = s.mpt ∧ (writeIMax v s).slc = s.slc ∧
    (writeIMax v s).motorPar = s.motorPar ∧ (writeIMax v s).blockPar = s.blockPar ∧
    (writeIMax v s).chargePar = s.chargePar ∧ (writeIMax v s).dirtPar = s.dirtPar ∧
    (writeIMax v s).idleSleepS = s.idleSleepS ∧ (writeIMax v s).pending = s.pending := by simp [writeIMax]
@[simp] theorem expirePrecharge_frame (s : State) : (expirePrecharge s).trg = s.trg ∧
    (expirePrecharge s).mdr = s.mdr ∧ (expirePrecharge s).srg = s.srg ∧ (expirePrecharge s).sbt = s.sbt ∧
    (expirePrecharge s).blm = s.blm ∧ (expirePrecharge s).dse = s.dse ∧ (expirePrecharge s).gge = s.gge ∧
    (expirePrecharge s).slc = s.slc ∧ (expirePrecharge s).motorPar = s.motorPar ∧
    (expirePrecharge s).blockPar = s.blockPar ∧ (expirePrecharge s).packPar = s.packPar ∧
    (expirePrecharge s).chargePar = s.chargePar ∧ (expirePrecharge s).dirtPar = s.dirtPar ∧
    (expirePrecharge s).idleSleepS = s.idleSleepS ∧ (expirePrecharge s).pending = s.pending := by unfold expirePrecharge; split <;> simp
@[simp] theorem expireCharge_frame (s : State) : (expireCharge s).trg = s.trg ∧ (expireCharge s).mdr = s.mdr ∧
    (expireCharge s).srg = s.srg ∧ (expireCharge s).sbt = s.sbt ∧ (expireCharge s).blm = s.blm ∧
    (expireCharge s).dse = s.dse ∧ (expireCharge s).gge = s.gge ∧ (expireCharge s).slc = s.slc ∧
    (expireCharge s).motorPar = s.motorPar ∧ (expireCharge s).blockPar = s.blockPar ∧
    (expireCharge s).packPar = s.packPar ∧ (expireCharge s).chargePar = s.chargePar ∧
    (expireCharge s).dirtPar = s.dirtPar ∧ (expireCharge s).idleSleepS = s.idleSleepS ∧
    (expireCharge s).pending = s.pending := by unfold expireCharge; split <;> simp
@[simp] theorem expireBalance_frame (s : State) : (expireBalance s).trg = s.trg ∧ (expireBalance s).mdr = s.mdr ∧
    (expireBalance s).srg = s.srg ∧ (expireBalance s).sbt = s.sbt ∧ (expireBalance s).blm = s.blm ∧
    (expireBalance s).dse = s.dse ∧ (expireBalance s).fmg = s.fmg ∧ (expireBalance s).slc = s.slc ∧
    (expireBalance s).motorPar = s.motorPar ∧ (expireBalance s).blockPar = s.blockPar ∧
    (expireBalance s).packPar = s.packPar ∧ (expireBalance s).chargePar = s.chargePar ∧
    (expireBalance s).dirtPar = s.dirtPar ∧ (expireBalance s).idleSleepS = s.idleSleepS ∧
    (expireBalance s).pending = s.pending := by unfold expireBalance; split <;> simp
@[simp] theorem writeChargeCurrent_frame (v : Nat) (s : State) : (writeChargeCurrent v s).trg = s.trg ∧
    (writeChargeCurrent v s).drs = s.drs ∧ (writeChargeCurrent v s).mdr = s.mdr ∧
    (writeChargeCurrent v s).srg = s.srg ∧ (writeChargeCurrent v s).sbt = s.sbt ∧
    (writeChargeCurrent v s).blm = s.blm ∧ (writeChargeCurrent v s).dse = s.dse ∧
    (writeChargeCurrent v s).pkm = s.pkm ∧ (writeChargeCurrent v s).gge = s.gge ∧
    (writeChargeCurrent v s).dlk = s.dlk ∧ (writeChargeCurrent v s).icn = s.icn ∧
    (writeChargeCurrent v s).fmg = s.fmg ∧ (writeChargeCurrent v s).mpt = s.mpt ∧
    (writeChargeCurrent v s).slc = s.slc ∧ (writeChargeCurrent v s).motorPar = s.motorPar ∧
    (writeChargeCurrent v s).blockPar = s.blockPar ∧ (writeChargeCurrent v s).packPar = s.packPar ∧
    (writeChargeCurrent v s).dirtPar = s.dirtPar ∧ (writeChargeCurrent v s).idleSleepS = s.idleSleepS ∧
    (writeChargeCurrent v s).pending = s.pending := by simp [writeChargeCurrent]
@[simp] theorem writePrechargeTimeout_frame (v : Nat) (s : State) : (writePrechargeTimeout v s).trg = s.trg ∧
    (writePrechargeTimeout v s).mdr = s.mdr ∧ (writePrechargeTimeout v s).srg = s.srg ∧
    (writePrechargeTimeout v s).sbt = s.sbt ∧ (writePrechargeTimeout v s).blm = s.blm ∧
    (writePrechargeTimeout v s).dse = s.dse ∧ (writePrechargeTimeout v s).gge = s.gge ∧
    (writePrechargeTimeout v s).slc = s.slc ∧ (writePrechargeTimeout v s).motorPar = s.motorPar ∧
    (writePrechargeTimeout v s).blockPar = s.blockPar ∧ (writePrechargeTimeout v s).packPar = s.packPar ∧
    (writePrechargeTimeout v s).dirtPar = s.dirtPar ∧ (writePrechargeTimeout v s).idleSleepS = s.idleSleepS ∧
    (writePrechargeTimeout v s).pending = s.pending := by simp [writePrechargeTimeout]
@[simp] theorem writeChargeTimeout_frame (v : Nat) (s : State) : (writeChargeTimeout v s).trg = s.trg ∧
    (writeChargeTimeout v s).mdr = s.mdr ∧ (writeChargeTimeout v s).srg = s.srg ∧
    (writeChargeTimeout v s).sbt = s.sbt ∧ (writeChargeTimeout v s).blm = s.blm ∧
    (writeChargeTimeout v s).dse = s.dse ∧ (writeChargeTimeout v s).gge = s.gge ∧
    (writeChargeTimeout v s).slc = s.slc ∧ (writeChargeTimeout v s).motorPar = s.motorPar ∧
    (writeChargeTimeout v s).blockPar = s.blockPar ∧ (writeChargeTimeout v s).packPar = s.packPar ∧
    (writeChargeTimeout v s).dirtPar = s.dirtPar ∧ (writeChargeTimeout v s).idleSleepS = s.idleSleepS ∧
    (writeChargeTimeout v s).pending = s.pending := by simp [writeChargeTimeout]
@[simp] theorem writeBalanceTimeout_frame (v : Nat) (s : State) : (writeBalanceTimeout v s).trg = s.trg ∧
    (writeBalanceTimeout v s).mdr = s.mdr ∧ (writeBalanceTimeout v s).srg = s.srg ∧
    (writeBalanceTimeout v s).sbt = s.sbt ∧ (writeBalanceTimeout v s).blm = s.blm ∧
    (writeBalanceTimeout v s).dse = s.dse ∧ (writeBalanceTimeout v s).fmg = s.fmg ∧
    (writeBalanceTimeout v s).slc = s.slc ∧ (writeBalanceTimeout v s).motorPar = s.motorPar ∧
    (writeBalanceTimeout v s).blockPar = s.blockPar ∧ (writeBalanceTimeout v s).packPar = s.packPar ∧
    (writeBalanceTimeout v s).dirtPar = s.dirtPar ∧ (writeBalanceTimeout v s).idleSleepS = s.idleSleepS ∧
    (writeBalanceTimeout v s).pending = s.pending := by simp [writeBalanceTimeout]
@[simp] theorem writeTriggerMode_frame (m : TriggerMode) (s : State) : (writeTriggerMode m s).sbt = s.sbt ∧
    (writeTriggerMode m s).gge = s.gge ∧ (writeTriggerMode m s).motorPar = s.motorPar ∧
    (writeTriggerMode m s).blockPar = s.blockPar ∧ (writeTriggerMode m s).packPar = s.packPar ∧
    (writeTriggerMode m s).chargePar = s.chargePar ∧ (writeTriggerMode m s).dirtPar = s.dirtPar ∧
    (writeTriggerMode m s).idleSleepS = s.idleSleepS ∧ (writeTriggerMode m s).pending = s.pending := by unfold writeTriggerMode; split <;> simp
@[simp] theorem Param.write_frame (p : Param) (v : Int) (s : State) : (Param.write p v s).sbt = s.sbt ∧
    (Param.write p v s).pending = s.pending := by unfold Param.write; split <;> simp

/-! ### The host line -/

@[simp] theorem toHunt_frame (s : State) : (toHunt s).trg = s.trg ∧ (toHunt s).drs = s.drs ∧ (toHunt s).mdr = s.mdr ∧
    (toHunt s).srg = s.srg ∧ (toHunt s).sbt = s.sbt ∧ (toHunt s).blm = s.blm ∧ (toHunt s).dse = s.dse ∧
    (toHunt s).pkm = s.pkm ∧ (toHunt s).gge = s.gge ∧ (toHunt s).chc = s.chc ∧ (toHunt s).dlk = s.dlk ∧
    (toHunt s).icn = s.icn ∧ (toHunt s).fmg = s.fmg ∧ (toHunt s).slc = s.slc ∧ (toHunt s).motorPar = s.motorPar ∧
    (toHunt s).blockPar = s.blockPar ∧ (toHunt s).packPar = s.packPar ∧ (toHunt s).chargePar = s.chargePar ∧
    (toHunt s).dirtPar = s.dirtPar ∧ (toHunt s).idleSleepS = s.idleSleepS ∧ (toHunt s).pending = s.pending := by simp [toHunt]
@[simp] theorem discardFrame_frame (reason : DiscardReason) (s : State) : (discardFrame reason s).trg = s.trg ∧
    (discardFrame reason s).drs = s.drs ∧ (discardFrame reason s).mdr = s.mdr ∧ (discardFrame reason s).srg = s.srg ∧
    (discardFrame reason s).sbt = s.sbt ∧ (discardFrame reason s).blm = s.blm ∧ (discardFrame reason s).dse = s.dse ∧
    (discardFrame reason s).pkm = s.pkm ∧ (discardFrame reason s).gge = s.gge ∧ (discardFrame reason s).chc = s.chc ∧
    (discardFrame reason s).dlk = s.dlk ∧ (discardFrame reason s).slc = s.slc ∧
    (discardFrame reason s).motorPar = s.motorPar ∧ (discardFrame reason s).blockPar = s.blockPar ∧
    (discardFrame reason s).packPar = s.packPar ∧ (discardFrame reason s).chargePar = s.chargePar ∧
    (discardFrame reason s).dirtPar = s.dirtPar ∧ (discardFrame reason s).idleSleepS = s.idleSleepS ∧
    (discardFrame reason s).pending = s.pending := by simp [discardFrame]

end Sys2Proof.Machine
end

