-- ==== Sys2Proof/Laws/Ops.lean ====
section
/-! SUPPORT. What the shared operations do to the fields they change, once for each operation. -/

namespace Sys2Proof.Machine

/-! ### The lowest cell -/

/-- What `weakest` answers is of the list, and nothing of the list is lower. -/
theorem weakest_spec {l : List (Nat × Nat)} {c : Nat × Nat} (h : weakest l = some c) :
    c ∈ l ∧ ∀ d ∈ l, c.2 ≤ d.2 := by
  induction l generalizing c with
  | nil => simp [weakest] at h
  | cons x xs ih =>
    simp only [weakest] at h
    split at h
    · rename_i d hd
      obtain ⟨hm, hl⟩ := ih hd
      split at h <;> cases h <;> refine ⟨by simp [*], ?_⟩ <;> intro y hy <;> rcases List.mem_cons.1 hy with rfl | hy
      · omega
      · exact hl y hy
      · exact Nat.le_refl _
      · have := hl y hy; omega
    · rename_i hn
      cases h
      cases xs with
      | nil => simp
      | cons y ys =>
        simp only [weakest] at hn
        split at hn <;> (try split at hn) <;> cases hn

/-- Some cell answers where some cell is marked. -/
theorem weakest_isSome (c : Nat × Nat) (l : List (Nat × Nat)) : (weakest (c :: l)).isSome = true := by
  simp only [weakest]
  split <;> (try split) <;> rfl

/-! ### The dirt window -/

/-- A window is over from its length on (R76). -/
@[simp] theorem windowOver_iff (w : DirtWindow) : windowOver w = true ↔ w.length ≤ w.timer := by simp [windowOver]

/-- A window as it begins is not over, whatever length of 1 ms or more it has. -/
theorem windowOver_begun (w : DirtWindow) (h : w.timer = 0) (k : 0 < w.length) : windowOver w = false := by
  simp [windowOver, h]; omega

/-- The impacts are the places where a level at or below detect_level is followed by one above it (R89). -/
theorem impacts_eq_count (detect level : Nat) (signal : List Nat) :
    impacts detect level signal =
      ((level :: signal).zip signal).countP fun c => decide (c.1 ≤ detect ∧ detect < c.2) := by
  induction signal generalizing level with
  | nil => rfl
  | cons v rest ih =>
    simp only [impacts, List.zip_cons_cons, List.countP_cons, ih v]
    by_cases h : level ≤ detect ∧ detect < v <;> simp [h, Nat.add_comm]

/-- A window holds at most as many impacts as levels. -/
theorem impacts_le (detect level : Nat) (signal : List Nat) : impacts detect level signal ≤ signal.length := by
  induction signal generalizing level with
  | nil => simp [impacts]
  | cons v rest ih => simp only [impacts, List.length_cons]; have := ih v; split <;> omega

/-! ### Timers -/

/-- A timer has reached a length where it runs and stands at or beyond it. -/
@[simp] theorem reached_iff (n : Nat) (t : Option Nat) : reached n t = true ↔ ∃ v, t = some v ∧ n ≤ v := by
  cases t <;> simp [reached]

/-- Below block_time as it stands the block timer's expiry is void (R75). -/
theorem expireBlock_early (s : State) (h : reached s.blockPar.blockTime s.blm.blockTimer = false) :
    expireBlock s = s := by simp [expireBlock, h]

/-- Below retry_time as it stands the retry timer's expiry is void (R75). -/
theorem expireRetry_early (s : State) (h : reached s.blockPar.retryTime s.blm.retryTimer = false) :
    expireRetry s = s := by simp [expireRetry, h]

/-! ### The Message Port -/

/-- A raise leaves the receiver, the replies, the transmitter and the enables alone. -/
@[simp] theorem raise_port (n : Notice) (s : State) :
    (raise n s).mpt.rx = s.mpt.rx ∧ (raise n s).mpt.rxBytes = s.mpt.rxBytes ∧ (raise n s).mpt.rxGap = s.mpt.rxGap ∧
    (raise n s).mpt.outstanding = s.mpt.outstanding ∧ (raise n s).mpt.replies = s.mpt.replies ∧
    (raise n s).mpt.tx = s.mpt.tx ∧ (raise n s).mpt.enables = s.mpt.enables ∧
    (raise n s).mpt.linkErr = s.mpt.linkErr ∧ (raise n s).mpt.dropped = s.mpt.dropped := by
  unfold raise
  repeat' split
  all_goals simp

/-- A raise leaves the counters' records alone. -/
@[simp] theorem raise_counters (n : Notice) (s : State) : (raise n s).icn.counters = s.icn.counters := by
  unfold raise clearPendingReach
  repeat' split
  all_goals simp

/-- The transmitter's start leaves everything of the port but itself and the notice queue alone. -/
@[simp] theorem beginTransmission_port (s : State) :
    (beginTransmission s).mpt.rx = s.mpt.rx ∧ (beginTransmission s).mpt.rxBytes = s.mpt.rxBytes ∧
    (beginTransmission s).mpt.rxGap = s.mpt.rxGap ∧ (beginTransmission s).mpt.outstanding = s.mpt.outstanding ∧
    (beginTransmission s).mpt.replies = s.mpt.replies ∧ (beginTransmission s).mpt.enables = s.mpt.enables ∧
    (beginTransmission s).mpt.linkErr = s.mpt.linkErr ∧ (beginTransmission s).mpt.dropped = s.mpt.dropped ∧
    (beginTransmission s).icn.counters = s.icn.counters := by
  unfold beginTransmission clearPendingReach
  repeat' split
  all_goals simp

/-- A transmitter that sends, or that has nothing to send, begins nothing. -/
theorem beginTransmission_of_busy (s : State) (h : s.mpt.tx.isSome = true) : beginTransmission s = s := by
  unfold beginTransmission
  cases hx : s.mpt.tx with
  | none => simp [hx] at h
  | some f => simp

/-- Started once, the transmitter begins nothing more. -/
@[simp] theorem beginTransmission_twice (s : State) :
    beginTransmission (beginTransmission s) = beginTransmission s := by
  by_cases h : s.slc.power = .on ∧ s.mpt.tx = none
  · cases hr : s.mpt.replies with
    | cons r rs => exact beginTransmission_of_busy _ (by simp [beginTransmission, h, hr])
    | nil =>
      cases hn : s.mpt.notices with
      | cons e es =>
        refine beginTransmission_of_busy _ ?_
        simp only [beginTransmission, h, hr, hn, and_self, if_true]
        split <;> simp
      | nil => simp [beginTransmission, h, hr, hn]
  · simp [beginTransmission, h]

/-- The kinds pending after a raise: those pending before, with the raised one at the tail if it was not. -/
theorem enqueue_indices (n : Notice) (now : Uptime) (l : List NoticeEntry) :
    (enqueue n now l).map (fun e => e.notice.index) =
      if n.index ∈ l.map (fun e => e.notice.index) then l.map (fun e => e.notice.index)
      else l.map (fun e => e.notice.index) ++ [n.index] := by
  induction l with
  | nil => simp [enqueue]
  | cons e rest ih =>
    by_cases h : e.notice.index = n.index
    · simp [enqueue, h]
    · have h' : ¬ n.index = e.notice.index := fun k => h k.symm
      simp only [enqueue, if_neg h, List.map_cons, ih, List.mem_cons, h', false_or]
      split <;> simp

/-! ### The Intake Counters -/

/-- The port's outstanding request, replies, transmitter and enables stand as they stood. -/
def PortKept (s t : State) : Prop :=
  t.mpt.outstanding = s.mpt.outstanding ∧ t.mpt.replies = s.mpt.replies ∧ t.mpt.tx = s.mpt.tx ∧
    t.mpt.enables = s.mpt.enables

theorem PortKept.trans {s t u : State} (h : PortKept s t) (k : PortKept t u) : PortKept s u := by
  simp only [PortKept] at h k ⊢
  simp only [k, h, and_self]

theorem startWaiting_portKept (judge : Nat → State → State) (i j : Nat) (s : State)
    (h : ∀ j t, PortKept t (judge j t)) : PortKept s (startWaiting judge i j s) := by
  have put (c : Counter) : PortKept s (putCounter j c s) := by simp [PortKept]
  unfold startWaiting
  dsimp only
  split
  · split
    · exact (put _).trans (h _ _)
    · exact put _
  · simp [PortKept]

theorem reach_portKept (fuel i : Nat) (s : State) : PortKept s (reach fuel i s) := by
  induction fuel generalizing i s with
  | zero => simp [reach, PortKept]
  | succ n ih =>
    have first : PortKept s (notifyReach i (putCounter i (reachedCounter (s.icn.counters.get i)) s)) := by
      unfold notifyReach
      split <;> simp [PortKept]
    have start (j : Nat) (t : State) : PortKept t (startWaiting (reach n) i j t) :=
      startWaiting_portKept _ _ _ _ fun j t => ih j t
    exact (((first.trans (start 0 _)).trans (start 1 _)).trans (start 2 _)).trans (start 3 _)

/-- Counting leaves the port's outstanding request, replies, transmitter and enables alone. -/
@[simp] theorem reach_port (fuel i : Nat) (s : State) :
    (reach fuel i s).mpt.outstanding = s.mpt.outstanding ∧ (reach fuel i s).mpt.replies = s.mpt.replies ∧
    (reach fuel i s).mpt.tx = s.mpt.tx ∧ (reach fuel i s).mpt.enables = s.mpt.enables :=
  reach_portKept fuel i s

@[simp] theorem countEvents_port (l : List (CounterSource × CountAmount)) (s : State) :
    (countEvents l s).mpt.outstanding = s.mpt.outstanding ∧
    (countEvents l s).mpt.replies = s.mpt.replies ∧ (countEvents l s).mpt.tx = s.mpt.tx ∧
    (countEvents l s).mpt.enables = s.mpt.enables := by
  have judge (i : Nat) (t : State) :
      (judgeReach i t).mpt.outstanding = t.mpt.outstanding ∧ (judgeReach i t).mpt.replies = t.mpt.replies ∧
      (judgeReach i t).mpt.tx = t.mpt.tx ∧ (judgeReach i t).mpt.enables = t.mpt.enables := by
    unfold judgeReach
    split <;> simp
  unfold countEvents
  dsimp only
  repeat' split
  all_goals simp [judge]

@[simp] theorem countEvent_port (source : CounterSource) (a : CountAmount) (s : State) :
    (countEvent source a s).mpt.outstanding = s.mpt.outstanding ∧
    (countEvent source a s).mpt.replies = s.mpt.replies ∧ (countEvent source a s).mpt.tx = s.mpt.tx ∧
    (countEvent source a s).mpt.enables = s.mpt.enables :=
  countEvents_port [(source, a)] s

/-! ### The Demand Resolver and the Fault Manager -/

/-- An evaluation changes the record alone (R22). -/
@[simp] theorem evaluate_drs (s : State) :
    (evaluate s).drs =
      { s.drs with record := if s.drs.record.runDemand then runningRecord s else DemandRecord.idle } := rfl

/-- An evaluation leaves run demand as it stands. -/
@[simp] theorem evaluate_runDemand (s : State) : (evaluate s).drs.record.runDemand = s.drs.record.runDemand := by
  cases h : s.drs.record.runDemand <;> simp [h, runningRecord, DemandRecord.idle]

/-- A raise noted leaves the responses alone, and the trip record but for its later causes. -/
@[simp] theorem noteRaise_fmg (k : FaultKind) (d : Detail) (s : State) :
    (noteRaise k d s).fmg.syncLoss = s.fmg.syncLoss ∧
    (noteRaise k d s).fmg.blockagePersist = s.fmg.blockagePersist ∧
    (noteRaise k d s).fmg.sensorBlocked = s.fmg.sensorBlocked ∧ (noteRaise k d s).fmg.linkErr = s.fmg.linkErr ∧
    (noteRaise k d s).fmg.trip.isSome = s.fmg.trip.isSome := by
  unfold noteRaise laterCause tableRaise
  dsimp only
  split <;> simp

/-! ### Charging -/

/-- An exchange sent leaves the dock state, the contact and the grant alone. -/
@[simp] theorem sendDue_dock (s : State) :
    (sendDue s).dlk.state = s.dlk.state ∧ (sendDue s).dlk.contact = s.dlk.contact ∧
    (sendDue s).dlk.grant = s.dlk.grant ∧ (sendDue s).dlk.offer = s.dlk.offer ∧
    (sendDue s).dlk.released = s.dlk.released := by
  unfold sendDue sendRequest startExchange
  repeat' split
  all_goals simp

@[simp] theorem qualifyEntered_dock (s : State) :
    (qualifyEntered s).dlk.state = s.dlk.state ∧ (qualifyEntered s).dlk.contact = s.dlk.contact ∧
    (qualifyEntered s).dlk.grant = s.dlk.grant ∧ (qualifyEntered s).dlk.offer = s.dlk.offer := by
  unfold qualifyEntered requestDue
  repeat' split
  all_goals simp

@[simp] theorem handRelease_dock (r : ReleaseReason) (s : State) :
    (handRelease r s).dlk.state = s.dlk.state ∧ (handRelease r s).dlk.contact = s.dlk.contact := by
  unfold handRelease releaseDue
  dsimp only
  repeat' split
  all_goals simp_all

/-- A change of charge state leaves the Charge Controller as the entry says, whatever the deliveries do (R128). -/
@[simp] theorem changeCharge_chc (new : ChargeState) (cause : ChargeCause) (set : SuspendSet) (s : State) :
    (changeCharge new cause set s).chc = enteredChc new set s.chc := by
  unfold changeCharge
  dsimp only
  repeat' split
  all_goals simp

@[simp] theorem changeCharge_dock (new : ChargeState) (cause : ChargeCause) (set : SuspendSet) (s : State) :
    (changeCharge new cause set s).dlk.state = s.dlk.state ∧
    (changeCharge new cause set s).dlk.contact = s.dlk.contact ∧
    (changeCharge new cause set s).dlk.grant = s.dlk.grant := by
  unfold changeCharge
  dsimp only
  repeat' split
  all_goals simp

/-- A resolver's evaluation in the deliveries of a charge state leaves the claims, the step, the edit and the profile
alone. -/
@[simp] theorem changePackState_drs (new : PackState) (cause : PackCause) (cell : Nat) (s : State) :
    (changePackState new cause cell s).drs.triggerClaim = s.drs.triggerClaim ∧
    (changePackState new cause cell s).drs.hostClaim = s.drs.hostClaim ∧
    (changePackState new cause cell s).drs.edit = s.drs.edit ∧
    (changePackState new cause cell s).drs.profile = s.drs.profile ∧
    (changePackState new cause cell s).drs.record.runDemand = s.drs.record.runDemand := by
  unfold changePackState
  simp only [evaluate_runDemand]
  simp

@[simp] theorem changeCharge_drs (new : ChargeState) (cause : ChargeCause) (set : SuspendSet) (s : State) :
    (changeCharge new cause set s).drs.triggerClaim = s.drs.triggerClaim ∧
    (changeCharge new cause set s).drs.hostClaim = s.drs.hostClaim ∧
    (changeCharge new cause set s).drs.edit = s.drs.edit ∧
    (changeCharge new cause set s).drs.profile = s.drs.profile ∧
    (changeCharge new cause set s).drs.record.runDemand = s.drs.record.runDemand := by
  unfold changeCharge releaseCutoff
  dsimp only
  repeat' split
  all_goals simp

/-- QUALIFY's judgement leaves the dock state and the contact alone, and the resolver but for its record. -/
@[simp] theorem judgeQualify_kept (s : State) :
    (judgeQualify s).dlk.state = s.dlk.state ∧ (judgeQualify s).dlk.contact = s.dlk.contact ∧
    (judgeQualify s).drs.triggerClaim = s.drs.triggerClaim ∧ (judgeQualify s).drs.hostClaim = s.drs.hostClaim ∧
    (judgeQualify s).drs.edit = s.drs.edit ∧ (judgeQualify s).drs.profile = s.drs.profile ∧
    (judgeQualify s).drs.record.runDemand = s.drs.record.runDemand ∧
    (judgeQualify s).fmg.trip.isSome = s.fmg.trip.isSome := by
  unfold judgeQualify enterSuspend raiseChargeStop enterChargeFault
  repeat' split
  all_goals simp

/-! ### The motor -/

/-- A change of motor state leaves the Motor Drive as the entry says, whatever the deliveries do (R23). -/
@[simp] theorem motorTo_mdr (new : MotorState) (cause : MotorCause) (pend : Bool) (s : State) :
    (motorTo new cause pend s).mdr = enteredMdr new pend s.mdr := by
  simp [motorTo]

/-- A change of motor state leaves the dock state, the contact, the power state, the uptime and the causes alone. -/
@[simp] theorem motorTo_kept (new : MotorState) (cause : MotorCause) (pend : Bool) (s : State) :
    (motorTo new cause pend s).dlk.state = s.dlk.state ∧ (motorTo new cause pend s).dlk.contact = s.dlk.contact ∧
    (motorTo new cause pend s).slc.power = s.slc.power ∧ (motorTo new cause pend s).slc.uptime = s.slc.uptime ∧
    (motorTo new cause pend s).slc.wakeCause = s.slc.wakeCause ∧
    (motorTo new cause pend s).slc.resetCause = s.slc.resetCause := by
  simp [motorTo, deliverSlc]

/-- The state entered is the one named. -/
@[simp] theorem enteredMdr_state (new : MotorState) (pend : Bool) (m : Mdr) :
    (enteredMdr new pend m).state = new ∧ (enteredMdr new pend m).startPending = pend ∧
    (enteredMdr new pend m).tInv = m.tInv ∧ (enteredMdr new pend m).derate = m.derate := by
  cases new <;> simp [enteredMdr, gatesOff, freshDetector]

/-! ### Causes of one moment -/

/-- Outside TRIPPED no trip of this moment stands (R170). -/
@[simp] theorem tripOfNow_running (s : State) (h : s.mdr.state ≠ .tripped) : tripOfNow s = none := by
  simp [tripOfNow, h]

/-- A trip of this moment is the record that stands, entered at this uptime from a watched state (R170). -/
theorem tripOfNow_some (s : State) (r : TripRecord) : tripOfNow s = some r ↔
    s.fmg.trip = some r ∧ s.mdr.state = .tripped ∧ r.uptime = s.now ∧ motorWatched r.motor = true := by
  simp [tripOfNow, Option.filter_eq_some_iff, and_assoc]

/-- OC_HW is never both the first cause and the later one of a moment (R170). -/
theorem overtaken_exclusive (s : State) (h : overtakenByOc s = true) : overtakenOc s = none := by
  unfold overtakenByOc at h
  unfold overtakenOc
  split at h
  · rename_i r e; rw [e]; simp_all
  · simp at h

end Sys2Proof.Machine
end

