-- ==== Sys2Proof/WellFormed.lean ====
section
/-! DEFINITION. Which commands are well formed: the operands lie where the spec says they can lie. Most operands are
well formed by their type; the checks below are the rest. -/

namespace Sys2Proof

/-- The parameter ids whose SET_PARAM has a row of its own in the opcode table: emitter_carrier, emitter_current,
optical_mode, reserve, full_capacity, idle_sleep_s and trigger_mode (12.4). -/
def ownRowIds : List Nat := [0x51, 0x52, 0x57, 0x36, 0x3B, 0x70, 0x72]

/-- A well-formed host frame has a kind within 0x01..0x3F and at most 60 payload bytes (R174, R175). -/
def hostFrameWf (kind : Byte) (payload : List Byte) : Bool :=
  decide (1 ≤ kind.toNat) && decide (kind.toNat ≤ 0x3F) && decide (payload.length ≤ 60)

/-- A dock frame received whole has two header bytes, the payload its length field announces (0..8) and one CRC
byte (R146, 12.7). -/
def dockFrameWf (bytes : List Byte) : Bool :=
  match bytes with
  | _ :: l :: rest => decide (l.toNat % 16 ≤ 8) && decide (rest.length = l.toNat % 16 + 1)
  | _ => false

/-- The checks: SET_PARAM is the row of the ids without a row of their own, a frame is a frame, the discard of GAP
has its own row, and a crossing's time and a window's measures are counted from an earlier moment. -/
def Instr.wf : Instr → Bool
  | .setParam _ id _ => !(ownRowIds.contains id.toNat)
  | .hostFrameReceived kind _ payload => hostFrameWf kind payload
  | .hostFrameDiscard reason => decide (reason ≠ DiscardReason.gap)
  | .dockFrameReceived bytes => dockFrameWf bytes
  | .bemfCrossing _ _ t _ => decide (1 ≤ t)
  | _ => true

end Sys2Proof
end

