-- ==== Sys2Proof/Laws/PerInstr.lean ====
section
/-! SUPPORT. Each request of the table as the frame the catalogue gives it (12.6): the frame is well formed and of the
catalogue's kind and length. -/

namespace Sys2Proof.Laws.Payload

open Sys2Proof.Machine

/-- The kind and the payload of a request; `none` for an event of the part (12.6). -/
def requestFrame : Instr → Option (Byte × List Byte)
  | .identify _ => some (0x01#8, [])
  | .status _ => some (0x02#8, [])
  | .getParam _ id => some (0x03#8, [id])
  | .setParam _ id value => some (0x04#8, [id] ++ le32 value.toNat)
  | .setTriggerMode _ value => some (0x04#8, [0x72#8] ++ le32 value.toNat)
  | .setOpticalMode _ value => some (0x04#8, [0x57#8] ++ le32 value.toNat)
  | .setEmitterCurrent _ value => some (0x04#8, [0x52#8] ++ le32 value.toNat)
  | .setEmitterCarrier _ value => some (0x04#8, [0x51#8] ++ le32 value.toNat)
  | .setFullCapacity _ value => some (0x04#8, [0x3B#8] ++ le32 value.toNat)
  | .setIdleSleepS _ value => some (0x04#8, [0x70#8] ++ le32 value.toNat)
  | .setReserve _ value => some (0x04#8, [0x36#8] ++ le32 value.toNat)
  | .noticeMask _ enables => some (0x05#8, le16 enables.toNat)
  | .reset _ => some (0x06#8, [])
  | .sleep _ => some (0x07#8, [])
  | .ship _ => some (0x08#8, [])
  | .runStart _ => some (0x10#8, [])
  | .runStop _ => some (0x11#8, [])
  | .stepSelect _ step => some (0x12#8, [step])
  | .editBegin _ label => some (0x13#8, [label])
  | .editSet _ field value => some (0x14#8, [field] ++ le32 value.toNat)
  | .editCommit _ => some (0x15#8, [])
  | .editAbort _ => some (0x16#8, [])
  | .profileRead _ => some (0x17#8, [])
  | .tripClear _ => some (0x18#8, [])
  | .faultRead _ clearCounts => some (0x19#8, [clearCounts])
  | .bandMode _ mode => some (0x20#8, [mode])
  | .bandClear _ => some (0x21#8, [])
  | .bandRead _ index => some (0x22#8, [index])
  | .bandWrite _ index advance loadRef flags => some (0x23#8, [index, advance] ++ le16 loadRef.toNat ++ [flags])
  | .dirtRead _ => some (0x24#8, [])
  | .cellRead _ => some (0x28#8, [])
  | .cellResetMinmax _ => some (0x29#8, [])
  | .gaugeRead _ => some (0x2A#8, [])
  | .gaugeAdjust _ delta => some (0x2B#8, le16 delta.toNat)
  | .chargeEnable _ => some (0x2C#8, [0#8])
  | .chargeDisable _ => some (0x2C#8, [1#8])
  | .chargePause _ => some (0x2C#8, [2#8])
  | .chargeResume _ => some (0x2C#8, [3#8])
  | .chargeClear _ => some (0x2C#8, [4#8])
  | .chargeRead _ => some (0x2D#8, [])
  | .dockRead _ => some (0x2E#8, [])
  | .counterSetup _ k source threshold options start => some (0x30#8, [k, source] ++ le32 threshold.toNat ++ [options, start])
  | .counterRead _ => some (0x31#8, [])
  | .counterAdjust _ k delta => some (0x32#8, [k] ++ le32 delta.toNat)
  | .hostFrameReceived _ _ _ => none
  | .hostFrameDiscard _ => none
  | .hostFrameGap => none
  | .linkWake _ _ => none
  | .transmitEnd => none
  | .triggerDebounce => none
  | .editTimeout => none
  | .precheckEnd => none
  | .alignEnd => none
  | .rampTick => none
  | .rampAccelTick => none
  | .rampTimeout => none
  | .restartWaitEnd => none
  | .bemfCrossing _ _ _ _ => none
  | .commutation _ => none
  | .windowClose _ => none
  | .catchLimitExpiry => none
  | .rotorStopTimeout => none
  | .coastTimeout => none
  | .ocHw => none
  | .bandClearComplete => none
  | .blockTimerExpiry => none
  | .retryTimerExpiry => none
  | .clearTimerExpiry => none
  | .noReferenceTimerExpiry => none
  | .normalTimerExpiry => none
  | .dirtWindowEnd _ _ _ => none
  | .scanStart => none
  | .scanEnd _ => none
  | .prechargeTimeout => none
  | .chargeTimeout => none
  | .balanceTimeout => none
  | .dockContactRise => none
  | .dockLoss => none
  | .settleTimerExpiry => none
  | .dockFrameSent => none
  | .dockFrameReceived _ => none
  | .dockFrameAbandon => none
  | .dockReplyTimeout => none
  | .keepTimerExpiry => none
  | .dockRetryExpiry => none
  | .idleTimerExpiry => none
  | .powerOn => none
  | .brownout => none
  | .shipWake => none
  | .triggerRawChange _ => none
  | .contactVoltageFall => none
  | .dockReceptionBegin => none
  | .seventhCellMeasured => none
  | .catchCrossingTimeout => none

/-- A request's frame is well formed, its kind is in the catalogue, and its length is the catalogue's; RESET is served
apart (R174 to R177). -/
def Statement (i : Instr) : Prop :=
  ∀ kind payload, requestFrame i = some (kind, payload) →
    hostFrameWf kind payload = true ∧ knownKind kind.toNat = true ∧
      (kind = 0x06#8 ∨ (requestServed kind.toNat payload).isSome = true)

theorem identify (tag : Byte) : Statement (.identify tag) := by
  rintro _ _ ⟨⟩
  exact ⟨rfl, rfl, .inr rfl⟩
theorem status (tag : Byte) : Statement (.status tag) := by
  rintro _ _ ⟨⟩
  exact ⟨rfl, rfl, .inr rfl⟩
theorem getParam (tag id : Byte) : Statement (.getParam tag id) := by
  rintro _ _ ⟨⟩
  exact ⟨rfl, rfl, .inr rfl⟩
theorem setParam (tag id : Byte) (value : BitVec 32) : Statement (.setParam tag id value) := by
  rintro _ _ ⟨⟩
  exact ⟨rfl, rfl, .inr rfl⟩
theorem setTriggerMode (tag : Byte) (value : BitVec 32) : Statement (.setTriggerMode tag value) := by
  rintro _ _ ⟨⟩
  exact ⟨rfl, rfl, .inr rfl⟩
theorem setOpticalMode (tag : Byte) (value : BitVec 32) : Statement (.setOpticalMode tag value) := by
  rintro _ _ ⟨⟩
  exact ⟨rfl, rfl, .inr rfl⟩
theorem setEmitterCurrent (tag : Byte) (value : BitVec 32) : Statement (.setEmitterCurrent tag value) := by
  rintro _ _ ⟨⟩
  exact ⟨rfl, rfl, .inr rfl⟩
theorem setEmitterCarrier (tag : Byte) (value : BitVec 32) : Statement (.setEmitterCarrier tag value) := by
  rintro _ _ ⟨⟩
  exact ⟨rfl, rfl, .inr rfl⟩
theorem setFullCapacity (tag : Byte) (value : BitVec 32) : Statement (.setFullCapacity tag value) := by
  rintro _ _ ⟨⟩
  exact ⟨rfl, rfl, .inr rfl⟩
theorem setIdleSleepS (tag : Byte) (value : BitVec 32) : Statement (.setIdleSleepS tag value) := by
  rintro _ _ ⟨⟩
  exact ⟨rfl, rfl, .inr rfl⟩
theorem setReserve (tag : Byte) (value : BitVec 32) : Statement (.setReserve tag value) := by
  rintro _ _ ⟨⟩
  exact ⟨rfl, rfl, .inr rfl⟩
theorem noticeMask (tag : Byte) (enables : BitVec 16) : Statement (.noticeMask tag enables) := by
  rintro _ _ ⟨⟩
  exact ⟨rfl, rfl, .inr rfl⟩
theorem reset (tag : Byte) : Statement (.reset tag) := by
  rintro _ _ ⟨⟩
  exact ⟨rfl, rfl, .inl rfl⟩
theorem sleep (tag : Byte) : Statement (.sleep tag) := by
  rintro _ _ ⟨⟩
  exact ⟨rfl, rfl, .inr rfl⟩
theorem ship (tag : Byte) : Statement (.ship tag) := by
  rintro _ _ ⟨⟩
  exact ⟨rfl, rfl, .inr rfl⟩
theorem runStart (tag : Byte) : Statement (.runStart tag) := by
  rintro _ _ ⟨⟩
  exact ⟨rfl, rfl, .inr rfl⟩
theorem runStop (tag : Byte) : Statement (.runStop tag) := by
  rintro _ _ ⟨⟩
  exact ⟨rfl, rfl, .inr rfl⟩
theorem stepSelect (tag step : Byte) : Statement (.stepSelect tag step) := by
  rintro _ _ ⟨⟩
  exact ⟨rfl, rfl, .inr rfl⟩
theorem editBegin (tag label : Byte) : Statement (.editBegin tag label) := by
  rintro _ _ ⟨⟩
  exact ⟨rfl, rfl, .inr rfl⟩
theorem editSet (tag field : Byte) (value : BitVec 32) : Statement (.editSet tag field value) := by
  rintro _ _ ⟨⟩
  exact ⟨rfl, rfl, .inr rfl⟩
theorem editCommit (tag : Byte) : Statement (.editCommit tag) := by
  rintro _ _ ⟨⟩
  exact ⟨rfl, rfl, .inr rfl⟩
theorem editAbort (tag : Byte) : Statement (.editAbort tag) := by
  rintro _ _ ⟨⟩
  exact ⟨rfl, rfl, .inr rfl⟩
theorem profileRead (tag : Byte) : Statement (.profileRead tag) := by
  rintro _ _ ⟨⟩
  exact ⟨rfl, rfl, .inr rfl⟩
theorem tripClear (tag : Byte) : Statement (.tripClear tag) := by
  rintro _ _ ⟨⟩
  exact ⟨rfl, rfl, .inr rfl⟩
theorem faultRead (tag clearCounts : Byte) : Statement (.faultRead tag clearCounts) := by
  rintro _ _ ⟨⟩
  exact ⟨rfl, rfl, .inr rfl⟩
theorem bandMode (tag mode : Byte) : Statement (.bandMode tag mode) := by
  rintro _ _ ⟨⟩
  exact ⟨rfl, rfl, .inr rfl⟩
theorem bandClear (tag : Byte) : Statement (.bandClear tag) := by
  rintro _ _ ⟨⟩
  exact ⟨rfl, rfl, .inr rfl⟩
theorem bandRead (tag index : Byte) : Statement (.bandRead tag index) := by
  rintro _ _ ⟨⟩
  exact ⟨rfl, rfl, .inr rfl⟩
theorem bandWrite (tag index advance : Byte) (loadRef : BitVec 16) (flags : Byte) : Statement (.bandWrite tag index advance loadRef flags) := by
  rintro _ _ ⟨⟩
  exact ⟨rfl, rfl, .inr rfl⟩
theorem dirtRead (tag : Byte) : Statement (.dirtRead tag) := by
  rintro _ _ ⟨⟩
  exact ⟨rfl, rfl, .inr rfl⟩
theorem cellRead (tag : Byte) : Statement (.cellRead tag) := by
  rintro _ _ ⟨⟩
  exact ⟨rfl, rfl, .inr rfl⟩
theorem cellResetMinmax (tag : Byte) : Statement (.cellResetMinmax tag) := by
  rintro _ _ ⟨⟩
  exact ⟨rfl, rfl, .inr rfl⟩
theorem gaugeRead (tag : Byte) : Statement (.gaugeRead tag) := by
  rintro _ _ ⟨⟩
  exact ⟨rfl, rfl, .inr rfl⟩
theorem gaugeAdjust (tag : Byte) (delta : BitVec 16) : Statement (.gaugeAdjust tag delta) := by
  rintro _ _ ⟨⟩
  exact ⟨rfl, rfl, .inr rfl⟩
theorem chargeEnable (tag : Byte) : Statement (.chargeEnable tag) := by
  rintro _ _ ⟨⟩
  exact ⟨rfl, rfl, .inr rfl⟩
theorem chargeDisable (tag : Byte) : Statement (.chargeDisable tag) := by
  rintro _ _ ⟨⟩
  exact ⟨rfl, rfl, .inr rfl⟩
theorem chargePause (tag : Byte) : Statement (.chargePause tag) := by
  rintro _ _ ⟨⟩
  exact ⟨rfl, rfl, .inr rfl⟩
theorem chargeResume (tag : Byte) : Statement (.chargeResume tag) := by
  rintro _ _ ⟨⟩
  exact ⟨rfl, rfl, .inr rfl⟩
theorem chargeClear (tag : Byte) : Statement (.chargeClear tag) := by
  rintro _ _ ⟨⟩
  exact ⟨rfl, rfl, .inr rfl⟩
theorem chargeRead (tag : Byte) : Statement (.chargeRead tag) := by
  rintro _ _ ⟨⟩
  exact ⟨rfl, rfl, .inr rfl⟩
theorem dockRead (tag : Byte) : Statement (.dockRead tag) := by
  rintro _ _ ⟨⟩
  exact ⟨rfl, rfl, .inr rfl⟩
theorem counterSetup (tag k source : Byte) (threshold : BitVec 32) (options start : Byte) : Statement (.counterSetup tag k source threshold options start) := by
  rintro _ _ ⟨⟩
  exact ⟨rfl, rfl, .inr rfl⟩
theorem counterRead (tag : Byte) : Statement (.counterRead tag) := by
  rintro _ _ ⟨⟩
  exact ⟨rfl, rfl, .inr rfl⟩
theorem counterAdjust (tag k : Byte) (delta : BitVec 32) : Statement (.counterAdjust tag k delta) := by
  rintro _ _ ⟨⟩
  exact ⟨rfl, rfl, .inr rfl⟩
theorem hostFrameReceived (kind tag : Byte) (payload : List Byte) : Statement (.hostFrameReceived kind tag payload) := nofun
theorem hostFrameDiscard (reason : DiscardReason) : Statement (.hostFrameDiscard reason) := nofun
theorem hostFrameGap : Statement (.hostFrameGap) := nofun
theorem linkWake (byte : Byte) (stopBit : Bool) : Statement (.linkWake byte stopBit) := nofun
theorem transmitEnd : Statement (.transmitEnd) := nofun
theorem triggerDebounce : Statement (.triggerDebounce) := nofun
theorem editTimeout : Statement (.editTimeout) := nofun
theorem precheckEnd : Statement (.precheckEnd) := nofun
theorem alignEnd : Statement (.alignEnd) := nofun
theorem rampTick : Statement (.rampTick) := nofun
theorem rampAccelTick : Statement (.rampAccelTick) := nofun
theorem rampTimeout : Statement (.rampTimeout) := nofun
theorem restartWaitEnd : Statement (.restartWaitEnd) := nofun
theorem bemfCrossing (phase : Phase) (rising : Bool) (t d : Nat) : Statement (.bemfCrossing phase rising t d) := nofun
theorem commutation (im : Int) : Statement (.commutation im) := nofun
theorem windowClose (im : Int) : Statement (.windowClose im) := nofun
theorem catchLimitExpiry : Statement (.catchLimitExpiry) := nofun
theorem rotorStopTimeout : Statement (.rotorStopTimeout) := nofun
theorem coastTimeout : Statement (.coastTimeout) := nofun
theorem ocHw : Statement (.ocHw) := nofun
theorem bandClearComplete : Statement (.bandClearComplete) := nofun
theorem blockTimerExpiry : Statement (.blockTimerExpiry) := nofun
theorem retryTimerExpiry : Statement (.retryTimerExpiry) := nofun
theorem clearTimerExpiry : Statement (.clearTimerExpiry) := nofun
theorem noReferenceTimerExpiry : Statement (.noReferenceTimerExpiry) := nofun
theorem normalTimerExpiry : Statement (.normalTimerExpiry) := nofun
theorem dirtWindowEnd (amplitude level : Nat) (signal : List Nat) : Statement (.dirtWindowEnd amplitude level signal) := nofun
theorem scanStart : Statement (.scanStart) := nofun
theorem scanEnd (reading : ScanReading) : Statement (.scanEnd reading) := nofun
theorem prechargeTimeout : Statement (.prechargeTimeout) := nofun
theorem chargeTimeout : Statement (.chargeTimeout) := nofun
theorem balanceTimeout : Statement (.balanceTimeout) := nofun
theorem dockContactRise : Statement (.dockContactRise) := nofun
theorem dockLoss : Statement (.dockLoss) := nofun
theorem settleTimerExpiry : Statement (.settleTimerExpiry) := nofun
theorem dockFrameSent : Statement (.dockFrameSent) := nofun
theorem dockFrameReceived (bytes : List Byte) : Statement (.dockFrameReceived bytes) := nofun
theorem dockFrameAbandon : Statement (.dockFrameAbandon) := nofun
theorem dockReplyTimeout : Statement (.dockReplyTimeout) := nofun
theorem keepTimerExpiry : Statement (.keepTimerExpiry) := nofun
theorem dockRetryExpiry : Statement (.dockRetryExpiry) := nofun
theorem idleTimerExpiry : Statement (.idleTimerExpiry) := nofun
theorem powerOn : Statement (.powerOn) := nofun
theorem brownout : Statement (.brownout) := nofun
theorem shipWake : Statement (.shipWake) := nofun
theorem triggerRawChange (level : Level) : Statement (.triggerRawChange level) := nofun
theorem contactVoltageFall : Statement (.contactVoltageFall) := nofun
theorem dockReceptionBegin : Statement (.dockReceptionBegin) := nofun
theorem seventhCellMeasured : Statement (.seventhCellMeasured) := nofun
theorem catchCrossingTimeout : Statement (.catchCrossingTimeout) := nofun

end Sys2Proof.Laws.Payload
end

