-- ==== Sys2Proof/Laws/Start.lean ====
section
/-! SUPPORT. What an arrival and a start-up do: the lemmas of `contactRisen`, `startAtOnce` and the resets, which proofs cite
and do not unfold. -/

namespace Sys2Proof.Machine

open Sys2Proof.Safety

/-! ### An arrival -/

/-- Run demand acting on the motor leaves the dock state, the power state and the uptime alone. -/
@[simp] theorem demandRefresh_kept (s : State) :
    (demandRefresh s).dlk.state = s.dlk.state ∧ (demandRefresh s).slc.power = s.slc.power ∧
    (demandRefresh s).slc.uptime = s.slc.uptime := by
  unfold demandRefresh demandRise demandFall
  dsimp only
  repeat' split
  all_goals simp [evaluateAs]

/-- A forced stop leaves the dock state, the power state and the uptime alone. -/
@[simp] theorem forcedStop_kept (s : State) :
    (forcedStop s).dlk.state = s.dlk.state ∧ (forcedStop s).slc.power = s.slc.power ∧
    (forcedStop s).slc.uptime = s.slc.uptime := by
  simp [forcedStop, clearClaims]

/-- A dock seen leaves the dock state and the Sleep Controller alone. -/
@[simp] theorem dockSeen_kept (s : State) :
    (dockSeen s).dlk.state = s.dlk.state ∧ (dockSeen s).slc = s.slc := by
  unfold dockSeen
  split <;> simp

/-- An arrival leaves DLK in SETTLING, at the uptime and in the power state it found (R143). -/
@[simp] theorem dockArrival_settling (s : State) :
    (dockArrival s).dlk.state = .settling ∧ (dockArrival s).slc.power = s.slc.power ∧
    (dockArrival s).slc.uptime = s.slc.uptime := by
  simp [dockArrival, deliverDockSlc, deliverSlc, raiseDockNotice, arrivedDlk]

/-- A rise in ABSENT leaves DLK in SETTLING with no ms passed, and puts no part into SHIP (R143, R185). -/
theorem contactRisen_settling (s : State) (h : s.dlk.state = .absent) :
    (contactRisen s).dlk.state = .settling ∧ (contactRisen s).slc.uptime = s.slc.uptime ∧
    (s.slc.power ≠ .ship → (contactRisen s).slc.power ≠ .ship) := by
  simp only [contactRisen, State.setDlk_dlk, h, if_true]
  unfold wakeIfAsleep wake
  split <;> simp

/-! ### What happens at once -/

/-- With a dock present there is no arrival to see. -/
@[simp] theorem contactSeen_present (s : State) (h : s.dlk.state ≠ .absent) : contactSeen s = s := by
  simp [contactSeen, h]

/-- With the contact voltage below the threshold there is no arrival to see (R143). -/
@[simp] theorem contactSeen_below (s : State) (h : s.dlk.contact = false) : contactSeen s = s := by
  simp [contactSeen, h]

/-- With the contact voltage above the threshold in ABSENT the arrival is made (R143). -/
theorem contactSeen_arrival (s : State) (h : s.dlk.state = .absent) (k : s.dlk.contact = true) :
    contactSeen s = contactRisen s := by
  simp [contactSeen, h, k]

/-- The transmitter's start and the start of a due scan may come in either order. -/
theorem startDueScan_beginTransmission (s : State) :
    startDueScan (beginTransmission s) = beginTransmission (startDueScan s) := by
  have due : scanDue (beginTransmission s) = scanDue s := by simp [scanDue, State.now]; rfl
  unfold startDueScan
  rw [due]
  split
  · unfold beginTransmission clearPendingReach
    simp only [startScan_frame]
    repeat' split
    all_goals rfl
  · rfl

/-! ### Start-up -/

/-- No dock there: start-up is the first scan alone (R97, R187). -/
theorem powerReset_undocked (cause : ResetCause) (s : State) (h : s.dlk.contact = false) :
    powerReset cause s = startScan (resetValues cause s) := by
  rw [powerReset, startAtOnce, contactSeen_below (resetValues cause s) h]
  rfl

/-- Start-up on the reset values of a cause, with what a HOST_RESET keeps of the band table, the gauge and the counters, by
the contact voltage (R61, R97, R115, R142, R158, R187). -/
theorem startAtOnce_resetValues (cause : ResetCause) (sbt : Sbt) (gge : Gge) (icn : Icn) (raw : Level)
    (rearm contact : Bool) (pending : List Instr) :
    startAtOnce { State.reset with
      trg := { Trg.reset with raw := raw, rearm := rearm }
      dlk := { Dlk.reset with contact := contact }
      sbt := sbt, gge := gge, icn := icn
      mpt := Mpt.reset cause, slc := Slc.reset cause, pending := pending } =
    { State.reset with
      trg := { Trg.reset with raw := raw, rearm := rearm }
      pkm := startedPkm, chc := startedChc contact, dlk := startedDlk contact
      sbt := sbt, gge := gge, icn := icn
      mpt := startedMpt cause contact, slc := Slc.reset cause, pending := pending } := by
  cases contact
  · rfl
  · simp [startAtOnce, contactSeen, contactRisen, wakeIfAsleep, dockArrival, forcedStop, clearClaims, demandRefresh,
      wantsToRun, State.reset, Drs.reset, Slc.reset, Dlk.reset, Trg.reset, raiseDockNotice, raise, Mpt.reset,
      noticeEnabled, Notice.index, enqueue, dockSeen, arrivedDlk, Chc.reset, changeCharge, mayBleed, applyBleed,
      raiseChargeNotice, chooseInterval, judgeQualify, motorParked, grantInForce, deliverDockSlc, deliverSlc,
      keptEntry, qualifyEntered, startDueScan, scanDue, startScan, newScan, scanDt, State.now, DemandRecord.idle,
      enteredChc, isCharging, Pkm.reset, vmin, vmax, measuredCharge, Mdr.reset, startedPkm, startedDlk, startedChc,
      startedMpt, intervalOf, noSuspend]
    rfl

end Sys2Proof.Machine
end

