-- ==== Sys2Proof/Machine/Outputs.lean ====
section
/-! DEFINITION. What the part drives, read off its state: the bridge and its comparator, the emitter, the charge stage,
the bleed switches and the current sink of the contacts (00_scope, the neighbours of the part). -/

namespace Sys2Proof.Machine

/-! ### The bridge -/

/-- The phase a sector sources and the phase it sinks (2.2). -/
def sectorPair (sector : Nat) : Phase × Phase :=
  match sector with
  | 0 => (.u, .v)
  | 1 => (.u, .w)
  | 2 => (.v, .w)
  | 3 => (.v, .u)
  | 4 => (.w, .u)
  | _ => (.w, .v)

/-- The phases the bridge sources and sinks, `none` with all six switches open (2.1). -/
def bridgePair (s : State) : Option (Phase × Phase) := s.mdr.gates.map sectorPair

/-- The duty the bridge drives at: align_duty in ALIGN, ramp_duty in RAMP and HANDOVER, the regulator's in RUN, and none
with the gates off (2.1, R28, R30, R31, R34). -/
def bridgeDuty (s : State) : Option Nat :=
  if s.mdr.gates.isNone then none
  else match s.mdr.state with
    | .align => some s.motorPar.alignDuty
    | .ramp => some s.motorPar.rampDuty
    | .handover => some s.motorPar.rampDuty
    | .run => some s.srg.duty
    | _ => none

/-- The inverter current in A at which the comparator trips, `none` while it is not watched (R41). -/
def comparatorLevel (s : State) : Option Nat :=
  if motorWatched s.mdr.state then some s.motorPar.ocLevel else none

/-! ### The emitter -/

/-- The on-current of the emitter in mA, 0 while it is dark (R81). -/
def emitterDrive (d : Dse) : Nat :=
  match d.optical with
  | .settle => d.working
  | .track => d.working
  | .killed => 63
  | .idle => 0
  | .off => 0

/-- The frequency of the emitter's square wave in Hz, for each value of emitter_carrier (R81). -/
def carrierHz (carrier : Nat) : Nat :=
  match carrier with
  | 0 => 15625
  | 1 => 20833
  | _ => 31250

/-! ### The charge stage, the cells and the contacts -/

/-- The setpoint the charge stage receives, mA (R126). -/
def stageSetpoint (s : State) : Nat := s.chc.iSet

/-- The bleed switches that are closed (R98, R113). -/
def closedSwitches (s : State) : Seven Bool := s.pkm.switches

/-- The bytes the current sink of the contacts is sending, `none` while the sink is off (R145, R147). -/
def sinkFrame (s : State) : Option (List Byte) :=
  s.dlk.exchange.bind fun e => if e.sending then some (dockFrame e.msg e.seq) else none

/-- A burst of carrier and the gap behind it, µs: the preamble, then a 0 or a 1 (R145). -/
def preambleBurst : Nat × Nat := (2000, 400)
def bitBurst (b : Bool) : Nat × Nat := if b then (300, 100) else (100, 300)

/-- The bits of a byte, most significant first (12.7). -/
def lineBits (b : Byte) : List Bool :=
  [b.getLsbD 7, b.getLsbD 6, b.getLsbD 5, b.getLsbD 4, b.getLsbD 3, b.getLsbD 2, b.getLsbD 1, b.getLsbD 0]

/-- The bursts by which the part sends a frame (R145). -/
def lineBursts (bytes : List Byte) : List (Nat × Nat) :=
  preambleBurst :: (bytes.flatMap lineBits).map bitBurst

/-- What a received burst is. -/
inductive LineBurst where
  | zero
  | one
  | preamble
  /-- A burst that abandons the reception: DOCK_FRAME_ABANDON. -/
  | other
  deriving DecidableEq, Repr

/-- A received burst is classified by its length in µs (R145). The commands of the dock's line begin where bursts have
been classified: a preamble is DOCK_RECEPTION_BEGIN. -/
def classifyBurst (len : Nat) : LineBurst :=
  if 60 ≤ len ∧ len ≤ 160 then .zero
  else if 240 ≤ len ∧ len ≤ 360 then .one
  else if 1600 ≤ len ∧ len ≤ 2400 then .preamble
  else .other

end Sys2Proof.Machine
end

