-- ==== Sys2Proof/Tests/Slice0.lean ====
section
/-! SUPPORT. The checks of WellFormed on ill-formed terms, the spec's worked examples, and for each statement with
premises concrete states and operands that meet them. -/

namespace Sys2Proof.Tests

open Sys2Proof.Machine Sys2Proof.Safety

/-! ### WellFormed refuses -/

/-- emitter_carrier (0x51) has a row of its own (12.4, R88). -/
theorem test_wf_setParam_own_row : (Instr.setParam 0 0x51#8 1).wf = false := by decide
theorem test_wf_setParam : (Instr.setParam 0 0x10#8 1).wf = true := by decide
/-- Kinds of requests lie in 0x01..0x3F (R174). -/
theorem test_wf_kind_zero : (Instr.hostFrameReceived 0x00#8 0 []).wf = false := by decide
theorem test_wf_kind_high : (Instr.hostFrameReceived 0x40#8 0 []).wf = false := by decide
/-- A payload has at most 60 bytes (R174). -/
theorem test_wf_payload : (Instr.hostFrameReceived 0x01#8 0 (List.replicate 61 0)).wf = false := by decide
theorem test_wf_payload_60 : (Instr.hostFrameReceived 0x3F#8 0 (List.replicate 60 0)).wf = true := by decide
/-- The discard of GAP is HOST_FRAME_GAP's own row (R175). -/
theorem test_wf_gap : (Instr.hostFrameDiscard .gap).wf = false := by decide
/-- A dock frame has the bytes its length field announces (R146). -/
theorem test_wf_dock_short : (Instr.dockFrameReceived [0x04#8, 0x01#8, 0x14#8]).wf = false := by decide
theorem test_wf_dock_long : (Instr.dockFrameReceived [0x04#8, 0x09#8, 0, 0, 0, 0, 0, 0, 0, 0, 0, 0]).wf = false := by
  decide
/-- A crossing comes at least a tick after the moment it is counted from (R25, R26). -/
theorem test_wf_crossing : (Instr.bemfCrossing .u true 0 0).wf = false := by decide
/-- The table gives no row any bits, so no word spells a command. -/
theorem test_decode_none : decodeTableWord 8 1 = none := by decide

/-! ### Small states -/

/-- After the power-on reset, in ON. -/
abbrev on : State := State.reset

/-- A motor state, and nothing else changed. -/
def motorIn (m : MotorState) : State := on.setMdr { on.mdr with state := m }

/-- The motor in a state with the host's claim and run demand. -/
def demandedIn (m : MotorState) : State :=
  (motorIn m).setDrs { on.drs with hostClaim := true, record := runningRecord on }

/-- RUN with the reset profile's STANDARD step asked for. -/
def running : State := demandedIn .run

def dockIn (d : DockState) : State := on.setDlk { on.dlk with state := d, contact := true }

/-- Charging in a state, at a dock that grants 2,000 mA. -/
def chargingIn (c : ChargeState) : State :=
  (on.setDlk { on.dlk with
    state := .active, contact := true, grant := some 20, keep := some 0, offer := some ⟨40, 2, true, true⟩ }).setChc
    { on.chc with state := c }

def shipped : State := on.setSlc { on.slc with power := .ship }
def asleep : State := on.setSlc { on.slc with power := .sleep }

/-- Cells at a voltage each, and the temperatures 25, 25 and 30 °C, at rest. -/
def readingOf (mvs : Seven Int) : ScanReading := { cells := mvs, current := 0, tPack1 := 25, tPack2 := 25, tInv := 30 }

/-- The status and body of the reply a command queues last. -/
def answerOf (c : Instr) (s : State) : Option (StatusCode × ReplyBody) :=
  (after c s).mpt.replies.getLast?.map fun r => (r.status, r.body)

/-! ### Suction Demand -/

/-- 1.5: STANDARD boosted by Db 120 under an allowance of 22,500: S_req 92,000, boost 12,000, I_c 20,000, STEP_LIMIT. -/
theorem test_boosted_record :
    let s := (running.setDse { on.dse with db := 120 }).setPkm { on.pkm with discharge := 22500, state := .derated }
    runningRecord s = { runDemand := true, sReq := 92000, boost := 12000, iC := 20000
                        causes := ⟨true, false, false, false, false, false⟩ } := by decide

/-- 1.5: at an allowance of 19,776 with the pack LOW and BLM BLOCKED: 40,000, no boost, 19,276, three causes. -/
theorem test_blocked_low_record :
    let s := ((running.setDse { on.dse with db := 120 }).setPkm
      { on.pkm with discharge := 19776, state := .low }).setBlm { on.blm with state := .blocked }
    runningRecord s = { runDemand := true, sReq := 40000, boost := 0, iC := 19276
                        causes := ⟨false, true, false, true, true, false⟩ } := by decide

/-- 1.3: EDIT_SET of the blocked speed to 70,000 is clamped to 60,000. -/
theorem test_edit_set_clamped :
    answerOf (.editSet 1 0x14#8 70000#32) (after .transmitEnd (after .transmitEnd (after (.editBegin 1 7) on))) =
      some (.clamped, .field 0x14#8 60000) := by decide

/-- 1.3: with ECO at 95,000 the commit fails C1 with the label. -/
theorem test_edit_commit_c1 :
    answerOf (.editCommit 1) (on.setDrs { on.drs with
      edit := some { profile := on.drs.profile.write (.step .eco .speed) 95000, label := 7, timer := 0 } }) =
      some (.inconsistent, .failed .c1 7) := by decide

/-- 1.3: after 2,000 ms the edit is dropped with TIMEOUT, 7, and a commit is refused with that record. -/
theorem test_edit_timeout :
    let s := after .editTimeout (on.setDrs { on.drs with
      edit := some { profile := on.drs.profile, label := 7, timer := 2000 } })
    s.drs.edit = none ∧ answerOf (.editCommit 1) s = some (.editClosed, .aborted ⟨.timeout, 7⟩) := by decide

/-- R2: a press in HOLD raises the claim and starts the motor. -/
theorem test_press_starts :
    let s := after .triggerDebounce (on.setTrg { on.trg with raw := .pressed, debounced := some .released, timer := 10 })
    s.drs.triggerClaim = true ∧ s.mdr.state = .precheck := by decide

/-- R5: docked, the press is inhibited with cause DOCKED and needs a release. -/
theorem test_press_docked :
    let s := after .triggerDebounce
      ((dockIn .basic).setTrg { on.trg with raw := .pressed, debounced := some .released, timer := 10 })
    s.drs.triggerClaim = false ∧ s.trg.rearm = true ∧ s.mdr.state = .off := by decide

/-- R4: a trigger held through a reset needs its release. -/
theorem test_first_level :
    (after .triggerDebounce (on.setTrg { on.trg with raw := .pressed, timer := 10 })).trg.rearm = true := by decide

/-- R6: RUN START in PACK CUTOFF is refused INHIBITED with the cause. -/
theorem test_run_start_cutoff :
    answerOf (.runStart 1) (on.setPkm { on.pkm with state := .cutoff }) = some (.inhibited, .cause .packCutoff) := by
  decide

/-- R9: STEP_SELECT of 3 is a bad value. -/
theorem test_step_select_bad : answerOf (.stepSelect 1 3) on = some (.badValue, .empty) := by decide

/-- R3: HOST_ONLY drops the trigger's claim; with the motor OFF only. -/
theorem test_set_trigger_mode :
    answerOf (.setTriggerMode 1 2#32) on = some (.ok, .param 0x72#8 2) ∧
      answerOf (.setTriggerMode 1 2#32) running = some (.wrongState, .empty) := by decide

/-! ### Motor -/

/-- 2.3: 600 of increment is 10,986 rpm, 983 is 17,999, 984 is 18,017, 1,475 is 27,008. -/
theorem test_ramp_speed :
    rampSpeed 600#16 = 10986 ∧ rampSpeed 983#16 = 17999 ∧ rampSpeed 984#16 = 18017 ∧ rampSpeed 1475#16 = 27008 := by
  decide

/-- 2.3: with ramp_accel 6 the increment 1,470 goes to 1,476, past 27,000 rpm, and the attempt fails. -/
theorem test_ramp_overspeed :
    let s := after .rampAccelTick ((demandedIn .ramp).setMdr { (demandedIn .ramp).mdr with rampInc := 1470#16 })
    s.mdr.state = .restartWait ∧ s.mdr.attempts = 1 := by decide

/-- R31: 11 ticks of increment 984 stay in sector 0, the twelfth changes the pair; its period is 12 × 400. -/
theorem test_ramp_sector :
    let m := (demandedIn .ramp).mdr
    let s := (demandedIn .ramp).setMdr { m with rampInc := 984#16, rampAngle := 10824#16, rampTicks := 11 }
    (after .rampTick s).mdr.gates = some 1 ∧ (after .rampTick s).mdr.ts = 4800 := by decide

/-- 2.3: P = 26,800 seeds HANDOVER with St 17,910 and A 614,400. -/
theorem test_seed_handover :
    (seedHandover 600 26800 Srg.reset).st = 17910 ∧ (seedHandover 600 26800 Srg.reset).acc = 614400 := by decide

/-- 2.6: the six intervals of the catch give 41,884 rpm, duty 1,256 and A 1,286,144. -/
theorem test_seed_catch :
    speedOfSum [1905, 1906, 1908, 1910, 1914, 1917].sum = 41884 ∧ (seedCatch 41884 30 Srg.reset).duty = 1256 ∧
      (seedCatch 41884 30 Srg.reset).acc = 1286144 := by decide

/-- 2.2: in sector 3 with Ts 960 a rising crossing of W at 608, d 100: commutation at 960, contribution 28. -/
theorem test_crossing_in_run :
    let s := after (.bemfCrossing .w true 608 100) (running.setMdr { running.mdr with sector := 3, ts := 960 })
    s.mdr.schedule = some 960 ∧ s.mdr.offsetSum = 28 ∧ s.mdr.offsetCount = 1 := by decide

/-- 2.2: the same crossing before 240 ticks is blanked, and one falling is the wrong direction. -/
theorem test_crossing_ignored :
    let s := running.setMdr { running.mdr with sector := 3, ts := 960 }
    (after (.bemfCrossing .w true 239 100) s).mdr = s.mdr ∧ (after (.bemfCrossing .w false 608 100) s).mdr = s.mdr := by
  decide

/-- 2.2: with no crossing the motor commutates at 1,440 and counts a miss. -/
theorem test_window_missed :
    let s := after (.windowClose 0) (running.setMdr { running.mdr with sector := 3, ts := 960 })
    s.mdr.ts = 1440 ∧ s.mdr.misses = 1 ∧ s.mdr.gates = some 4 := by decide

/-- R27: the sixth miss in a row raises SYNC_LOSS, which restarts through COAST into PRECHECK. -/
theorem test_sync_loss :
    let s := after (.windowClose 0) (running.setMdr { running.mdr with sector := 3, ts := 960, misses := 5 })
    s.mdr.state = .precheck ∧ s.mdr.restarts = [0] ∧ s.fmg.table.syncLoss.count = 1 := by decide

/-- R25: from the second crossing in sequence, 1,905 ticks are 41,994 rpm (2.6's example). -/
theorem test_off_gates_speed :
    (after (.bemfCrossing .v true 1905 0) ((demandedIn .precheck).setMdr
      { (demandedIn .precheck).mdr with crossings := 1, lastNamed := some 0 })).mdr.speed = 41994 := by decide

/-- R29: a cool inverter and no crossing seen: ALIGN, on the pair of sector 5 (R30). -/
theorem test_precheck_aligns :
    let s := after .precheckEnd ((demandedIn .precheck).setMdr { (demandedIn .precheck).mdr with tInv := some 30 })
    s.mdr.state = .align ∧ s.mdr.gates = some 5 := by decide

/-- R36: the third failure in a row trips with START_FAIL. -/
theorem test_start_fail_trips :
    let s := after .rampTimeout ((demandedIn .ramp).setMdr { (demandedIn .ramp).mdr with attempts := 2 })
    s.mdr.state = .tripped ∧ (s.fmg.trip.map (·.first)) = some .startFail := by decide

/-- R42: 97 °C derates to 22,750 mA and 105 °C to 8,750 mA; 110 °C to 0. -/
theorem test_derate :
    derateCurrent MotorPar.reset 97 = 22750 ∧ derateCurrent MotorPar.reset 105 = 8750 ∧
      derateCurrent MotorPar.reset 110 = 0 := by decide

/-- R44: inv_cut written as 85 with inv_derate_start 90 takes 95. -/
theorem test_inv_cut_dependency : answerOf (.setParam 1 0x20#8 85#32) on = some (.clamped, .param 0x20#8 95) := by
  decide

/-! ### Speed Regulator -/

/-- A regulator state over the running part. -/
def regulating (st acc dc duty : Nat) (high low : Bool) : State :=
  running.setSrg { st := st, acc := acc, duty := duty, heldHigh := high, heldLow := low, dc := dc, sample := none }

/-- 3.3: P 6,114 is 78,508 rpm; St 80,000, Dc 4095, A 2,065,904, duty 2,075. -/
theorem test_regulator_boost :
    let s := (regulating 79960 2048000 4095 2040 false false).setDrs
      { running.drs with record := { running.drs.record with sReq := 92000, iC := 20000 } }
    speedOfSum 6114 = 78508 ∧ regulated s 78508 14600 =
      { st := 80000, acc := 2065904, duty := 2075, heldHigh := false, heldLow := false, dc := 4095
        sample := none } := by decide

/-- 3.3: the sag limiter's revolution 1: Dc 2,182, A 2,234,368, duty 2,182. -/
theorem test_regulator_sag :
    let s := (regulating 92000 2457600 2400 2400 true false).setDrs
      { running.drs with record := { running.drs.record with sReq := 92000, iC := 22000 } }
    regulated s 90566 24200 =
      { st := 92000, acc := 2234368, duty := 2182, heldHigh := true, heldLow := false, dc := 2182
        sample := none } := by decide +kernel

/-- 3.3: kp 255 at e = −5,000 drives the duty to 0, and the held-low flag then keeps A: duty 97 at −4,195. -/
theorem test_regulator_gain :
    let p := { MotorPar.reset with kp := 255 }
    let first := regulated ((regulating 80000 1228800 4095 1190 false false).setMotorPar p) 85000 0
    first.duty = 0 ∧ first.acc = 1168800 ∧ first.heldLow = true ∧
      (regulated ((running.setSrg first).setMotorPar p) 84195 0).duty = 97 := by decide

/-! ### Bands and blockage -/

/-- A sample of band 10 in 4.4's example. -/
def sampleOfBand10 (im : Nat) (offset : Int) : Sample :=
  { speed := 80000, period := 6000, im := im, st := 80000, onTarget := true, offset := offset }

/-- 4.4: samples 1 to 3: load_ref 14,000, 14,020, 14,000, the advance 16 taken at the first. -/
theorem test_learn_first :
    let e1 := learnEntry (sampleOfBand10 14000 (-34)) 16 true Band.cleared
    let e2 := learnEntry (sampleOfBand10 14320 (-34)) 16 true e1
    let e3 := learnEntry (sampleOfBand10 13700 (-34)) 16 true e2
    (e1.loadRef, e1.advance, e1.steps) = (some 14000, 16, 1) ∧ e2.loadRef = some 14020 ∧ e3.loadRef = some 14000 := by
  decide

/-- 4.4: sample 16 moves the advance from 17 to 18, and sample 32 at 19 leaves it and sets both flags. -/
theorem test_learn_later :
    let e := fun (samples advance : Nat) =>
      ({ advance := advance, advValid := false, loadRef := some 14000, loadValid := false, samples := samples
         steps := 7 } : Band)
    let e16 := learnEntry (sampleOfBand10 14050 (-34)) 16 true (e 15 17)
    let e32 := learnEntry (sampleOfBand10 14000 (-34)) 16 true (e 31 19)
    (e16.loadRef, e16.advance, e16.steps) = (some 14003, 18, 0) ∧
      (e32.advance, e32.advValid, e32.loadValid) = (19, true, true) := by decide

/-- R60: band 0 below 26,000, band 10 at 80,000, band 15 from 110,000 on. -/
theorem test_bands : bandIndex 19999 = 0 ∧ bandIndex 25999 = 0 ∧ bandIndex 26000 = 1 ∧ bandIndex 80000 = 10 ∧
    bandIndex 109999 = 14 ∧ bandIndex 110000 = 15 ∧ bandIndex 130000 = 15 := by decide

/-- 4.6: the threshold of 14,003 is 8,751: 8,100 meets the condition, 8,751 does not. -/
theorem test_blockage_threshold :
    (blockageHit (sampleOfBand10 8100 0) (some 14003) .run 160).isSome = true ∧
      (blockageHit (sampleOfBand10 8750 0) (some 14003) .run 160).isSome = true ∧
      (blockageHit (sampleOfBand10 8751 0) (some 14003) .run 160).isSome = false := by decide

/-- 4.6: at 300 ms SUSPECT becomes BLOCKED with count 1 and S_req 40,000. -/
theorem test_blocked :
    let s := after .blockTimerExpiry (running.setBlm { on.blm with state := .suspect, blockTimer := some 300 })
    s.blm.state = .blocked ∧ s.blm.retries = 1 ∧ s.drs.record.sReq = 40000 := by decide

/-- R75: a write of block_time to 301 taken ahead of the expiry at 300 makes it void, and one to 300 is the expiry. -/
theorem test_block_time_written :
    let s := running.setBlm { on.blm with state := .suspect, blockTimer := some 300 }
    (after .blockTimerExpiry (after (.setParam 1 0x25#8 301#32) s)).blm = s.blm ∧
      (after (.setParam 1 0x25#8 300#32) s).blm.state = .blocked := by decide

/-- 4.6: the third entry under STOP trips the motor, and BLM returns to NORMAL. -/
theorem test_blockage_persists :
    let s := after .blockTimerExpiry (running.setBlm
      { on.blm with state := .retrying, retries := 2, targetReached := true, blockTimer := some 300 })
    s.mdr.state = .tripped ∧ s.blm.state = .normal ∧ s.blm.retries = 0 := by decide

/-- R70: BAND_WRITE of an advance of 70 is clamped to 60. -/
theorem test_band_write :
    answerOf (.bandWrite 1 10 70 14003#16 3) on = some (.clamped, .bandWritten 60 14003) := by decide

/-! ### Dirt -/

/-- A dirt window in TRACK with B 2,000, as in 5.6, with the speeds summing to Sw. -/
def tracking (sw db : Nat) (level : DirtLevel) : State :=
  running.setDse { on.dse with
    optical := .track, baseline := 2000, db := db, level := level, acoustic := .usable
    window := some { timer := 20, length := 20, acousticOn := true, detect := 60, speedSum := sw, speedCount := 1 } }

/-- A piezo signal with a number of impacts in silence. -/
def struck (n : Nat) : List Nat := (List.replicate n [200, 0]).flatten

/-- R89: with detect_level 60 a rise from 60 to 61 is an impact, one from 61 to 62 is none, nor is a signal that starts
above the level; the noise is the mean of the levels up to 60, truncated. -/
theorem test_impacts :
    let w : DirtWindow := { timer := 20, length := 20, acousticOn := true, detect := 60, speedSum := 0, speedCount := 0 }
    (impactCount w 60 [61, 62, 60, 61], impactCount w 61 [62, 90], impactCount w 0 (struck 14)) = (2, 0, 14) ∧
      (noiseMeasure 1 w [61, 62, 60, 61, 31], noiseMeasure 1 w [60, 60]) = (45, 60) := by decide

/-- 5.6, W5: opt 38, ac 51, D 42, LIGHT, Db 42, boost 300. -/
theorem test_window_w5 :
    let s := after (.dirtWindowEnd 1700 0 (struck 14)) (tracking 64000 6 .clean)
    (s.dse.lastOpt, s.dse.lastAc, s.dse.d) = (38, 51, 42) ∧ s.dse.level = .light ∧ s.dse.db = 42 ∧
      s.drs.record.boost = 300 ∧ s.dse.baseline = 2000 := by decide

/-- 5.6, W8: D 13, the level held with hold count 1, Db 128, boost 13,200. -/
theorem test_window_w8 :
    let s := after (.dirtWindowEnd 1900 0 (struck 5)) (tracking 70000 132 .heavy)
    (s.dse.d, s.dse.level, s.dse.hold, s.dse.db) = (13, .heavy, 1, 128) ∧ s.drs.record.boost = 13200 := by decide

/-- 5.6: the fouled sensor's W5: B 1,749, working current 62, SETTLE. -/
theorem test_agc_step :
    let d := trackEnd DirtPar.reset 1700 { Dse.reset with optical := .track, baseline := 1750, working := 61 }
    (d.baseline, d.working, d.optical, d.rebase) = (1749, 62, .settle, true) := by decide

/-- 5.6: W64 kills the channel with the fiftieth window; W109 recovers it with B 2,600. -/
theorem test_kill_and_recovery :
    (judgeKill (running.setDse { on.dse with
      optical := .track, baseline := 955, working := 63, kills := 49 })).dse.optical = .killed ∧
    (let d := (killedEnd 2600 (running.setDse { on.dse with
      optical := .killed, baseline := 955, working := 63, recoveries := 9 })).dse
     (d.optical, d.baseline, d.recoveries) = (.track, 2600, 0)) := by decide

/-! ### Pack and gauge -/

/-- R109: 53 °C limits to 24,000, 58 °C to 14,000, 64 °C to 2,000. -/
theorem test_thermal_limit :
    thermalLimit PackPar.reset 53 = 24000 ∧ thermalLimit PackPar.reset 58 = 14000 ∧
      thermalLimit PackPar.reset 64 = 2000 := by decide

/-- 6.8: 30,000 falls to 28,125 and 26,368 in sagging FAST scans of a running motor. -/
theorem test_sag :
    let sc : Scan := { watch := false, fast := true, motor := .run, dt := 8, measuring := true }
    movedSag PackPar.reset sc 2940 30000 = 28125 ∧ movedSag PackPar.reset sc 2890 28125 = 26368 ∧
      movedSag PackPar.reset sc 3300 28125 = 28425 ∧ movedSag PackPar.reset { sc with motor := .coast } 2000 28125 = 28125 := by
  decide

/-- R103: the fourth scan below cell_uv enters CUTOFF: the motor coasts, Q is 0. -/
theorem test_cutoff :
    let cells := on.pkm.cells.map fun c => { c with mv := some 2895, uvCount := 3 }
    let s := after (.scanEnd (readingOf (Seven.replicate 2890)))
      ((running.setPkm { on.pkm with cells := cells, scanned := true }).setGge
        { on.gge with estimatePending := false, q := 4950000000 })
    s.pkm.state = .cutoff ∧ s.mdr.state = .coast ∧ s.drs.hostClaim = false ∧ s.gge.q = 0 ∧ s.gge.event = .empty := by
  decide

/-- R103: of three flagged cells the one of lowest voltage is named, of two at that voltage the first. -/
theorem test_cutoff_names_lowest :
    let entered := fun (mvs : Seven Int) =>
      (after (.scanEnd (readingOf mvs)) (on.setPkm { on.pkm with
        cells := Seven.replicate { CellRecord.reset with mv := some 3000, uvCount := 3 } })).fmg.table.cellUv.detail
    entered ⟨2899, 3100, 2890, 3100, 2895, 3100, 3100⟩ = .cell 3 ∧
      entered ⟨3100, 2899, 2890, 3100, 2890, 3100, 3100⟩ = .cell 3 := by decide

/-- 7.3: 3,801 … 3,799 mV mean 3,800: SOC 55, Q 4,950,000,000, read back as 1,375 mAh and 55 %. -/
theorem test_estimate :
    let g := (after (.scanEnd (readingOf ⟨3801, 3798, 3803, 3800, 3797, 3802, 3799⟩)) on).gge
    (g.q, remaining g, soc g) = (4950000000, 1375, 55) ∧ estimateSoc 3290 = 0 ∧ estimateSoc 4195 = 100 := by decide

/-- 7.2: 12 mA over 250 ms, and 20,000 mA over 8 ms. -/
theorem test_count :
    countedCharge { Gge.reset with q := 4950000000 } 12 250 = 4949997000 ∧
      countedCharge { Gge.reset with q := 4949994000 } 20000 8 = 4949834000 := by decide

/-- 7.5: GAUGE_ADJUST past both ends: the first and second rows. -/
theorem test_gauge_adjust :
    let at_ := fun (q : Nat) => on.setGge { on.gge with estimatePending := false, q := q }
    answerOf (.gaugeAdjust 1 1200#16) (at_ 4929994000) =
        some (.ok, .gaugeAdjust { before := 1369, delta := 1200, after := 2500, soc := 100, saturation := .high }) ∧
      answerOf (.gaugeAdjust 1 (BitVec.ofInt 16 (-7000))) (at_ 9000000000) =
        some (.clamped, .gaugeAdjust { before := 2500, delta := -6000, after := 0, soc := 0, saturation := .low }) := by
  decide

/-- 7.4: full_capacity 3,000 rescales 4,929,994,000 to 5,915,992,800, and a HOST_RESET brings it back. -/
theorem test_rescale :
    let s := after (.setFullCapacity 1 3000#32) (on.setGge { on.gge with estimatePending := false, q := 4929994000 })
    s.gge.q = 5915992800 ∧ (after (.reset 2) s).gge.q = 4929994000 := by decide

/-! ### Charging and dock -/

/-- 8.4: the voltages of the table bleed cells 1, 3 and 5. -/
theorem test_bleed_set :
    selectBleed 15 { on.pkm with
      cells := (⟨4201, 4190, 4210, 4208, 4202, 4194, 4186⟩ : Seven Nat).map fun v =>
        { CellRecord.reset with mv := some v } } = ⟨true, false, true, false, true, false, false⟩ := by decide

/-- R131: in CC a scan raises the setpoint by 25 mA toward the target. -/
theorem test_cc_step :
    (after (.scanEnd (readingOf (Seven.replicate 3640))) ((chargingIn .cc).setPkm
      { on.pkm with chargeAllowance := 2000, scanned := true })).chc.iSet = 25 := by decide

/-- 8.3: a DERATE to 12 units lowers the setpoint to 1,200 at once. -/
theorem test_derate_caps :
    let s := (chargingIn .cc).setChc { (chargingIn .cc).chc with iSet := 2000 }
    (takeAck (.derate 12) false (s.setPkm { on.pkm with chargeAllowance := 2000 })).chc.iSet = 1200 := by decide

/-- R139: PAUSE outside a charge is refused; RESUME needs a pause. -/
theorem test_charge_refusals :
    answerOf (.chargePause 1) on = some (.wrongState, .empty) ∧
      answerOf (.chargeResume 1) on = some (.wrongState, .empty) := by decide

/-- R150, 9.5: W 2,000 asks for 20 units of an offer of 40, and for 12 of an offer of 12; W 0 asks for 1. -/
theorem test_request_units :
    requestUnits (some ⟨40, 2, true, true⟩) 2000 = 20 ∧ requestUnits (some ⟨12, 2, true, true⟩) 2000 = 12 ∧
      requestUnits (some ⟨40, 2, true, true⟩) 0 = 1 := by decide

/-- 9.5: settling over, a HELLO goes out at sequence 0. -/
theorem test_greeting :
    let s := after .settleTimerExpiry ((dockIn .settling).setDlk { (dockIn .settling).dlk with settle := some 200 })
    s.dlk.state = .greeting ∧ (s.dlk.exchange.map fun e => (e.msg, e.seq, e.attempt)) = some (.hello, 0, 1) := by decide

/-- R145: a KEEP's frame has eight bytes: two of header, five of payload and the CRC. -/
theorem test_keep_length : (dockFrame (.keep 2000 4100 .cc) 7).length = 8 := by decide

/-- R146, 12.7: the header of a HELLO at sequence 3: type 1 in the low bits, length 2. -/
theorem test_hello_header : (dockFrame .hello 3).take 4 = [0x31#8, 0x02#8, 0x31#8, 0x01#8] := by decide

/-- The check value of this CRC over "123456789" is F4 (known of the CRC of R146 and R174 outside the spec). -/
theorem test_crc : crc8 [0x31, 0x32, 0x33, 0x34, 0x35, 0x36, 0x37, 0x38, 0x39] = 0xF4#8 := by decide +kernel

/-! ### Counters, faults, link, power -/

/-- 10.5: the window with D 104 takes counter 0 from 1,992 to 2,096: reached and FROZEN, and counter 3 starts. -/
theorem test_counter_reaches :
    let c0 : Counter := { Counter.reset with
      source := .dirtSum, value := 1992, threshold := 2000, options := ⟨true, true, true⟩ }
    let c3 : Counter := { Counter.reset with
      source := .starts, threshold := 2, options := ⟨true, false, false⟩, start := some 0, state := .waiting }
    let s := countEvent .dirtSum (.units 104) (on.setIcn
      { on.icn with counters := { on.icn.counters with n0 := c0, n3 := c3 } })
    (s.icn.counters.n0.value, s.icn.counters.n0.state, s.icn.counters.n0.reached) = (2096, .frozen, true) ∧
      s.icn.counters.n3.state = .counting ∧ s.icn.pending = ⟨true, false, false, false⟩ := by decide

/-- 10.5: COUNTER_ADJUST(0, 0) of the frozen counter lets it count on, still reached. -/
theorem test_counter_adjust_zero :
    let c0 : Counter := { Counter.reset with
      source := .dirtSum, value := 2096, threshold := 2000, options := ⟨true, true, true⟩, state := .frozen
      reached := true }
    answerOf (.counterAdjust 1 0 0#32) (on.setIcn { on.icn with counters := { on.icn.counters with n0 := c0 } }) =
      some (.ok, .counterAdjust { old := 2096, delta := 0, new := 2096, state := .counting, reached := true
                                  saturation := .none }) := by decide

/-- R162: a counter cannot wait on itself. -/
theorem test_counter_setup_self : answerOf (.counterSetup 1 2 0 5#32 0 0x12#8) on = some (.badValue, .empty) := by decide

/-- 1.6, R168: OC_HW while running: TRIPPED, claims down, the edit aborted with TRIP. -/
theorem test_overcurrent :
    let s := after .ocHw (running.setDrs { running.drs with
      edit := some { profile := on.drs.profile, label := 12, timer := 0 } })
    s.mdr.state = .tripped ∧ s.drs.hostClaim = false ∧ s.drs.edit = none ∧ s.drs.lastAbort = ⟨.trip, 12⟩ ∧
      (s.fmg.trip.map (·.first)) = some .ocHw := by decide

/-- 11.4: with pack T at 65 a TRIP_CLEAR is refused INHIBITED, PACK_HOT. -/
theorem test_trip_clear_hot :
    answerOf (.tripClear 1) ((motorIn .tripped).setPkm { on.pkm with packT := some 65 }) =
      some (.inhibited, .hot .packHot none (some 65)) := by decide

/-- 12.6: a request behind an outstanding one is OVERLAP; a third, with two replies queued, is dropped. -/
theorem test_overlap_and_drop :
    let s := after (.stepSelect 2 0) (after (.status 1) on)
    (s.mpt.replies.map (·.status)) = [.ok, .overlap] ∧ s.drs.step = .standard ∧
      (after (.gaugeRead 3) s).mpt.dropped = true ∧ (after (.gaugeRead 3) s).mpt.replies.length = 2 := by decide

/-- R175: a frame whose CRC is wrong is discarded, which sets LINK_ERR. -/
theorem test_bad_crc :
    let s := afterBytes [0xC3#8, 0, 0x01#8, 5, 0xFF#8] on
    s.mpt.linkErr = true ∧ s.mpt.replies = [] ∧ s.mpt.rx = .hunt := by decide +kernel

/-- R175: LEN 61 discards the frame at the LEN byte. -/
theorem test_length_discard : (afterBytes [0xC3#8, 61] on).fmg.table.linkErr.detail = .reason .length := by decide

/-- R180: NOTICE_MASK with a reserved bit is MALFORMED; otherwise it answers with bit 0 set. -/
theorem test_notice_mask :
    answerOf (.noticeMask 1 0x4000#16) on = some (.malformed, .empty) ∧
      answerOf (.noticeMask 1 0x0002#16) on = some (.ok, .enables 0x0003#16) := by decide

/-- R177: RESET answers OK ahead of RESTARTED with cause HOST_RESET. -/
theorem test_reset :
    let s := after (.reset 9) running
    s.mdr.state = .off ∧ (s.mpt.replies.map fun r => (r.kind, r.tag, r.status)) = [(0x86#8, 9, .ok)] ∧
      (s.mpt.notices.map (·.notice)) = [.restarted .hostReset] := by decide

/-- R8: a reset with the trigger held leaves the re-arm flag pending until the level is found RELEASED. -/
theorem test_reset_rearms :
    let s := after (.reset 9) (on.setTrg { on.trg with debounced := some .pressed, raw := .released })
    let t := after .triggerDebounce (s.setTrg { s.trg with timer := 10 })
    (s.trg.rearm, s.trg.debounced) = (true, none) ∧ (t.trg.rearm, t.trg.debounced) = (false, some .released) := by decide

/-- R184: SLEEP is made at the end of its reply. -/
theorem test_sleep :
    let s := after .transmitEnd (after (.sleep 1) on)
    s.slc.power = .on ∧ s.slc.entry = .sleep ∧ (after .transmitEnd s).slc.power = .sleep := by decide

/-- R185: a press in SLEEP wakes the part and starts the motor (13's example). -/
theorem test_trigger_wake :
    let s := after .triggerDebounce
      (asleep.setTrg { on.trg with raw := .pressed, debounced := some .released, timer := 10 })
    s.slc.power = .on ∧ s.slc.wakeCause = .trigger ∧ s.mdr.state = .precheck := by decide

/-- R186, R187: the contacts wake a part in SHIP by a SHIP_WAKE, and SETTLING and the first scan begin at once: RESTARTED,
DOCK_STATE and CHARGE_STATE wait, and a ms later the settle timer stands at 1. -/
theorem test_ship_wake :
    let s := after .shipWake shipped
    let settle := match step s with
      | .next t => t.dlk.settle
      | _ => none
    s.slc = Slc.reset .shipWake ∧ (s.dlk.state, s.dlk.settle, s.chc.state) = (.settling, some 0, .qualify) ∧
      (s.pkm.scan.map (·.dt), s.pkm.lastStart) = (some 0, some 0) ∧
      (s.mpt.notices.map (·.notice.index)) = [0, 9, 8] ∧ settle = some 1 := by decide

/-- R142, R187: a BROWNOUT in the dock begins SETTLING again, and without one DLK stays in ABSENT. -/
theorem test_reset_in_dock :
    (after .brownout (dockIn .active)).dlk.state = .settling ∧ (after .brownout on).dlk = Dlk.reset := by decide

/-- 12.7: a STATUS reply has 28 payload bytes, the SOC at byte 21. -/
theorem test_status_layout :
    let p := statusPayload { statusReport on with soc := 55, motor := .tripped, resetCause := .hostReset }
    p.length = 28 ∧ p[2]? = some 9 ∧ p[21]? = some 55 ∧ p[26]? = some 3 := by decide

/-! ### What meets the premises of each statement, clause by clause -/

/-- One reply of an OVERLAP still waits: a request is taken with one place left (R176). -/
def nearFull : State := on.setMpt { on.mpt with replies := [replyTo 0x02#8 4 .overlap .empty] }

/-- Two replies wait. -/
def fullReplies : State :=
  on.setMpt { on.mpt with
    outstanding := some (0x02#8, 3), replies := [replyTo 0x02#8 3 .ok .empty, replyTo 0x02#8 4 .overlap .empty] }

/-- A request is outstanding, its reply waits. -/
def occupied : State :=
  on.setMpt { on.mpt with outstanding := some (0x02#8, 3), replies := [replyTo 0x02#8 3 .ok .empty] }

/-- An edit labelled 7 is open. -/
def editing : State := on.setDrs { on.drs with edit := some { profile := Profile.reset, label := 7, timer := 0 } }

/-- Run demand by the trigger's claim alone. -/
def triggered (m : MotorState) : State :=
  (demandedIn m).setDrs { (demandedIn m).drs with hostClaim := false, triggerClaim := true }

theorem accepts_on : Accepts on := by unfold Accepts; decide
theorem accepts_nearFull : Accepts nearFull := by unfold Accepts; decide
theorem accepts_running : Accepts running := by unfold Accepts; decide
theorem accepts_editing : Accepts editing := by unfold Accepts; decide
theorem follows_on : DemandFollows on := by unfold DemandFollows; decide
theorem follows_running : DemandFollows running := by unfold DemandFollows; decide
theorem follows_nearFull : DemandFollows nearFull := by unfold DemandFollows; decide

theorem witness_StepRunsFront : (on.setPending [.ocHw, .powerOn]).pending = .ocHw :: [.powerOn] := by decide

theorem witness_IdleStep :
    (shipped.pending = [] ∧ shipped.slc.power = .ship) ∧
      (on.pending = [] ∧ on.slc.power ≠ .ship ∧ on.dlk.contact = false) ∧
      (asleep.pending = [] ∧ asleep.slc.power ≠ .ship ∧ asleep.dlk.contact = false) ∧
      ((dockIn .basic).pending = [] ∧ (dockIn .basic).slc.power ≠ .ship ∧ (dockIn .basic).dlk.state ≠ .absent) ∧
      (dockIn .absent).pending = [] ∧ (dockIn .absent).slc.power ≠ .ship ∧ (dockIn .absent).dlk.state = .absent ∧
      (dockIn .absent).dlk.contact = true := by decide

/-- The debounce of a pressed switch, so many ms long. -/
def debouncing (ms : Nat) : State :=
  on.setTrg { on.trg with raw := .pressed, debounced := some .released, timer := ms }

/-- R1, R76: one ms before its length a timer raises its command at the next step; two before, nothing. -/
theorem test_idle_step_due :
    let due := fun (s : State) => match step s with
      | .next t => t.pending.map fun c => decide (c = .triggerDebounce)
      | _ => []
    let ends := fun (timer : Nat) => match step (running.setDse { on.dse with
        window := some { timer := timer, length := 20, acousticOn := true, detect := 60, speedSum := 0
                         speedCount := 0 } }) with
      | .next t => t.pending.length
      | _ => 0
    due (debouncing 9) = [true] ∧ due (debouncing 8) = [] ∧ ends 19 = 1 ∧ ends 18 = 0 := by decide

theorem witness_ShipIgnores :
    shipped.slc.power = .ship ∧
      Instr.ocHw ∉ [Instr.powerOn, .shipWake, .dockContactRise, .contactVoltageFall, .triggerRawChange .pressed,
        .triggerRawChange .released] := by decide

theorem witness_IdentifyAnswers : Accepts on ∧ Accepts nearFull := ⟨accepts_on, accepts_nearFull⟩

theorem witness_ReadsAnswer : Accepts editing ∧ Accepts nearFull := ⟨accepts_editing, accepts_nearFull⟩

/-- The first and the last id of the table, ids it lacks, a motor parameter with the motor in RUN and in OFF, a code in
and out of an enumeration. -/
theorem witness_ParamRequests :
    (Accepts on ∧ Accepts running) ∧ Param.ofId (0x10#8).toNat = some .alignDuty ∧
      Param.ofId (0x76#8).toNat = some .linkErrResponse ∧ Param.ofId (0x0F#8).toNat = none ∧
      Param.ofId (0x77#8).toNat = none ∧ (Param.ocLevel.motorOffOnly = true ∧ running.mdr.state ≠ .off) ∧
      (Param.ocLevel.motorOffOnly = true ∧ on.mdr.state = .off) ∧
      (Param.linkErrResponse.motorOffOnly = false ∧ Param.linkErrResponse.codes = some [0, 1] ∧
        (2#32).toInt ∉ [(0 : Int), 1] ∧ (1#32).toInt ∈ [(0 : Int), 1]) ∧
      Param.ocLevel.codes = none ∧ Param.ocLevel ≠ .idleSleepS :=
  ⟨⟨accepts_on, accepts_running⟩, by decide⟩

theorem witness_ParamWriteReads :
    (Param.ocLevel.range.1 ≤ Param.ocLevel.range.2 ∧ ∀ cs ∈ Param.ocLevel.codes, Param.ocLevel.range.2 ∈ cs) ∧
      (Param.strict.range.1 ≤ 1 ∧ (1 : Int) ≤ Param.strict.range.2 ∧ ∀ cs ∈ Param.strict.codes, (1 : Int) ∈ cs) ∧
      Param.ocLevel ≠ .strict := by
  refine ⟨⟨by decide, ?_⟩, ⟨by decide, by decide, ?_⟩, by decide⟩
  · rintro cs ⟨⟩
  · rintro cs ⟨⟩; decide

/-- The part in TRACK with the working current 20 and carrier 1 of a reset. -/
def inTrack : State := on.setDse { on.dse with optical := .track }

theorem witness_OwnParamsWritten :
    (Accepts on ∧ Accepts running ∧ Accepts inTrack) ∧
      (((2#32).toInt, TriggerMode.hostOnly) ∈ [((0 : Int), TriggerMode.hold), (1, .toggle), (2, .hostOnly)] ∧
        ((0#32).toInt, TriggerMode.hold) ∈ [((0 : Int), TriggerMode.hold), (1, .toggle), (2, .hostOnly)] ∧
        on.mdr.state = .off ∧ TriggerMode.hostOnly ≠ on.trg.mode ∧ TriggerMode.hold = on.trg.mode ∧
        on.drs.record.runDemand = false ∧ on.drs.hostClaim = false) ∧ running.mdr.state ≠ .off ∧
      (on.dse.optical ≠ .killed ∧ on.dirtPar.mode ≠ .forceOff) ∧
      (inTrack.dse.optical = .track ∧ (0 : Int) ≤ (0#32).toInt ∧ (63#32).toInt ≤ 63 ∧
        (0#32).toNat ≠ inTrack.dse.working ∧ (63#32).toNat ≠ inTrack.dse.working) ∧
      ((0#32).toNat ≠ inTrack.dirtPar.carrier ∧ (2#32).toNat ≠ inTrack.dirtPar.carrier) ∧
      ((500 : Int) ≤ (500#32).toInt ∧ (6000#32).toInt ≤ 6000 ∧ (500#32).toNat ≠ on.gge.f ∧
        (6000#32).toNat ≠ on.gge.f) ∧
      (2000 : Int) < (2001#32).toInt ∧ (3600 : Int) < (3601#32).toInt :=
  ⟨⟨accepts_on, accepts_running, by unfold Accepts; decide⟩, by decide⟩

/-- The optical channel in a state under a mode, with its windows running or stopped. -/
def opticalIn (o : OpticalState) (m : OpticalMode) (windows : Bool) : State :=
  let w : DirtWindow := { timer := 3, length := 20, acousticOn := true, detect := 60, speedSum := 0, speedCount := 0 }
  (on.setDse { on.dse with optical := o, window := if windows then some w else none }).setDirtPar
    { on.dirtPar with mode := m }

/-- A write of the mode in force, the four rows of R87's table and the two of an OFF channel; reserve and idle_sleep_s
at the ends of their ranges, with an idle timer that a write of 1 s has passed and one that it has not. -/
theorem witness_OwnParamsWritten_ranges :
    (((0#32).toInt, OpticalMode.auto) ∈ [((0 : Int), OpticalMode.auto), (1, .forceOn), (2, .forceOff)] ∧
      OpticalMode.auto = on.dirtPar.mode) ∧
      (Accepts (opticalIn .killed .auto true) ∧ OpticalMode.forceOff ≠ (opticalIn .killed .auto true).dirtPar.mode ∧
        OpticalMode.forceOn ≠ (opticalIn .killed .auto true).dirtPar.mode ∧
        (opticalIn .killed .auto true).dse.optical = .killed) ∧
      (Accepts (opticalIn .settle .forceOn true) ∧
        OpticalMode.auto ≠ (opticalIn .settle .forceOn true).dirtPar.mode ∧
        (opticalIn .settle .forceOn true).dse.optical = .settle) ∧
      (Accepts (opticalIn .off .forceOff true) ∧ OpticalMode.auto ≠ (opticalIn .off .forceOff true).dirtPar.mode ∧
        (opticalIn .off .forceOff true).dse.window.isSome = true ∧
        (opticalIn .off .forceOff false).dse.window = none) ∧
      ((0 : Int) ≤ (0#32).toInt ∧ (2000#32).toInt ≤ 2000 ∧ (3600#32).toInt ≤ 3600) ∧
      (Accepts (on.setSlc { on.slc with idle := 1000 }) ∧ idleRuns (on.setSlc { on.slc with idle := 1000 }) = true ∧
        (1#32).toInt ≠ 0 ∧ (1#32).toNat * 1000 ≤ (on.setSlc { on.slc with idle := 1000 }).slc.idle ∧
        ¬ (1#32).toNat * 1000 ≤ (on.setSlc { on.slc with idle := 999 }).slc.idle) := by
  refine ⟨?_, ?_, ?_, ?_, ?_, ?_⟩ <;> (try simp only [Accepts]) <;> decide

theorem witness_NoticeMaskWrites :
    Accepts on ∧ ((0x3FFF#16).getLsbD 14 = false ∧ (0x3FFF#16).getLsbD 15 = false) ∧ (0x4000#16).getLsbD 14 = true ∧
      (0x8000#16).getLsbD 15 = true := ⟨accepts_on, by decide⟩

theorem witness_ResetRestarts : on.slc.power ≠ .ship ∧ asleep.slc.power ≠ .ship ∧ fullReplies.slc.power ≠ .ship := by
  decide

/-- The OK reply of a SLEEP or SHIP is being sent, and the entry awaits its end. -/
def entering (e : PendingEntry) (m : MotorState) : State :=
  ((motorIn m).setMpt { on.mpt with
    outstanding := some (0x07#8, 1), replies := [replyTo 0x07#8 1 .ok .empty]
    tx := some (.reply (replyTo 0x07#8 1 .ok .empty)) }).setSlc { on.slc with entry := e }

theorem witness_SleepAndShip :
    (Accepts on ∧ Accepts running) ∧
      (∀ m ∈ [MotorState.off, .tripped],
        let s := entering .sleep m
        s.slc.power = .on ∧ s.mpt.tx = some (.reply (replyTo 0x07#8 1 .ok .empty)) ∧ s.slc.entry ≠ .none ∧
          motorParked s.mdr.state = true ∧ s.dlk.state = .absent ∧ s.slc.entry = .sleep) ∧
      (let s := entering .ship .off
       motorParked s.mdr.state = true ∧ s.dlk.state = .absent ∧ s.slc.entry = .ship ∧ s.dlk.contact = false ∧
         (s.setDlk { s.dlk with contact := true }).dlk.contact = true) ∧
      motorParked (entering .sleep .run).mdr.state = false ∧ StatusCode.ok ≠ .overlap :=
  ⟨⟨accepts_on, accepts_running⟩, by decide⟩

theorem witness_ClaimRequests :
    (Accepts (dockIn .basic) ∧ firstInhibit (dockIn .basic) = some .docked) ∧
      (Accepts (motorIn .tripped) ∧ firstInhibit (motorIn .tripped) = some .tripped) ∧
      (Accepts running ∧ DemandFollows running ∧ firstInhibit running = none ∧
        running.drs.record.runDemand = true ∧ running.drs.triggerClaim = false ∧
        runningMotor running.mdr.state = true) ∧
      (Accepts on ∧ DemandFollows on ∧ firstInhibit on = none ∧ on.drs.record.runDemand = false ∧
        on.mdr.state = .off) ∧
      (let s := triggered .run
       Accepts s ∧ DemandFollows s ∧ s.drs.triggerClaim = true) ∧
      (let s := demandedIn .coast
       Accepts s ∧ DemandFollows s ∧ s.drs.record.runDemand = true ∧ s.drs.triggerClaim = false ∧
         s.mdr.state = .coast) ∧
      ((2#8).toNat ≤ 2 ∧ Step.ofCode (2#8).toNat = some .max) ∧ 2 < (3#8).toNat := by
  refine ⟨?_, ?_, ?_, ?_, ?_, ?_, ?_⟩ <;> (try simp only [Accepts, DemandFollows]) <;> decide

theorem witness_EditStaged :
    (Accepts on ∧ on.drs.edit = none) ∧
      (Accepts editing ∧ editing.drs.edit = some { profile := Profile.reset, label := 7, timer := 0 }) ∧
      (ProfileField.ofId (0x00#8).toNat = some (.step .eco .speed) ∧ (ProfileField.step .eco .speed).isFlag = false ∧
        ProfileField.ofId (0x14#8).toNat = some .blockedSpeed ∧ ProfileField.blockedSpeed.isFlag = false) ∧
      (ProfileField.ofId (0x06#8).toNat = some (.step .standard .boostEnable) ∧
        (ProfileField.step .standard .boostEnable).isFlag = true ∧ (2#32).toInt ≠ 0 ∧ (2#32).toInt ≠ 1) ∧
      (let p := Profile.reset
       p.eco.speed ≤ p.standard.speed ∧ p.standard.speed ≤ p.max.speed ∧ p.eco.limit ≤ p.standard.limit ∧
         p.standard.limit ≤ p.max.limit ∧ p.blockedSpeed ≤ p.eco.speed ∧ editing.drs.record.runDemand = false) ∧
      (let p := Profile.reset.write (.step .eco .speed) 95000
       p.standard.speed < p.eco.speed) ∧
      (let p := Profile.reset.write (.step .eco .limit) 20001
       p.eco.speed ≤ p.standard.speed ∧ p.standard.speed ≤ p.max.speed ∧ p.standard.limit < p.eco.limit) ∧
      (let p := Profile.reset.write .blockedSpeed 60000
       p.eco.limit ≤ p.standard.limit ∧ p.standard.limit ≤ p.max.limit ∧ p.eco.speed < p.blockedSpeed) :=
  ⟨⟨accepts_on, by decide⟩, ⟨accepts_editing, by decide⟩, by decide⟩

/-- An edit open while the motor runs; a flag's two values; the identifiers next to the known ones. -/
theorem witness_EditStaged_more :
    (let s := running.setDrs { running.drs with edit := editing.drs.edit }
     Accepts s ∧ firstFailure Profile.reset = none ∧ s.drs.record.runDemand = true) ∧
      ((0#32).toInt = 0 ∧ (1#32).toInt = 1) ∧
      ∀ field ∈ [0x0C#8, 0x0F#8, 0x15#8, 0xFF#8],
        ¬ (field.toNat ≤ 0x0B ∨ (0x10 ≤ field.toNat ∧ field.toNat ≤ 0x14)) := by
  unfold Accepts; decide

/-- R13: a flag takes 1 and 0, refuses 2, and 0x0C names no field. -/
theorem test_edit_set_flag :
    answerOf (.editSet 1 0x06#8 1#32) editing = some (.ok, .field 0x06#8 1) ∧
      answerOf (.editSet 1 0x06#8 0#32) editing = some (.ok, .field 0x06#8 0) ∧
      answerOf (.editSet 1 0x06#8 2#32) editing = some (.badValue, .empty) ∧
      answerOf (.editSet 1 0x0C#8 1#32) editing = some (.unknownId, .empty) := by decide

/-- TRIPPED, with T_INV and pack T at the values given. -/
def trippedAt (tInv packT : Int) : State :=
  (on.setMdr { on.mdr with state := .tripped, tInv := some tInv }).setPkm { on.pkm with packT := some packT }

theorem witness_TripRequests :
    (Accepts on ∧ on.mdr.state ≠ .tripped) ∧ (Accepts (trippedAt 110 64) ∧ inverterHot (trippedAt 110 64) = true) ∧
      (Accepts (trippedAt 109 65) ∧ inverterHot (trippedAt 109 65) = false ∧ packHot (trippedAt 109 65) = true) ∧
      (Accepts (trippedAt 109 64) ∧ (trippedAt 109 64).mdr.state = .tripped ∧
        inverterHot (trippedAt 109 64) = false ∧ packHot (trippedAt 109 64) = false ∧
        (trippedAt 109 64).drs.triggerClaim = false ∧ (trippedAt 109 64).drs.hostClaim = false ∧
        (trippedAt 109 64).drs.record.runDemand = false) ∧ 1 < (2#8).toNat := by
  refine ⟨?_, ?_, ?_, ?_, ?_⟩ <;> (try simp only [Accepts]) <;> decide

/-- TRIPPED with CHC in QUALIFY, which the clear lets judge, and in IDLE. -/
theorem witness_TripRequests_qualify :
    let s := (trippedAt 109 64).setChc { on.chc with state := .qualify }
    (Accepts s ∧ s.mdr.state = .tripped ∧ inverterHot s = false ∧ packHot s = false ∧ s.chc.state = .qualify ∧
      RecordSound s.drs.record) ∧ (trippedAt 109 64).chc.state ≠ .qualify := by
  simp only [Accepts, RecordSound]; decide

/-- R129, R165, R172: the clear that parks the motor has QUALIFY judged, and an OV flag there raises CELL_OV. -/
theorem test_clear_judges_qualify :
    let s := after (.tripClear 1) ((((trippedAt 60 40).setChc { on.chc with state := .qualify }).setDlk
      { on.dlk with state := .basic, contact := true }).setPkm { on.pkm with
        packT := some 40, chargeAllowance := 2000, cells := Seven.replicate { CellRecord.reset with mv := some 4300, ov := true } })
    (s.mdr.state, s.chc.state, s.fmg.trip) = (.off, .fault, none) ∧ s.fmg.table.cellOv.count = 1 := by decide

/-- A clear of the table in progress. -/
def clearing : State := on.setSbt { on.sbt with clearTimer := some 0 }

theorem witness_BandRequests :
    (Accepts on ∧ on.sbt.clearTimer = none) ∧ (Accepts clearing ∧ clearing.sbt.clearTimer.isSome = true) ∧
      TableMode.ofCode (2#8).toNat = some .locked ∧ (15#8).toNat ≤ 15 ∧ (0#8).toNat ≤ 15 ∧ (3#8).toNat ≤ 3 := by
  refine ⟨?_, ?_, ?_⟩ <;> (try simp only [Accepts]) <;> decide

theorem witness_PackRequests : Accepts on ∧ Accepts nearFull := ⟨accepts_on, accepts_nearFull⟩

theorem witness_ChargeActions :
    (Accepts on ∧ on.dlk.state = .absent ∧ on.chc.state = .idle ∧ on.chc.pause = false ∧ on.chc.state ≠ .fault) ∧
      (let s := dockIn .basic
       Accepts s ∧ s.chc.state = .idle ∧ s.dlk.state ≠ .absent ∧ motorParked s.mdr.state = true) ∧
      (let s := (dockIn .basic).setMdr { on.mdr with state := .coast }
       Accepts s ∧ s.chc.state = .idle ∧ s.dlk.state ≠ .absent ∧ motorParked s.mdr.state = false) ∧
      (let s := chargingIn .cv
       Accepts s ∧ isCharging s.chc.state = true ∧ s.pkm.state ≠ .cutoff) ∧
      (let s := chargingIn .done
       Accepts s ∧ s.chc.state = .done) ∧
      (let s := (chargingIn .suspend).setChc { (chargingIn .suspend).chc with pause := true, suspend := ⟨true, false, true⟩ }
       Accepts s ∧ s.chc.pause = true ∧ s.chc.state = .suspend ∧ s.chc.suspend.temp = true) ∧
      (let s := (chargingIn .fault).setMdr { on.mdr with state := .coast }
       Accepts s ∧ s.chc.state = .fault ∧ motorParked s.mdr.state = false) := by
  refine ⟨?_, ?_, ?_, ?_, ?_, ?_, ?_⟩ <;> (try simp only [Accepts]) <;> decide

/-- PAUSE in QUALIFY and in SUSPEND, RESUME with HOST the last cause and outside SUSPEND, and CLEAR with the motor
parked. -/
theorem witness_ChargeActions_parked :
    (Accepts (chargingIn .qualify) ∧ (chargingIn .qualify).chc.state = .qualify) ∧
      (let s := (chargingIn .suspend).setChc { (chargingIn .suspend).chc with pause := true, suspend := ⟨false, false, true⟩ }
       Accepts s ∧ s.chc.state = .suspend ∧ s.chc.pause = true ∧ s.chc.suspend.temp = false ∧
         s.chc.suspend.dock = false ∧ motorParked s.mdr.state = true) ∧
      (let s := (chargingIn .qualify).setChc { (chargingIn .qualify).chc with pause := true }
       Accepts s ∧ s.chc.pause = true ∧ s.chc.state ≠ .suspend) ∧
      (let s := chargingIn .fault
       Accepts s ∧ s.chc.state = .fault ∧ motorParked s.mdr.state = true) := by
  refine ⟨?_, ?_, ?_, ?_⟩ <;> (try simp only [Accepts]) <;> decide

/-- CLEAR with the motor parked and 2,000 mA granted passes QUALIFY's judgement at once (R129, R136): CC at a Vmin of
precharge_mV, PRECHARGE one below. -/
theorem test_clear_qualifies :
    let cells := fun (mv : Nat) => Seven.replicate { CellRecord.reset with mv := some mv }
    let s := fun (mv : Nat) => (chargingIn .fault).setPkm { on.pkm with cells := cells mv, chargeAllowance := 2000 }
    (after (.chargeClear 1) (s 3000)).chc.state = .cc ∧ (after (.chargeClear 1) (s 2999)).chc.state = .precharge := by
  decide

theorem witness_CounterRequests :
    Accepts on ∧ ((3#8).toNat ≤ 3 ∧ (7#8).toNat ≤ 7 ∧ CounterSource.ofCode (7#8).toNat = some .starts ∧
        (0 : Nat) ≤ 3 ∧ 0 ≠ (3#8).toNat ∧ (0x10#8).toNat = 0x10 + 0) ∧
      ((0x13#8).toNat = 0x10 + (3#8).toNat ∧ 3 < (4#8).toNat ∧ CounterSource.ofCode (8#8).toNat = none ∧
        (0x0F#8 ≠ 0#8 ∧ ¬ (0x10 ≤ (0x0F#8).toNat ∧ (0x0F#8).toNat ≤ 0x13)) ∧
        ¬ (0x10 ≤ (0x14#8).toNat ∧ (0x14#8).toNat ≤ 0x13)) ∧
      reaches (adjustedCounter 0 (on.icn.counters.get 3)) = false := ⟨accepts_on, by decide⟩

/-- Counter 0 counting a source with a threshold, counter 1 waiting on it. -/
def countingTo (threshold : Nat) (options : Byte) : State :=
  let first := (Four.replicate (setupCounter .trips 0 options none)).put 0 (setupCounter .starts threshold options none)
  on.setIcn { on.icn with counters := first.put 1 (setupCounter .starts 1 options (some 0)) }

/-- A counter an addition of `more` does not bring to its threshold. -/
abbrev short (c : Counter) (more : Nat) : Prop :=
  c.reached = true ∨ c.threshold = 0 ∨ min 4294967295 (c.value + more) < c.threshold

/-- Eight events of nine, and of eight with the notice wanted and not: counter 0 alone counts the source, and counter 1
waits on it short of its own threshold. -/
theorem witness_CounterRequests_reach :
    let quiet := countingTo 9 3
    let s := countingTo 8 3
    let c := s.icn.counters.get 0
    (∀ d ∈ quiet.icn.counters.toList, d.state = .counting → d.source = .starts → short d 8) ∧
      (c.state = .counting ∧ c.source = .starts ∧ ¬ short c 8 ∧ c.options.notify = true ∧ CountersInRange s.icn) ∧
      (∀ j < 4, j ≠ 0 → ¬ ((s.icn.counters.get j).state = .counting ∧ (s.icn.counters.get j).source = .starts) ∧
        ((s.icn.counters.get j).state = .waiting → (s.icn.counters.get j).start = some 0 →
          short (s.icn.counters.get j) 0)) ∧
      ((countingTo 8 2).icn.counters.get 0).options.notify = false :=
  ⟨by decide, ⟨rfl, rfl, by decide, rfl, by unfold CountersInRange; decide⟩, by intro j h; interval_cases j <;> decide, rfl⟩

/-- An adjustment to one below the threshold and to it, and 63,999 and 64,000 ticks of a source whose counter stands at a
threshold of 8 ms. -/
theorem witness_CounterRequests_adjust :
    let s := countingTo 8 3
    let c := { s.icn.counters.get 0 with source := CounterSource.runTime, residue := 0 }
    (Accepts s ∧ reaches (adjustedCounter 7 (s.icn.counters.get 0)) = false ∧
      reaches (adjustedCounter 8 (s.icn.counters.get 0)) = true) ∧ short c ((c.residue + 63999) / 8000) ∧
      ¬ short c ((c.residue + 64000) / 8000) := by
  simp only [Accepts]; decide

/-- R160: a counter started by a reach within a window end does not count that window end itself: the index reaches
counter 0, and counter 1, of HEAVY windows, starts from the next. -/
theorem test_started_counts_next :
    let first := (Four.replicate (setupCounter .trips 0 0 none)).put 0 (setupCounter .dirtSum 100 1 none)
    let s := on.setIcn { on.icn with counters := first.put 1 (setupCounter .heavyWindows 5 0 (some 0)) }
    let t := countEvents [(.dirtSum, .units 140), (.heavyWindows, .units 1)] s
    ((t.icn.counters.get 0).reached, (t.icn.counters.get 1).state, (t.icn.counters.get 1).value) =
      (true, .counting, 0) := by decide

theorem witness_FrameJudged :
    (on.slc.power = .on ∧ 1 ≤ (0x01#8).toNat ∧ (0x3F#8).toNat ≤ 0x3F ∧ (List.replicate 60 (0#8)).length ≤ 60) ∧
      (fullReplies.slc.power = .on ∧ 2 ≤ fullReplies.mpt.replies.length) ∧
      (occupied.slc.power = .on ∧ occupied.mpt.replies.length < 2 ∧ occupied.mpt.outstanding.isSome = true) ∧
      (Accepts on ∧ knownKind (0x3F#8).toNat = false) ∧
      (knownKind (0x32#8).toNat = true ∧ requestServed (0x32#8).toNat [] = none ∧
        requestServed (0x01#8).toNat (List.replicate 60 (0#8)) = none) ∧
      asleep.slc.power = .sleep ∧ asleep.drs.triggerClaim = false ∧ asleep.drs.hostClaim = false ∧
      asleep.drs.record.runDemand = false :=
  ⟨by decide, by decide, by decide, ⟨accepts_on, by decide⟩, ⟨by decide, rfl, rfl⟩, by decide⟩

/-- A frame has begun. -/
def inHeader : State := on.setMpt { on.mpt with rx := .header }

theorem witness_LineBytes :
    (on.slc.power = .on ∧ DiscardReason.crc ≠ .gap) ∧ (on.mpt.rx = .hunt ∧ (0xC2#8) ≠ (0xC3#8)) ∧
      inHeader.slc.power = .on ∧ inHeader.mpt.rx ≠ .hunt := by decide

theorem witness_BytesSpellFrame :
    (on.slc.power ≠ .ship ∧ on.mpt.rx = .hunt) ∧ (asleep.slc.power ≠ .ship ∧ asleep.mpt.rx = .hunt) ∧
      1 ≤ (0x01#8).toNat ∧ (0x3F#8).toNat ≤ 0x3F ∧ (List.replicate 60 (0#8)).length ≤ 60 := by decide

/-- The entry of a notice in the queue. -/
def waiting (n : Notice) : NoticeEntry := { notice := n, repeats := 0, uptime := 0 }

/-- A frame is being sent. -/
def sending (f : TxFrame) (replies : List Reply) : State :=
  on.setMpt { on.mpt with tx := some f, replies := replies }

theorem witness_Transmissions :
    asleep.slc.power ≠ .on ∧
      (nearFull.slc.power = .on ∧ nearFull.mpt.tx = none ∧
        nearFull.mpt.replies = [replyTo 0x02#8 4 .overlap .empty]) ∧
      (on.slc.power = .on ∧ on.mpt.tx = none ∧ on.mpt.replies = [] ∧
        on.mpt.notices = [waiting (.restarted .powerOn)]) ∧
      (let s := sending (.notice (waiting (.restarted .powerOn))) []
       s.slc.power ≠ .ship ∧ s.mpt.tx = some (.notice (waiting (.restarted .powerOn)))) ∧
      (let r := replyTo 0x02#8 4 .overlap .empty
       (sending (.reply r) [r]).mpt.tx = some (.reply r) ∧ r.status = .overlap) ∧
      (let r := replyTo 0x02#8 4 .ok .empty
       (sending (.reply r) [r]).mpt.tx = some (.reply r) ∧ r.status ≠ .overlap ∧
         (sending (.reply r) [r]).slc.entry = .none) := by decide

theorem witness_NoticeRaised :
    (on.mpt.enables.getLsbD (Notice.tableCleared .off).index = true ∧
      ∀ x ∈ on.mpt.notices, x.notice.index ≠ (Notice.tableCleared .off).index) ∧
      ((Notice.restarted .hostReset).index = 0 ∧ NoticesDistinct on.mpt ∧
        waiting (.restarted .powerOn) ∈ on.mpt.notices ∧
        (waiting (.restarted .powerOn)).notice.index = (Notice.restarted .hostReset).index) ∧
      ¬ ((Notice.tableCleared .off).index = 0 ∨ (1#16).getLsbD (Notice.tableCleared .off).index = true) := by
  unfold NoticesDistinct; decide

/-- The trigger with its last determination, the raw level and the re-arm flag given, the debounce over. -/
def triggerAt (debounced : Option Level) (raw : Level) (rearm : Bool) (s : State) : State :=
  s.setTrg { on.trg with debounced := debounced, raw := raw, rearm := rearm, timer := 10 }

theorem witness_TriggerAndEditTimer :
    (on.slc.power = .on ∧ on.trg.debounced = none) ∧
      (triggerAt (some .released) .released false on).trg.debounced = some .released ∧
      (let s := triggerAt (some .released) .pressed false on
       firstInhibit s = none ∧ s.trg.rearm = false ∧ s.trg.mode = .hold ∧ s.drs.record.runDemand = false ∧
         s.mdr.state = .off) ∧
      (let s := triggerAt (some .released) .pressed false (dockIn .basic)
       firstInhibit s = some .docked ∧ s.drs.record.runDemand = false) ∧
      (let s := triggerAt (some .released) .pressed true on
       firstInhibit s = none ∧ s.trg.rearm = true ∧ DemandFollows s) ∧
      (let s := triggerAt (some .pressed) .released false (triggered .run)
       s.trg.mode = .hold ∧ s.drs.hostClaim = false ∧ runningMotor s.mdr.state = true ∧
         s.drs.record.runDemand = true) ∧ on.drs.edit = none ∧ editing.drs.edit.isSome = true := by
  unfold DemandFollows; decide

/-- The other modes: presses in TOGGLE with the claim down and up and in HOST_ONLY, a release in TOGGLE; a release while
TRIPPED that clears and one under strict clearing; an edit timer one below 2,000 ms and at it. -/
theorem witness_TriggerAndEditTimer_modes :
    let inMode := fun (m : TriggerMode) (s : State) => s.setTrg { s.trg with mode := m }
    let timed := fun (n : Nat) => on.setDrs { on.drs with edit := some { profile := Profile.reset, label := 7, timer := n } }
    (let s := inMode .toggle (triggerAt (some .released) .pressed false on)
     firstInhibit s = none ∧ s.trg.rearm = false ∧ s.trg.mode = .toggle ∧ s.drs.triggerClaim = false ∧
       s.drs.record.runDemand = false ∧ s.mdr.state = .off) ∧
      (let s := inMode .toggle (triggerAt (some .released) .pressed false (triggered .run))
       firstInhibit s = none ∧ s.trg.rearm = false ∧ s.drs.triggerClaim = true ∧ s.drs.hostClaim = false ∧
         runningMotor s.mdr.state = true ∧ s.drs.record.runDemand = true) ∧
      (let s := inMode .hostOnly (triggerAt (some .released) .pressed false on)
       firstInhibit s = none ∧ s.trg.rearm = false ∧ s.trg.mode = .hostOnly ∧ s.drs.triggerClaim = false ∧
         DemandFollows s) ∧
      (let s := inMode .toggle (triggerAt (some .pressed) .released false (triggered .run))
       s.trg.mode = .toggle ∧ s.mdr.state ≠ .tripped ∧ DemandFollows s) ∧
      (let s := triggerAt (some .pressed) .released false (trippedAt 109 64)
       s.slc.power = .on ∧ s.mdr.state = .tripped ∧ s.drs.triggerClaim = false ∧ s.drs.hostClaim = false ∧
         s.drs.record.runDemand = false ∧ s.fmg.strict = false ∧ inverterHot s = false ∧ packHot s = false) ∧
      inverterHot (triggerAt (some .pressed) .released false (trippedAt 110 64)) = true ∧
      (timed 1999).drs.edit = some { profile := Profile.reset, label := 7, timer := 1999 } ∧
      (timed 2000).drs.edit = some { profile := Profile.reset, label := 7, timer := 2000 } := by
  unfold DemandFollows; decide

/-- A press toward a start from COAST; a press, a HOLD release and a HOST_ONLY release under the host's claim; a HOLD release
with nothing demanded; a release in SLEEP; a clearing release with CHC in QUALIFY. -/
theorem witness_TriggerAndEditTimer_claims :
    let inMode := fun (m : TriggerMode) (s : State) => s.setTrg { s.trg with mode := m }
    (let s := triggerAt (some .released) .pressed false (motorIn .coast)
     firstInhibit s = none ∧ s.trg.mode = .hold ∧ s.drs.record.runDemand = false ∧ s.mdr.state = .coast ∧
       s.mdr.startPending = false) ∧
      (let s := inMode .hostOnly (triggerAt (some .released) .pressed false running)
       firstInhibit s = none ∧ s.trg.rearm = false ∧ s.drs.hostClaim = true ∧ DemandFollows s) ∧
      (let s := triggerAt (some .pressed) .released false running
       s.trg.mode = .hold ∧ s.drs.hostClaim = true ∧ s.mdr.state ≠ .tripped ∧ DemandFollows s) ∧
      (let s := inMode .hostOnly (triggerAt (some .pressed) .released false running)
       s.trg.mode = .hostOnly ∧ s.drs.triggerClaim = false ∧ s.mdr.state ≠ .tripped ∧ DemandFollows s) ∧
      (let s := triggerAt (some .pressed) .released false on
       s.trg.mode = .hold ∧ s.drs.record.runDemand = false ∧ s.mdr.state ≠ .tripped ∧ DemandFollows s) ∧
      (let s := triggerAt (some .pressed) .released false asleep
       s.slc.power = .sleep ∧ s.trg.debounced = some .pressed ∧ s.trg.raw = .released) ∧
      (let s := (triggerAt (some .pressed) .released false (trippedAt 109 64)).setChc { on.chc with state := .qualify }
       s.chc.state = .qualify ∧ RecordSound s.drs.record ∧ s.mdr.state = .tripped) := by
  unfold DemandFollows RecordSound; decide

/-- R5: a release while docked carries the cause too. -/
theorem test_release_cause :
    ((after .triggerDebounce (triggerAt (some .pressed) .released false (dockIn .basic))).mpt.notices.map fun e =>
      match e.notice with
      | .trigger n => some (n.edge, n.inhibited, n.cause)
      | _ => none).getLast? = some (some (.released, false, some .docked)) := by decide

/-- R17: EDIT_SET taken first restarts the edit timer, and the expiry behind it is void. -/
theorem test_edit_timeout_void :
    (after .editTimeout (after (.editSet 1 0x14#8 30000#32) (on.setDrs { on.drs with
      edit := some { profile := Profile.reset, label := 7, timer := 2000 } }))).drs.edit.isSome = true := by decide

/-! ### The motor's -/

theorem witness_MotorChange :
    on.slc.power = .on ∧ MotorState.coast ≠ .off ∧ MotorState.coast ≠ .run ∧ MotorState.coast ≠ .tripped ∧
      (demandedIn .ramp).mdr.state ≠ .run := by decide

/-- PRECHECK with T_INV and the last interval given, two crossings having come. -/
def precheckAt (tInv : Option Int) (crossings : Nat) (interval : Option Nat) : State :=
  (demandedIn .precheck).setMdr { (demandedIn .precheck).mdr with
    tInv := tInv, crossings := crossings, lastInterval := interval }

/-- T_INV unmeasured, one below the cut, and at it; an interval of 15,000 rpm, the next longer, and a rotor at rest. -/
theorem witness_PrecheckDecides :
    (let s := precheckAt none 0 none
     s.slc.power = .on ∧ s.mdr.state = .precheck ∧ s.mdr.tInv = none) ∧
      (let s := precheckAt (some 109) 2 (some 5333)
       s.mdr.tInv = some 109 ∧ (109 : Int) < s.motorPar.invCut ∧ s.motorPar.catchSpeed ≤ offGatesSpeed s.mdr) ∧
      (let s := precheckAt (some 109) 2 (some 5334)
       offGatesSpeed s.mdr < s.motorPar.catchSpeed ∧ belowStop s.mdr = false) ∧
      (let s := precheckAt (some 109) 1 none
       offGatesSpeed s.mdr < s.motorPar.catchSpeed ∧ belowStop s.mdr = true) ∧
      (let s := precheckAt (some 110) 0 none
       s.mdr.tInv = some 110 ∧ s.motorPar.invCut ≤ (110 : Int)) := by decide

theorem witness_StartTurns :
    (motorIn .align).slc.power = .on ∧ (motorIn .align).mdr.state = .align ∧
      (motorIn .restartWait).mdr.state = .restartWait ∧ (motorIn .ramp).mdr.state = .ramp ∧
      ((motorIn .ramp).mdr.rampInc + BitVec.ofNat 16 (motorIn .ramp).motorPar.rampAccel).toNat * 1200000 / 65536 ≤
        (motorIn .ramp).motorPar.handoverSpeed * 3 / 2 := by decide

/-- RAMP at an increment, with the attempts before it. -/
def rampAt (inc : BitVec 16) (attempts : Nat) : State :=
  (demandedIn .ramp).setMdr { (demandedIn .ramp).mdr with rampInc := inc, attempts := attempts }

theorem witness_StartFails :
    (let s := rampAt 0x5BE#16 1
     s.slc.power = .on ∧ s.drs.record.runDemand = true ∧ DemandFollows s ∧ s.mdr.state = .ramp ∧
       s.mdr.attempts < 2 ∧ s.motorPar.handoverSpeed * 3 / 2 <
         rampSpeed (s.mdr.rampInc + BitVec.ofNat 16 s.motorPar.rampAccel)) ∧
      (let s := rampAt 0x5BE#16 2
       DemandFollows s ∧ 2 ≤ s.mdr.attempts) ∧
      (let s := demandedIn .handover
       DemandFollows s ∧ s.mdr.state = .handover ∧ s.mdr.seen = false) := by
  unfold DemandFollows; decide

/-- A motor with its gates off that saw a crossing of sector 0 last. -/
def sawSector0 (m : MotorState) (crossings : Nat) (pending : Bool) : State :=
  (demandedIn m).setMdr { (demandedIn m).mdr with
    crossings := crossings, lastNamed := some 0, lastInterval := some 1905, startPending := pending
    catchLimit := some 0 }

theorem witness_TurningRotor :
    ((demandedIn .precheck).slc.power = .on ∧ (demandedIn .precheck).mdr.lastNamed = none) ∧
      (let s := sawSector0 .precheck 1 false
       s.mdr.state = .precheck ∧ (∃ p ∈ s.mdr.lastNamed, sectorNamed .v true = (p + 1) % 6) ∧ s.mdr.crossings = 1 ∧
         26666 ≤ 26666) ∧
      (let s := sawSector0 .catching 3 false
       s.mdr.state = .catching ∧ (∃ p ∈ s.mdr.lastNamed, ¬ sectorNamed .w true = (p + 1) % 6) ∧
         s.mdr.catchLimit.isSome = true ∧ s.mdr.lastInterval.isSome = true) ∧
      (let s := sawSector0 .coast 3 true
       s.mdr.state = .coast ∧ (∃ p ∈ s.mdr.lastNamed, ¬ sectorNamed .w true = (p + 1) % 6) ∧
         s.mdr.startPending = true) ∧
      (let s := sawSector0 .coast 3 false
       s.mdr.startPending = false ∧ s.chc.state ≠ .qualify) ∧
      (let s := sawSector0 .precheck 4 false
       s.mdr.state = .precheck ∧ ∃ p ∈ s.mdr.lastNamed, ¬ sectorNamed .w true = (p + 1) % 6) :=
  ⟨by decide, ⟨rfl, ⟨0, rfl, rfl⟩, rfl, by decide⟩, ⟨rfl, ⟨0, rfl, by decide⟩, rfl, rfl⟩,
    ⟨rfl, ⟨0, rfl, by decide⟩, rfl⟩, by decide, ⟨rfl, ⟨0, rfl, by decide⟩⟩⟩

/-- The first and the in-turn crossings of CATCH and COAST: a sequence not begun; in turn at the end of the allowed
time and a tick later; in turn and out of it in COAST; COAST with CHC waiting in QUALIFY. -/
theorem witness_TurningRotor_sequences :
    let begun := fun (m : MotorState) => (sawSector0 m 1 false).setMdr { (sawSector0 m 1 false).mdr with
      lastNamed := none, lastInterval := none }
    ((begun .catching).mdr.state = .catching ∧ (begun .catching).mdr.lastNamed = none ∧
      (begun .catching).mdr.lastInterval = none ∧ (begun .coast).mdr.lastNamed = none) ∧
      (let s := sawSector0 .catching 5 false
       (∃ p ∈ s.mdr.lastNamed, sectorNamed .v true = (p + 1) % 6) ∧ s.mdr.lastInterval = some 1905 ∧
         2857 ≤ 1905 * 3 / 2 ∧ 1905 * 3 / 2 < 2858 ∧ s.mdr.crossings < 11 ∧ 5 ≤ s.mdr.crossings) ∧
      (let s := sawSector0 .coast 1 true
       s.mdr.state = .coast ∧ (∃ p ∈ s.mdr.lastNamed, ¬ sectorNamed .u true = (p + 1) % 6) ∧
         s.mdr.startPending = true ∧ (sawSector0 .coast 1 false).mdr.startPending = false) ∧
      (let s := (motorIn .coast).setChc { on.chc with state := .qualify }
       s.slc.power = .on ∧ s.mdr.state = .coast ∧ s.mdr.startPending = false ∧ s.chc.state = .qualify) :=
  ⟨by decide, ⟨⟨0, rfl, rfl⟩, by decide⟩, ⟨rfl, ⟨0, rfl, by decide⟩, by decide⟩, by decide⟩

/-- R37, R38: with five counted the sixth in time stops CATCH's limit, and one a tick late is the first of a new
sequence; an interval of 26,667 ticks ends COAST, one of 26,666 does not. -/
theorem test_turning_rotor :
    let caught := fun (t : Nat) => (after (.bemfCrossing .v true t 0) (sawSector0 .catching 5 false)).mdr
    let coasting := fun (t : Nat) => (after (.bemfCrossing .v true t 0) (sawSector0 .coast 1 false)).mdr.state
    ((caught 2857).crossings, (caught 2857).catchLimit, (caught 2858).crossings, (caught 2858).catchLimit) =
      (6, none, 1, some 0) ∧ coasting 26666 = .coast ∧ coasting 26667 = .off := by decide

/-- A driven motor in sector 3 with Ts 960 and crossings counted. -/
def drivenAt (m : MotorState) (crossings handover : Nat) (inc : BitVec 16) : State :=
  (demandedIn m).setMdr { (demandedIn m).mdr with
    sector := 3, ts := 960, crossings := crossings, handoverCount := handover, rampInc := inc }

/-- The window of Ts 960 opens at 240 and closes at 1,440; 984 is the first increment of handover_speed. -/
theorem witness_DrivenCrossings :
    (let s := drivenAt .run 0 0 0
     s.slc.power = .on ∧ inWindow s.mdr .w true 239 100 = false ∧
       inWindow s.mdr .w true 240 100 = true ∧
       inWindow s.mdr .w true 1440 100 = true ∧
       inWindow s.mdr .w true 1441 100 = false) ∧
      (let s := drivenAt .ramp 10 0 984
       s.mdr.rampFirst = false ∧ inWindow s.mdr .w true 240 100 = true ∧ s.mdr.crossings < 11) ∧
      (let s := drivenAt .ramp 11 0 984
       inWindow s.mdr .w true 1440 100 = true ∧ s.mdr.crossings = 11 ∧
         s.motorPar.handoverSpeed ≤ rampSpeed s.mdr.rampInc) ∧
      (let s := drivenAt .handover 0 5 0
       s.mdr.state = .handover ∧ inWindow s.mdr .w true 240 100 = true ∧
         5 ≤ s.mdr.handoverCount) ∧
      (let s := sawSector0 .catching 11 false
       s.mdr.state = .catching ∧ (∃ p ∈ s.mdr.lastNamed, sectorNamed .v true = (p + 1) % 6) ∧
         catchLate 2857 s.mdr = false ∧ 11 ≤ s.mdr.crossings) :=
  ⟨by decide, by decide, by decide, by decide, ⟨rfl, ⟨0, rfl, rfl⟩, by decide⟩⟩

/-- RAMP's twelfth crossing at 983, one increment below handover_speed, and HANDOVER's second to fifth. -/
theorem witness_DrivenCrossings_counted :
    (let s := drivenAt .ramp 11 0 983
     s.mdr.rampFirst = false ∧ inWindow s.mdr .w true 240 100 = true ∧ 11 ≤ s.mdr.crossings ∧
       rampSpeed s.mdr.rampInc < s.motorPar.handoverSpeed) ∧
      (∀ n ∈ [1, 4], let s := drivenAt .handover 0 n 0
       s.mdr.state = .handover ∧ inWindow s.mdr .w true 240 100 = true ∧ s.mdr.handoverCount < 5) ∧
      11 ≤ (drivenAt .ramp 12 0 984).mdr.crossings := by decide

/-- R26, R63: at 240 the crossing is taken and the fixed advance serves; a demagnetisation of 241 holds it back. -/
theorem test_crossing_bounds :
    let s := drivenAt .run 0 0 0
    ((after (.bemfCrossing .w true 240 240) s).mdr.schedule, (after (.bemfCrossing .w true 240 241) s).mdr.schedule) =
      (some (240 + 960 * (60 - s.motorPar.fixedAdvance) / 120), none) := by decide

/-- A commutation scheduled, so many of its revolution past. -/
def scheduledIn (m : MotorState) (revCount : Nat) : State :=
  (demandedIn m).setMdr { (demandedIn m).mdr with schedule := some 960, revCount := revCount }

theorem witness_CommutationSteps :
    ((scheduledIn .handover 0).slc.power = .on ∧ (scheduledIn .handover 0).mdr.schedule = some 960) ∧
      ((scheduledIn .run 4).mdr.state = .run ∧ (scheduledIn .run 4).mdr.revCount < 5) ∧
      (5 ≤ (scheduledIn .run 5).mdr.revCount ∧ (scheduledIn .run 5).drs.record.runDemand = true) ∧
      (scheduledIn .ramp 0).mdr.state ≠ .handover ∧ (scheduledIn .ramp 0).mdr.state ≠ .run := by decide

/-- R46: with run demand false a revolution end moves neither the target nor the duty, and the speed is measured. -/
theorem test_revolution_without_demand :
    let s := (scheduledIn .run 5).setMdr { (scheduledIn .run 5).mdr with periods := List.replicate 6 960 }
    let t := after (.commutation 20000) (s.setDrs { s.drs with record := DemandRecord.idle })
    ({ t.srg with sample := none } : Srg) = s.srg ∧ t.mdr.speed = 83333 := by decide

/-- The last commutation of a revolution in each state of the Blockage Monitor RUN has, a dirt window open. -/
theorem witness_CommutationSteps_blockage :
    ∀ b ∈ [BlockageState.normal, .suspect, .blocked, .retrying],
      let s := ((scheduledIn .run 5).setBlm { on.blm with state := b }).setDse (tracking 0 0 .clean).dse
      s.slc.power = .on ∧ s.mdr.schedule = some 960 ∧ s.mdr.state = .run ∧ 5 ≤ s.mdr.revCount ∧
        s.drs.record.runDemand = true ∧ s.blm.state = b ∧ s.dse.window.isSome = true := by decide

/-- R71, R73, R79: in band 10 at 80,000 rpm with a load of 14,000 a mean current of 8,749 suspects a blockage and one of
8,750 ends the suspicion; the dirt window adds the speed of the revolution. -/
theorem test_revolution_blockage :
    let entry : Band := { advance := 16, advValid := false, loadRef := some 14000, loadValid := true, samples := 40
                          steps := 0 }
    let s := ((((scheduledIn .run 5).setMdr { (scheduledIn .run 5).mdr with
        periods := List.replicate 6 1000, schedule := some 1000, ts := 1000 }).setSbt
          (putBand { on.sbt with mode := .on } 10 entry)).setSrg { on.srg with st := 80000, dc := 4095 }).setDse (tracking 0 0 .clean).dse
    let suspect := s.setBlm { on.blm with state := .suspect, blockTimer := some 4 }
    ((after (.commutation 8749) s).blm.state, (after (.commutation 8750) s).blm.state) = (.suspect, .normal) ∧
      ((after (.commutation 8749) suspect).blm.blockTimer, (after (.commutation 8750) suspect).blm.state) =
        (some 4, .normal) ∧
      ((after (.commutation 8750) s).dse.window.map fun w => (w.speedSum, w.speedCount)) = some (80000, 2) := by
  decide

/-- With S_req 80,000 and I_c 20,000: the target one below it and at it, and the current one above I_c, at I_c, at the
threshold 18,750 and one below. -/
theorem witness_RegulatorActs :
    (regulating 79999 0 1 0 false false).srg.st < running.drs.record.sReq ∧
      running.drs.record.sReq < (regulating 80001 0 1 0 false false).srg.st ∧
      (regulating 80000 0 1 0 false false).srg.st = running.drs.record.sReq ∧ running.drs.record.iC < 20001 ∧
      (regulating 80000 0 1 0 false false).srg.dc ≤ 4095 ∧
      (18749 < running.drs.record.iC - running.drs.record.iC / 16 ∧
        running.drs.record.iC - running.drs.record.iC / 16 ≤ 18750) ∧ 20000 ≤ running.drs.record.iC := by decide

/-- R51, R52: an error of 30,000 counts as 20,000 by ki 12 and kp 40; pinned at the top the integral stands. -/
theorem test_regulator_clamps :
    let r := regulated (regulating 80000 1024000 4095 1000 false false) 50000 0
    let pinned := regulated (regulating 80000 1024000 4095 4095 true false) 50000 0
    (r.acc, r.duty) = (1024000 + 240000, 781 + 1234) ∧ (pinned.acc, pinned.duty) = (1024000, 781 + 1000) := by decide

/-- R44: a blank_frac written in mid-sector blanks from the next commutation on: the sector's own 64 of 256 stands. -/
theorem test_blank_frac_latched :
    let s := after (.setParam 1 0x1F#8 100#32) ((drivenAt .run 0 0 0).setMdr
      { (drivenAt .run 0 0 0).mdr with schedule := some 960 })
    (s.mdr.blankFrac, (after (.commutation 0) s).mdr.blankFrac) = (64, s.motorPar.blankFrac) := by decide

/-- RUN with misses counted and a response to the sixth. -/
def missing (misses : Nat) (response : Response) : State :=
  (running.setMdr { running.mdr with misses := misses }).setFmg { on.fmg with syncLoss := response }

theorem witness_WindowsClose :
    (running.setMdr { running.mdr with seen := true }).mdr.seen = true ∧
      ((demandedIn .ramp).slc.power = .on ∧ (demandedIn .ramp).mdr.seen = false) ∧
      ((missing 4 .restart).mdr.seen = false ∧ (missing 4 .restart).mdr.misses < 5 ∧
        (missing 4 .restart).mdr.revCount < 5) ∧
      (5 ≤ (missing 5 .restart).mdr.misses ∧ DemandFollows (missing 5 .restart) ∧
        (missing 5 .restart).drs.record.runDemand = true ∧ (missing 5 .restart).fmg.syncLoss = .restart ∧
        (missing 5 .restart).mdr.restarts = []) ∧
      (missing 5 .stop).mdr.seen = false ∧ (missing 5 .stop).fmg.syncLoss = .stop := by
  unfold DemandFollows; decide

/-- RUN at its sixth miss, with a restart history, at an uptime of 5,000 ms. -/
def losing (history : List Uptime) : State :=
  let s := missing 5 .restart
  (s.setMdr { s.mdr with restarts := history }).setSlc { on.slc with uptime := 5000 }

/-- An entry of 2,000 ms is dropped and one of 1,999 stays; with two that stay the loss is the third. -/
theorem witness_WindowsClose_history :
    let young := fun (l : List Uptime) => l.filter fun u => decide (((5000 : Uptime) - u).toNat < 2000)
    (DemandFollows (losing [3000, 3001]) ∧ (losing [3000, 3001]).drs.record.runDemand = true ∧
      (losing [3000, 3001]).fmg.syncLoss = .restart ∧ young [3000, 3001] = [3001]) ∧
      ((losing [3001, 4999]).mdr.seen = false ∧ (losing [3001, 4999]).mdr.state = .run ∧
        2 ≤ (young [3001, 4999]).length) := by
  unfold DemandFollows; decide

/-- R39: the third SYNC_LOSS within 2,000 ms trips; with the oldest 2,000 ms back the motor starts anew. -/
theorem test_third_sync_loss :
    ((after (.windowClose 0) (losing [3001, 4999])).mdr.state,
      (after (.windowClose 0) (losing [3001, 4999])).fmg.trip.map (·.first)) = (.tripped, some .syncLoss) ∧
      ((after (.windowClose 0) (losing [3000, 3001])).mdr.state,
        (after (.windowClose 0) (losing [3000, 3001])).mdr.restarts) = (.precheck, [3001, 5000]) := by decide

/-- A trip of another cause in RUN, entered at an uptime. -/
def trippedBy (k : FaultKind) (uptime : BitVec 32) : TripRecord :=
  { first := k, detail := .motor .run, uptime := uptime, motor := .run, speed := 80000, current := 0, vmin := none
    tInv := none, packT := none, later := KindMap.replicate false }

theorem witness_OvercurrentTrips_later :
    let s := (trippedAt 40 40).setFmg { on.fmg with trip := some (trippedBy .packHot 0) }
    (s.slc.power = .on ∧ s.mdr.state = .tripped ∧ s.fmg.trip = some (trippedBy .packHot 0) ∧
      (trippedBy .packHot 0).uptime = s.slc.uptime ∧ (trippedBy .packHot 0).first ≠ .ocHw ∧
      motorWatched (trippedBy .packHot 0).motor = true) ∧ (trippedBy .packHot 1).uptime ≠ s.slc.uptime ∧
      (trippedBy .ocHw 0).first = .ocHw := by decide

/-- R170: OC_HW in the ms of another STOP's entry to TRIPPED is counted and joins the trip's later causes. -/
theorem test_overcurrent_later :
    let s := after .ocHw ((trippedAt 40 40).setFmg { on.fmg with trip := some (trippedBy .packHot 0) })
    (s.fmg.trip.map fun r => (r.first, r.later.get .ocHw)) = some (.packHot, true) ∧ s.fmg.table.ocHw.count = 1 := by
  decide

/-- R170: taken in the other order, the PACK_HOT that a scan end finds in the ms of OC_HW's trip is the later cause; a ms
later it is not raised. -/
theorem test_pack_hot_later :
    let s := fun (uptime : BitVec 32) => after (.scanEnd { readingOf (Seven.replicate 3700) with tPack1 := 70 })
      (((trippedAt 40 40).setFmg { on.fmg with trip := some (trippedBy .ocHw uptime) }).setPkm
        { on.pkm with scan := some { watch := false, fast := true, motor := .run, dt := 8, measuring := false } })
    ((s 0).fmg.trip.map fun r => (r.first, r.later.get .packHot)) = some (.ocHw, true) ∧
      (s 0).fmg.table.packHot.count = 1 ∧ (s 1).fmg.table.packHot.count = 0 := by decide

/-- R164: the kinds number from 0 to 13. -/
theorem test_fault_numbers : FaultKind.ocHw.number = 0 ∧ FaultKind.dockLost.number = 13 := by decide

theorem witness_OvercurrentTrips :
    on.slc.power = .on ∧ (motorWatched running.mdr.state = true ∧ running.chc.state ≠ .qualify) ∧
      motorWatched (motorIn .precheck).mdr.state = true ∧
      motorWatched on.mdr.state = false ∧ motorWatched (motorIn .coast).mdr.state = false := by decide

/-! ### The bands', the blockage's and the dirt windows' -/

/-- RUN with the Blockage Monitor in a state. -/
def blockageAt (b : BlockageState) (retries : Nat) : State :=
  running.setBlm { on.blm with
    state := b, retries := retries, blockTimer := if b = .suspect ∨ b = .retrying then some 300 else none
    retryTimer := if b = .blocked then some 3000 else none
    clearTimer := if b = .retrying then some 1000 else none
    noRefTimer := if b = .retrying then some 1000 else none
    normalTimer := if b = .normal then some 10000 else none }

theorem witness_BandAndBlockageTimers :
    (on.sbt.clearTimer = none ∧ clearing.slc.power ≠ .ship ∧ clearing.sbt.clearTimer.isSome = true) ∧
      (let s := blockageAt .suspect 1
       s.slc.power = .on ∧ s.mdr.state = .run ∧ DemandFollows s ∧ s.drs.record.runDemand = true ∧
         s.blm.blockTimer = some 300 ∧ s.blockPar.blockTime = 300 ∧ s.blm.retries + 1 < s.blockPar.maxRetries) ∧
      (let s := (blockageAt .retrying 7).setFmg { on.fmg with blockagePersist := .notify }
       DemandFollows s ∧ s.blm.blockTimer = some 300 ∧ s.fmg.blockagePersist = .notify) ∧
      (let s := blockageAt .retrying 2
       DemandFollows s ∧ s.blm.blockTimer = some 300 ∧ s.blockPar.maxRetries ≤ min 7 (s.blm.retries + 1) ∧
         s.fmg.blockagePersist = .stop) ∧
      (let s := blockageAt .blocked 1
       DemandFollows s ∧ s.blm.state = .blocked ∧ s.blm.retryTimer = some 3000 ∧ s.blockPar.retryTime = 3000) ∧
      (let s := blockageAt .retrying 1
       s.blm.clearTimer = some 1000 ∧ s.blm.noRefTimer = some 1000) ∧
      (let s := blockageAt .normal 1
       DemandFollows s ∧ s.blm.state = .normal ∧ s.blm.normalTimer = some 10000) := by
  unfold DemandFollows; decide

/-- The timers one ms short of their lengths, a block_time and a retry_time at a running timer and above it, and the
bounds of the two. -/
theorem witness_BandAndBlockageTimers_void :
    let early := fun (b : BlockageState) => (blockageAt b 1).setBlm { (blockageAt b 1).blm with
      blockTimer := some 299, retryTimer := some 2999, clearTimer := some 199, noRefTimer := some 999
      normalTimer := some 9999 }
    ((early .suspect).slc.power ≠ .ship ∧ (early .suspect).blm.blockTimer = some 299 ∧
      (early .retrying).blm.clearTimer = some 199 ∧ (early .normal).blm.normalTimer = some 9999) ∧
      (let s := (blockageAt .suspect 1).setFmg { on.fmg with blockagePersist := .notify }
       Accepts s ∧ DemandFollows s ∧ s.mdr.state = .run ∧ s.fmg.blockagePersist = .notify ∧
         (300#32).toNat ≤ 300 ∧ ¬ (301#32).toNat ≤ 300) ∧
      (Accepts (blockageAt .blocked 1) ∧ (blockageAt .blocked 1).blm.retryTimer = some 3000) ∧
      ((50#32).toInt = 50 ∧ (2000#32).toInt = 2000 ∧ (500#32).toInt = 500 ∧ (10000#32).toInt = 10000) := by
  unfold DemandFollows Accepts; decide

theorem witness_DirtWindowEnds :
    (tracking 64000 6 .clean).slc.power = .on ∧
      (tracking 64000 6 .clean).dse.window = some
        { timer := 20, length := 20, acousticOn := true, detect := 60, speedSum := 64000, speedCount := 1 } := by decide

/-- A window whose D is `fallback`, the channels off, at a time of its 20 ms, with a level and its hold count. -/
def fallingBack (fallback timer : Nat) (level : DirtLevel) (hold : Nat) : State :=
  (running.setDse { on.dse with
    optical := .off, level := level, hold := hold
    window := some { timer := timer, length := 20, acousticOn := false, detect := 60, speedSum := 0
                     speedCount := 0 } }).setDirtPar { on.dirtPar with fallback := fallback }

theorem witness_DirtWindowEnds_level :
    (let w : DirtWindow := { timer := 19, length := 20, acousticOn := false, detect := 60, speedSum := 0, speedCount := 0 }
     (fallingBack 0 19 .clean 0).dse.window = some w ∧ w.timer < w.length) ∧
      (let w : DirtWindow := { timer := 20, length := 20, acousticOn := false, detect := 60, speedSum := 0, speedCount := 0 }
       (fallingBack 0 20 .clean 0).dse.window = some w ∧ w.length ≤ w.timer) := by decide

/-- R92: with thresholds 24, 64 and 128, hysteresis 8 and 10 windows held: 127 and 128 from CLEAN rise to MODERATE and
HEAVY at once; from HEAVY 120 holds, 119 counts, and the tenth such window falls to MODERATE; R76: void at 19 ms. -/
theorem test_level_moves :
    let moved := fun (d timer : Nat) (l : DirtLevel) (hold : Nat) =>
      let s := after (.dirtWindowEnd 0 0 []) (fallingBack d timer l hold)
      (s.dse.level, s.dse.hold)
    moved 127 20 .clean 3 = (.moderate, 0) ∧ moved 128 20 .clean 3 = (.heavy, 0) ∧
      moved 120 20 .heavy 9 = (.heavy, 0) ∧ moved 119 20 .heavy 8 = (.heavy, 9) ∧
      moved 119 20 .heavy 9 = (.moderate, 0) ∧ moved 0 20 .heavy 9 = (.moderate, 0) ∧
      moved 119 19 .heavy 9 = (.heavy, 9) := by decide

/-! ### The pack's and the dock's -/

/-- A scan of the intervals OFF and IDLE give. -/
def slowScan : Scan := { watch := false, fast := false, motor := .off, dt := 250, measuring := true }

/-- A scan under way. -/
def scanning : State := on.setPkm { on.pkm with scan := some slowScan }

/-- The last scan's start lies so many ms back, under an interval. -/
def startedBefore (ms : BitVec 32) (interval : ScanInterval) : State :=
  (on.setPkm { on.pkm with lastStart := some 0, interval := interval }).setSlc { on.slc with uptime := ms }

/-- No scan made yet, an interval of 8 ms just past and one of 250 ms one short; a scan in progress; cells at deep_uv
itself. -/
theorem witness_ScanAndGauge :
    (on.slc.power = .on ∧ on.pkm.scan = none ∧ on.pkm.lastStart = none) ∧
      ((startedBefore 8 .fast).pkm.lastStart = some 0 ∧ ScanInterval.fast.ms ≤ ((8#32) - 0).toNat ∧
        (startedBefore 249 .slow).pkm.lastStart = some 0 ∧ ((249#32) - 0).toNat < ScanInterval.slow.ms) ∧ (scanning.pkm.scan = some slowScan ∧ slowScan.measuring = true) ∧
      (slowScan.watch = false ∧ (scanning.pkm.cells.toList.any (·.deep)) = false ∧
        ∀ v ∈ (readingOf (Seven.replicate 2500)).cells.toList, (scanning.packPar.deepUv : Int) ≤ v) ∧
      (on.gge.estimatePending = true ∧ (on.setGge { on.gge with estimatePending := false }).gge.estimatePending = false) := by
  decide

/-- The protections' clauses: one cell below cell_uv at its fourth scan, and again in CUTOFF; all at uv_release; a pack at
the cut while the motor runs; a cell above cell_ov at its fourth scan in CC; one below deep_uv at its fourth, with the
contacts down and up; and the three of a WATCH scan. -/
theorem witness_ScanAndGauge_protections :
    let counted := fun (s : State) => s.setPkm { s.pkm with
      scan := some slowScan
      cells := Seven.replicate { CellRecord.reset with mv := some 3700, uvCount := 3, ovCount := 3, deepCount := 3 } }
    let low : ScanReading := readingOf ⟨2899, 3100, 3100, 3100, 3100, 3100, 3100⟩
    let high : ScanReading := readingOf ⟨4251, 4200, 4200, 4200, 4200, 4200, 4200⟩
    let deep : ScanReading := readingOf ⟨2499, 3100, 3100, 3100, 3100, 3100, 3100⟩
    let released : ScanReading := readingOf (Seven.replicate 3100)
    let cutoff := fun (s : State) => s.setPkm { s.pkm with state := .cutoff }
    let watching := fun (s : State) => s.setPkm { s.pkm with scan := some { slowScan with watch := true } }
    ((scannedCells low (counted on)).toList.any (·.uv) = true ∧ (counted on).pkm.state ≠ .cutoff ∧
      (counted on).packPar.cellUv ≤ (counted on).packPar.uvRelease ∧ (counted on).chc.state ≠ .qualify ∧
      (counted on).pkm.cells.toList.any (·.deep) = false ∧ ∀ v ∈ low.cells.toList, ((counted on).packPar.deepUv : Int) ≤ v) ∧
      (∃ v ∈ low.cells.toList, clampNat 0 5000 v < (cutoff (counted on)).packPar.uvRelease) ∧
      ((scannedCells released (cutoff (counted on))).toList.any (·.uv) = false ∧
        ∀ v ∈ released.cells.toList, (cutoff (counted on)).packPar.uvRelease ≤ clampNat 0 5000 v) ∧
      (max (clampInt (-40) 125 65) (clampInt (-40) 125 25) = ((counted running).packPar.cut : Int) ∧
        motorWatched (counted running).mdr.state = true) ∧
      (isCharging (counted (chargingIn .cc)).chc.state = true ∧
        ((counted (chargingIn .cc)).pkm.cells.zipWith (fun b a => !b.ov && a.ov)
          (scannedCells high (counted (chargingIn .cc)))).toList.any id = true) ∧
      ((scannedCells deep (counted on)).toList.any (·.deep) = true ∧ (counted on).dlk.state = .absent ∧
        (counted on).pkm.deepPending = false ∧ (counted on).dlk.contact = false ∧
        ((counted on).setDlk { on.dlk with contact := true }).dlk.contact = true) ∧
      ((scannedCells released (watching (counted asleep))).toList.any (·.uv) = false ∧
        (watching (counted asleep)).slc.power ≠ .ship ∧ (watching (counted asleep)).pkm.state ≠ .cutoff ∧
        isCharging (watching (counted asleep)).chc.state = false ∧
        (scannedCells low (watching (counted asleep))).toList.any (·.uv) = true ∧
        (scannedCells low (watching (counted asleep))).toList.any (·.deep) = false) := by decide

/-- T_INV so many degrees, the rest calm. -/
def inverterAt (t : Int) : ScanReading := { readingOf (Seven.replicate 3700) with tInv := t }

/-- PRECHECK held for T_INV, at a rotor of an interval. -/
def heldPrecheck (interval : Option Nat) (crossings : Nat) : State :=
  ((demandedIn .precheck).setMdr { (demandedIn .precheck).mdr with
    precheckHeld := true, lastInterval := interval, crossings := crossings }).setPkm
      { on.pkm with scan := some slowScan }

/-- The inverter at the cut in RUN; PRECHECK held, below it, and not held. -/
theorem witness_ScanAndGauge_inverter :
    ((running.motorPar.invCut : Int) ≤ clampInt (-40) 125 110 ∧ motorWatched running.mdr.state = true ∧
      max (clampInt (-40) 125 25) (clampInt (-40) 125 25) < (running.packPar.cut : Int)) ∧
      (let s := heldPrecheck none 0
       clampInt (-40) 125 109 < s.motorPar.invCut ∧ s.mdr.state = .precheck ∧ s.mdr.precheckHeld = true ∧
         DemandFollows s ∧ s.drs.record.runDemand = true ∧ s.pkm.scan = some slowScan ∧
         (scannedCells (inverterAt 109) s).toList.any (·.uv) = false) ∧
      (let s := (heldPrecheck none 0).setMdr { (heldPrecheck none 0).mdr with precheckHeld := false }
       s.mdr.precheckHeld = false ∧ DemandFollows s) := by
  unfold DemandFollows; decide

/-- R42, R43: 109 °C leaves 1,750 mA in RUN, 110 °C trips with INV_HOT; R29: a PRECHECK held is decided by the rotor. -/
theorem test_inverter_scan :
    let s := running.setPkm { on.pkm with scan := some slowScan }
    let scanned := fun (t : Int) (s : State) => after (.scanEnd (inverterAt t)) s
    ((scanned 109 s).mdr.state, (scanned 109 s).mdr.derate) = (.run, 1750) ∧
      ((scanned 110 s).mdr.state, (scanned 110 s).fmg.trip.map (·.first)) = (.tripped, some .invHot) ∧
      ((scanned 40 (heldPrecheck none 0)).mdr.state, (scanned 40 (heldPrecheck (some 3000) 2)).mdr.state,
        (scanned 40 (heldPrecheck (some 25000) 2)).mdr.state) = (.align, .catching, .coast) := by decide

/-- OC_HW's trip stands from this ms, and the pack is at the cut. -/
theorem witness_ScanAndGauge_later :
    let s := (trippedAt 40 40).setFmg { on.fmg with trip := some (trippedBy .ocHw 0) }
    s.fmg.trip = some (trippedBy .ocHw 0) ∧ (trippedBy .ocHw 0).first = .ocHw ∧
      (trippedBy .ocHw 0).uptime = s.slc.uptime ∧ motorWatched (trippedBy .ocHw 0).motor = true ∧
      s.mdr.state = .tripped ∧ (s.packPar.cut : Int) ≤ max 65 25 := by decide

/-- R99: a start queued behind a stop that has made the interval SLOW is void. -/
theorem test_scan_start_void :
    let s := startedBefore 8 .fast
    let coasting := s.setMdr { s.mdr with state := .coast, stateTimer := s.motorPar.coastTimeout }
    (after .scanStart coasting).pkm.scan.isSome = true ∧
      (after .scanStart (after .coastTimeout coasting)).pkm.scan = none := by decide

/-- R99: a start of the motor makes the interval FAST, and a scan so due begins before the ms passes. -/
theorem test_scan_at_once :
    let s := startedBefore 100 .slow
    (match step (after (.runStart 1) s) with
      | .next t => t.pkm.scan.isSome && decide (t.pkm.lastStart = some 100)
      | _ => false) = true := by decide

/-- DemandFollows of the WATCH scan's quiet clause. -/
theorem witness_ScanAndGauge_watch : DemandFollows asleep := by unfold DemandFollows; decide

/-- Charging in a state while a scan is under way. -/
def scannedIn (c : ChargeState) : State := (chargingIn c).setPkm { on.pkm with scan := some slowScan }

/-- What a scan's end meets in each state: the readings stand at the voltages and currents where the clauses meet. -/
theorem witness_ChargeTimersExpire_scan :
    let p := on.chargePar
    let drawing := fun (i : Int) (r : ScanReading) => { r with current := - i }
    let lowest := fun (r : ScanReading) => (r.cells.toList.map (clampNat 0 5000)).min?.getD 0
    let spread := fun (r : ScanReading) => (r.cells.toList.map (clampNat 0 5000)).max?.getD 0 - lowest r
    ((scannedIn .qualify).slc.power = .on ∧ (scannedIn .qualify).pkm.scan = some slowScan ∧ slowScan.watch = false ∧
      motorParked (scannedIn .qualify).mdr.state = true ∧
      ((scannedIn .qualify).setMdr { on.mdr with state := .coast }).mdr.state = .coast) ∧
      (p.prechargeMv + 100 ≤ lowest (readingOf (Seven.replicate 3100)) ∧
        lowest (readingOf (Seven.replicate 3099)) < p.prechargeMv + 100) ∧
      allowanceAt p 25 25 ≠ 0 ∧ allowanceAt p 25 46 = 0 ∧
      ((∃ v ∈ ((readingOf (Seven.replicate 4200)).cells.toList.map (clampNat 0 5000)), p.cellCv ≤ v) ∧
        ∀ v ∈ ((readingOf (Seven.replicate 4199)).cells.toList.map (clampNat 0 5000)), v < p.cellCv) ∧
      ((p.termCurrent : Int) ≤ - (drawing 150 (readingOf (Seven.replicate 4199))).current ∧
        - (drawing 149 (readingOf (Seven.replicate 4199))).current < (p.termCurrent : Int)) ∧
      (spread (readingOf ⟨4184, 4200, 4200, 4200, 4200, 4200, 4200⟩) = 16 ∧
        spread (readingOf ⟨4185, 4200, 4200, 4200, 4200, 4200, 4200⟩) = 15 ∧
        spread (readingOf ⟨4192, 4200, 4200, 4200, 4200, 4200, 4200⟩) = 8 ∧
        spread (readingOf ⟨4193, 4200, 4200, 4200, 4200, 4200, 4200⟩) = 7 ∧ p.balanceMv = 15) ∧
      ((scannedIn .cv).setChc { (scannedIn .cv).chc with taper := some 60000 }).chc.taper = some 60000 ∧
      ((4099 : Nat) < p.rechargeMv ∧ p.rechargeMv ≤ 4100 ∧ (4200 : Nat) ≤ on.packPar.cellOv) ∧
      ((scannedIn .cc).chc.iSet : Int) + 500 < - (drawing 501 (readingOf (Seven.replicate 4000))).current ∧
      (scannedIn .cc).chc.stageCount < 2 := by decide

/-- Charging in a state with the three timers at their timeouts. -/
def timedOut (c : ChargeState) : State :=
  (chargingIn c).setChc { (chargingIn c).chc with precharge := 1800000, safety := 18000000, balance := 3600000 }

/-- DONE in ACTIVE, released, and a dock that is not NEGOTIATING. -/
theorem witness_ChargeTimersExpire_dock :
    let s := (scannedIn .done).setDlk { (scannedIn .done).dlk with released := true, grant := some 0 }
    s.dlk.state = .active ∧ s.dlk.released = true ∧ s.dlk.state ≠ .negotiating := by decide

theorem witness_ChargeTimersExpire :
    (timedOut .precharge).slc.power = .on ∧ (timedOut .precharge).chc.state = .precharge ∧
      on.chargePar.prechargeTimeout * 60000 = (timedOut .precharge).chc.precharge ∧
      isCharging (timedOut .balance).chc.state = true ∧
      on.chargePar.chargeTimeout * 60000 = (timedOut .balance).chc.safety ∧ (timedOut .balance).chc.state = .balance ∧
      on.chargePar.balanceTimeout * 60000 = (timedOut .balance).chc.balance ∧
      isCharging (chargingIn .suspend).chc.state = false ∧
      (chargingIn .precharge).chc.precharge < on.chargePar.prechargeTimeout * 60000 := by decide

/-- R137: a write of 301 minutes taken ahead of the expiry at 300 makes it void. -/
theorem test_charge_timeout_written :
    let s := after (.setParam 1 0x4A#8 301#32) (timedOut .cc)
    (after .chargeTimeout (timedOut .cc)).chc.faultCause = some .chargeTimeout ∧
      (after .chargeTimeout s).chc = s.chc := by decide

theorem witness_DockContacts :
    (on.slc.power = .on ∧ on.dlk.state = .absent ∧ on.chc.state = .idle ∧ on.chc.pause = false ∧
      on.chc.enabled = true ∧ (on.setChc { on.chc with enabled := false }).chc.state = .idle ∧
      on.drs.record.runDemand = false) ∧
      (running.dlk.state = .absent ∧ running.drs.record.runDemand = true ∧ runningMotor running.mdr.state = true ∧
        (demandedIn .coast).drs.record.runDemand = true ∧ (demandedIn .coast).mdr.state = .coast) ∧
      (dockIn .lost).slc.power = .on ∧ (dockIn .lost).dlk.state ≠ .absent := by
  decide

/-- R128, R143: an arrival with the motor running takes it to COAST and an enabled CHC to QUALIFY, a disabled one stays. -/
theorem test_arrival :
    let arrived := fun (enabled : Bool) =>
      after .dockContactRise (running.setChc { on.chc with enabled := enabled, safety := 7 })
    ((arrived true).mdr.state, (arrived true).chc.state, (arrived true).chc.safety) = (.coast, .qualify, 0) ∧
      ((arrived false).mdr.state, (arrived false).chc.state) = (.coast, .idle) := by decide

/-- An exchange whose frame has been sent, at an attempt. -/
def asking (m : DockMsg) (attempt : Nat) : Exchange :=
  { msg := m, seq := 0x3#4, attempt := attempt, sending := false, wait := 50, expired := false }

/-- A dock state with an exchange in progress. -/
def dockAsking (d : DockState) (m : DockMsg) (attempt : Nat) : State :=
  (dockIn d).setDlk { (dockIn d).dlk with exchange := some (asking m attempt) }

/-- ACTIVE under a grant, the keep timer running. -/
def activeAt (grant : Nat) (released : Bool) (e : Option Exchange) : State :=
  (dockIn .active).setDlk { (dockIn .active).dlk with
    grant := some grant, keep := some 1000, released := released, exchange := e }

theorem witness_DockSpeaks :
    (let s := dockIn .settling
     s.slc.power = .on ∧ s.chc.state ≠ .qualify ∧ s.chc.state ≠ .suspend ∧ isCharging s.chc.state = false ∧
       s.dlk.state = .settling) ∧ (dockIn .lost).dlk.state = .lost ∧
      (let s := activeAt 1 false (some (asking .hello 1))
       s.slc.power = .on ∧ s.dlk.state = .active ∧ s.dlk.keep.isSome = true ∧ s.dlk.dueRelease = none ∧
         s.dlk.dueRequest = none ∧ s.dlk.exchange = some (asking .hello 1) ∧ s.dlk.grant.getD 0 ≠ 0) ∧
      (let s := activeAt 0 false (some (asking .hello 1))
       s.dlk.exchange = some (asking .hello 1) ∧ s.dlk.released = false ∧ s.dlk.grant = some 0) ∧
      (let s := activeAt 0 true none
       s.dlk.exchange = none ∧ s.dlk.released = true) ∧
      (let s := activeAt 0 false none
       s.dlk.exchange = none ∧ s.dlk.released = false ∧ s.dlk.grant = some 0) := by decide

theorem witness_DockSpeaks_qualify :
    let s := (dockIn .settling).setChc { on.chc with state := .qualify }
    let lost := (dockIn .lost).setChc { on.chc with state := .suspend, suspend := ⟨false, true, false⟩ }
    (s.slc.power = .on ∧ (s.chc.state = .qualify → s.chc.pause = false) ∧
      isCharging s.chc.state = false ∧ s.dlk.state = .settling) ∧
      (lost.slc.power = .on ∧ lost.chc.state = .suspend ∧ isCharging lost.chc.state = false ∧
        lost.dlk.state = .lost) := by decide

/-- R151: the keep timer with an exchange in progress and a grant of 0 holds a REQUEST for the KEEP; R156: a LOST dock is
greeted anew with the charge suspended for DOCK. -/
theorem test_keep_held_and_retry :
    let held := (after .keepTimerExpiry (activeAt 0 false (some (asking .hello 1)))).dlk.dueRequest
    let t := after .dockRetryExpiry
      ((dockIn .lost).setChc { on.chc with state := .suspend, suspend := ⟨false, true, false⟩ })
    held.map (·.forKeep) = some true ∧
      (t.dlk.state, t.chc.state, t.chc.suspend) = (.greeting, .suspend, ⟨false, true, false⟩) := by decide

/-- R134, R152, R155: the end of BALANCE releases the dock, and the recharge of DONE drops a RELEASE held and asks for 20
units. -/
theorem test_release_and_recharge :
    let t := (after .balanceTimeout (timedOut .balance)).dlk
    let s := (scannedIn .done).setDlk { (scannedIn .done).dlk with
      released := true, grant := some 0, dueRelease := some .done, exchange := some (asking (.keep 0 0 .done) 1) }
    let u := (after (.scanEnd (readingOf (Seven.replicate 4000))) s).dlk
    (t.released, t.grant, t.exchange.map (·.msg)) = (true, some 0, some (.release .done)) ∧
      (u.released, u.dueRelease, u.dueRequest) = (false, none, some ⟨20, 2000, false⟩) := by decide

/-- R155: DISABLE in ACTIVE releases the dock and ends in IDLE; R148: a held DONE gives way to it. -/
theorem test_disable_releases :
    let s := (chargingIn .cc).setDlk { (chargingIn .cc).dlk with
      exchange := some (asking (.keep 0 0 .cc) 1), dueRelease := some .done }
    let t := after (.chargeDisable 1) s
    (t.chc.state, t.dlk.released, t.dlk.grant, t.dlk.dueRelease) = (.idle, true, some 0, some .disabled) := by decide

/-- A scan under way in NEGOTIATING before its first message, and in ACTIVE after a REQUEST for a wanted current. -/
def linkedScan (d : DockState) (u w : Nat) : State :=
  let s := (dockIn d).setDlk { (dockIn d).dlk with
    offer := some ⟨40, 2, true, true⟩, grant := some 20, keep := some 5, lastRequest := some (u, w) }
  (s.setPkm { on.pkm with scan := some slowScan }).setChc { on.chc with state := .cc }

/-- The motor parked and coasting; W 2,000 against 1,900 and 1,901, and against 20 units. -/
theorem witness_DockSpeaks_scan :
    (let s := linkedScan .negotiating 19 1900
     s.slc.power = .on ∧ s.pkm.scan = some slowScan ∧ slowScan.watch = false ∧ s.dlk.state = .negotiating ∧
       s.dlk.firstSent = false ∧ motorParked s.mdr.state = true ∧
       (s.setMdr { on.mdr with state := .coast }).mdr.state = .coast) ∧
      (let s := linkedScan .active 19 1900
       s.dlk.state = .active ∧ s.dlk.released = false ∧ s.dlk.dueRelease = none ∧
         s.dlk.lastRequest = some (19, 1900) ∧ s.chc.state = .cc ∧
         min s.chargePar.current (allowanceAt s.chargePar 25 25) = 2000 ∧ unitsFor s.dlk.offer 2000 = 20) ∧
      100 ≤ ((2000 : Int) - (1900 : Nat)).natAbs ∧ ((2000 : Int) - (1901 : Nat)).natAbs < 100 := by decide

/-- R150, R152: NEGOTIATING's first message asks for 20 units and 2,000 mA; in ACTIVE a move of 100 mA asks, of 99 does
not; a coasting motor keeps NEGOTIATING silent. -/
theorem test_dock_scan :
    let scanned := fun (s : State) => (after (.scanEnd (readingOf (Seven.replicate 3700))) s).dlk
    let asked := fun (s : State) => ((scanned s).exchange.map (·.msg), (scanned s).lastRequest)
    asked (linkedScan .negotiating 1 1) = (some (.request 20 2000), some (20, 2000)) ∧
      asked (linkedScan .active 19 1900) = (some (.request 20 2000), some (20, 2000)) ∧
      asked (linkedScan .active 19 1901) = (none, some (19, 1901)) ∧
      (scanned ((linkedScan .negotiating 1 1).setMdr { on.mdr with state := .coast })).exchange = none := by decide

/-- The third attempt unanswered in NEGOTIATING, and in ACTIVE at one and at two misses. -/
theorem witness_DockAttempts_lost :
    let missed := fun (n : Nat) =>
      let s := activeAt 20 false (some (asking (.keep 0 0 .cc) 3))
      s.setDlk { s.dlk with misses := n }
    ((missed 1).slc.power = .on ∧ (missed 1).dlk.exchange = some (asking (.keep 0 0 .cc) 3) ∧
      (asking (.keep 0 0 .cc) 3).sending = false ∧ (missed 1).dlk.receiving = false ∧
      3 ≤ (asking (.keep 0 0 .cc) 3).attempt ∧ (missed 1).dlk.state = .active ∧ (missed 1).dlk.misses < 2 ∧
      (missed 1).dlk.dueRelease = none ∧ (missed 1).dlk.dueRequest = none ∧ (missed 1).dlk.dueKeep = false) ∧
      2 ≤ (missed 2).dlk.misses ∧ (dockAsking .negotiating (.request 20 2000) 3).dlk.state = .negotiating ∧
      isCharging ((missed 2).setChc { on.chc with state := .cc }).chc.state = true := by decide

theorem witness_DockAttempts :
    (let s := (dockIn .greeting).setDlk { (dockIn .greeting).dlk with
       exchange := some { asking .hello 1 with sending := true } }
     s.slc.power = .on ∧ s.dlk.exchange = some { asking .hello 1 with sending := true }) ∧
      (let s := dockAsking .greeting .hello 2
       s.dlk.exchange = some (asking .hello 2) ∧ (asking .hello 2).sending = false ∧ s.dlk.state ≠ .absent ∧
         s.dlk.receiving = false ∧ (asking .hello 2).attempt < 3) ∧
      (let s := (dockAsking .greeting .hello 2).setDlk { (dockAsking .greeting .hello 2).dlk with receiving := true }
       (asking .hello 2).expired = false ∧ s.dlk.receiving = true) ∧
      (let s := dockAsking .greeting .hello 3
       s.dlk.exchange = some (asking .hello 3) ∧ 3 ≤ (asking .hello 3).attempt ∧ s.dlk.state = .greeting) := by decide

/-- The frame of a dock's message: type, sequence 3 and payload, closed by the CRC. -/
def dockBytes (type : Byte) (payload : List Byte) : List Byte :=
  let body := (0x30#8 ||| type) :: byteOf payload.length :: payload
  body ++ [crc8 body]

theorem witness_DockAnswers :
    (let s := dockAsking .greeting .hello 1
     s.slc.power = .on ∧ s.dlk.exchange = some (asking .hello 1) ∧ s.dlk.state = .greeting ∧
       s.dlk.dueRelease = none ∧ s.dlk.dueRequest = none ∧ s.dlk.dueKeep = false) ∧
      (readDockFrame (dockBytes 2 [40, 2, 3]) = some (0x3#4, .offer ⟨40, 2, true, true⟩) ∧
        expects .hello (.offer ⟨40, 2, true, true⟩) = true) ∧
      (let s := (dockAsking .negotiating (.request 20 2000) 1).setChc
         { on.chc with state := .suspend, suspend := ⟨true, true, false⟩ }
       s.dlk.state = .negotiating ∧ s.dlk.released = false ∧ s.chc.state = .suspend ∧ s.chc.suspend.temp = true) ∧
      (readDockFrame (dockBytes 4 [20]) = some (0x3#4, .grant 20) ∧ expects (.request 20 2000) (.grant 20) = true) ∧
      (let s := dockAsking .active (.keep 0 0 .idle) 1
       s.dlk.state = .active) ∧
      (readDockFrame (dockBytes 6 [0, 0, 0]) = some (0x3#4, .keepAck .ok false) ∧
        expects (.keep 0 0 .idle) (.keepAck .ok false) = true) ∧ readDockFrame [0x32#8, 0x03#8] = none := by
  decide +kernel

/-- A KEEP in ACTIVE while charging, under a grant of 20 of the dock's 40. -/
def keeping : State :=
  let s := chargingIn .cc
  s.setDlk { s.dlk with exchange := some (asking (.keep 0 0 .cc) 1) }

/-- STOP, DERATE to one below the grant, and EVACUATED from a dock that can. -/
theorem witness_DockAnswers_status :
    let expected := fun (x : AckStatus) (v : Bool) => expects (.keep 0 0 .cc) (.keepAck x v) = true
    (keeping.slc.power = .on ∧ keeping.dlk.exchange = some (asking (.keep 0 0 .cc) 1) ∧ keeping.dlk.state = .active ∧
      keeping.dlk.dueRelease = none ∧ keeping.dlk.dueRequest = none ∧ keeping.dlk.dueKeep = false ∧
      keeping.dlk.grant.getD 0 ≠ 0 ∧ isCharging keeping.chc.state = true) ∧
      (readDockFrame (dockBytes 6 [2, 0, 0]) = some (0x3#4, .keepAck .stop false) ∧ expected .stop false) ∧
      (readDockFrame (dockBytes 6 [1, 19, 0]) = some (0x3#4, .keepAck (.derate 19) false) ∧
        expected (.derate 19) false ∧ keeping.dlk.offer = some ⟨40, 2, true, true⟩ ∧ 19 < keeping.dlk.grant.getD 0) ∧
      (readDockFrame (dockBytes 6 [0, 0, 1]) = some (0x3#4, .keepAck .ok true) ∧ expected .ok true) := by
  decide +kernel

/-- A REQUEST asked in a dock state under a grant, the charge in a state with its suspension and setpoint, the allowance
2,000 mA. -/
def requesting (d : DockState) (grant : Nat) (c : ChargeState) (suspend : SuspendSet) (iSet : Nat) : State :=
  ((dockAsking d (.request 20 2000) 1).setDlk { (dockAsking d (.request 20 2000) 1).dlk with
    offer := some ⟨40, 2, true, true⟩, grant := some grant }).setChc
      { on.chc with state := c, suspend := suspend, iSet := iSet } |>.setPkm { on.pkm with chargeAllowance := 2000 }

/-- A GRANT in NEGOTIATING with CHC in QUALIFY; in ACTIVE while released, while charging, and in a suspension for DOCK
alone. -/
theorem witness_DockAnswers_grant :
    (readDockFrame (dockBytes 4 [12]) = some (0x3#4, .grant 12) ∧ expects (.request 20 2000) (.grant 12) = true) ∧
      (let s := requesting .negotiating 0 .qualify noSuspend 0
       s.slc.power = .on ∧ s.dlk.exchange = some (asking (.request 20 2000) 1) ∧ s.dlk.state = .negotiating ∧
         s.dlk.released = false ∧ s.chc.state = .qualify ∧ s.dlk.dueRelease = none ∧ s.dlk.dueRequest = none ∧
         s.dlk.dueKeep = false) ∧
      (let s := requesting .active 20 .cc noSuspend 2000
       s.dlk.state = .active ∧ s.dlk.released = false ∧ isCharging s.chc.state = true ∧
         0 < takenGrant s.dlk.offer 12 ∧ s.chc.iSet ≤ targetCurrent s ∧
         (s.setDlk { s.dlk with released := true }).dlk.released = true) ∧
      (let s := requesting .active 0 .suspend ⟨false, true, false⟩ 0
       s.dlk.released = false ∧ s.chc.state = .suspend ∧ s.chc.suspend.temp = false ∧ s.chc.suspend.host = false ∧
         s.dlk.grant.getD 0 = 0) := by decide +kernel

/-- R129, R150, R152: a GRANT of 12 passes QUALIFY to CC, in ACTIVE caps a charge at 1,200, and wakes a suspension for
DOCK. -/
theorem test_grant_taken :
    let got := fun (s : State) =>
      let t := after (.dockFrameReceived (dockBytes 4 [12])) s
      (t.dlk.state, t.dlk.grant, t.chc.state, t.chc.iSet)
    got (requesting .negotiating 0 .qualify noSuspend 0) = (.active, some 12, .cc, 0) ∧
      got (requesting .active 20 .cc noSuspend 2000) = (.active, some 12, .cc, 1200) ∧
      got (requesting .active 0 .suspend ⟨false, true, false⟩ 0) = (.active, some 12, .cc, 0) := by decide +kernel

/-- A RELEASE asked in NEGOTIATING by an idle CHC; a GRANT late in another sequence; a DERATE not declared; a REQUEST
held. -/
theorem witness_DockAnswers_released :
    let asked := fun (m : DockMsg) =>
      let s := dockAsking .negotiating m 1
      s.setDlk { s.dlk with released := true, firstSent := true, offer := some ⟨40, 2, true, false⟩ }
    ((asked (.request 20 2000)).slc.power = .on ∧ (asked (.request 20 2000)).dlk.state = .negotiating ∧
      (asked (.request 20 2000)).dlk.released = true ∧ (asked (.request 20 2000)).chc.state = .idle ∧
      readDockFrame (dockBytes 4 [12]) = some (0x3#4, .grant 12) ∧ expects (.request 20 2000) (.grant 12) = true) ∧
      (readDockFrame (dockBytes 6 [0, 0, 0]) = some (0x3#4, .keepAck .ok false) ∧
        expects (.release .done) (.keepAck .ok false) = true ∧ expects (.request 20 2000) (.keepAck .ok false) = false) ∧
      (readDockFrame (dockBytes 6 [1, 12, 0]) = some (0x3#4, .keepAck (.derate 12) false) ∧
        expects (.keep 0 0 .cc) (.keepAck (.derate 12) false) = true ∧
        (⟨40, 2, true, false⟩ : Offer).derateCapable = false) ∧
      (let s := dockAsking .active (.keep 0 0 .idle) 1
       ({ asking (.keep 0 0 .idle) 1 with seq := 0x4#4 } : Exchange).seq ≠ 0x3#4 ∧
         (asking (.keep 0 0 .idle) 1).expired = false ∧ (asking (.keep 0 0 .idle) 1).attempt < 3 ∧
         s.dlk.exchange = some (asking (.keep 0 0 .idle) 1)) := by decide +kernel

/-- R148, R150, R153: a GRANT after a RELEASE has been held enters ACTIVE with 0 and sends it; a DERATE not declared takes
the grant to 0; at the end of an exchange a REQUEST held is sent; another sequence changes nothing. -/
theorem test_dock_corners :
    let s := (dockAsking .negotiating (.request 20 2000) 1).setDlk {
      (dockAsking .negotiating (.request 20 2000) 1).dlk with
        released := true, firstSent := true, offer := some ⟨40, 2, true, true⟩, dueRelease := some .disabled }
    let granted := (after (.dockFrameReceived (dockBytes 4 [12])) s).dlk
    let undeclared := keeping.setDlk { keeping.dlk with offer := some ⟨40, 2, true, false⟩ }
    let derated := (after (.dockFrameReceived (dockBytes 6 [1, 12, 0])) undeclared).dlk
    let held := keeping.setDlk { keeping.dlk with dueRequest := some ⟨12, 1200, false⟩ }
    let ended := (after (.dockFrameReceived (dockBytes 6 [0, 0, 0])) held).dlk
    let late := held.setDlk { held.dlk with exchange := some { asking (.keep 0 0 .cc) 1 with seq := 0x4#4 } }
    (granted.state, granted.grant, granted.exchange.map (·.msg)) = (.active, some 0, some (.release .disabled)) ∧
      (derated.grant, derated.offer.map (·.max)) = (some 0, some 40) ∧
      (ended.exchange.map (·.msg), ended.lastRequest) = (some (.request 12 1200), some (12, 1200)) ∧
      (after (.dockFrameReceived (dockBytes 6 [0, 0, 0])) late).dlk = late.dlk := by decide +kernel

/-- The idle timer at its bound and one below; in SLEEP a press, an absent dock and a hunting host line. -/
theorem witness_PowerEvents :
    let idled := fun (n : Nat) => on.setSlc { on.slc with idle := n }
    on.slc.power ≠ .ship ∧ asleep.slc.power ≠ .ship ∧ shipped.slc.power = .ship ∧
      (on.slc.power = .on ∧ on.mdr.state = .off ∧ on.dlk.state = .absent ∧ on.idleSleepS ≠ 0) ∧
      on.idleSleepS * 1000 ≤ (idled 300000).slc.idle ∧ (idled 299999).slc.idle < on.idleSleepS * 1000 ∧
      (let s := triggerAt (some .released) .pressed false asleep
       s.slc.power = .sleep ∧ s.drs.triggerClaim = false ∧ s.drs.hostClaim = false ∧ s.drs.record.runDemand = false ∧
         s.trg.mode = .hold ∧ s.mdr.state = .off ∧ s.dlk.state = .absent ∧ s.chc.state = .idle ∧
         s.pkm.state ≠ .cutoff ∧ s.mpt.rx = .hunt ∧ s.mpt.tx = none ∧ s.mpt.replies = [] ∧
         s.mpt.notices = [waiting (.restarted .powerOn)]) := by decide

/-- R184: a frame gap taken first returns the idle timer to 0, and the expiry behind it is void. -/
theorem test_idle_expiry_void :
    (after .idleTimerExpiry (after .hostFrameGap ((on.setSlc { on.slc with idle := 300000 }).setMpt
      { on.mpt with rx := .header, rxGap := 6 }))).slc.power = .on := by decide

/-- R185: the press that wakes the part finds the transmitter resumed: the oldest notice is being sent, not replaced. -/
theorem test_wake_resumes :
    (after .triggerDebounce (triggerAt (some .released) .pressed false asleep)).mpt.tx =
      some (.notice (waiting (.restarted .powerOn))) := by decide

/-! ### What meets the invariants -/

/-- Two notices wait, of two kinds. -/
theorem witness_NoticesKept :
    let s := raise (.tableCleared .off) on
    s.mpt.notices.length = 2 ∧ NoticesDistinct s.mpt ∧ NoticesEnabled s.mpt := by
  unfold NoticesDistinct NoticesEnabled; decide

/-- Two replies wait, the older being sent. -/
theorem witness_RepliesKept :
    let s := fullReplies.setMpt { fullReplies.mpt with tx := some (.reply (replyTo 0x02#8 3 .ok .empty)) }
    s.mpt.replies.length = 2 ∧ RepliesBounded s.mpt ∧ ReplyIsOldest s.mpt :=
  ⟨by decide, ⟨by decide, by decide⟩, by rintro r ⟨⟩; rfl⟩

theorem witness_ProfileKept :
    (ProfileSound editing.drs ∧ RecordSound editing.drs.record) ∧ RecordSound running.drs.record := by
  refine ⟨⟨⟨by decide, ?_, ?_⟩, ?_⟩, ?_⟩
  · unfold ProfileInRange StepInRange; decide
  · rintro e ⟨⟩; unfold ProfileInRange StepInRange; decide
  · unfold RecordSound; decide
  · unfold RecordSound; decide

/-- RUN under a claim, and COAST toward a start. -/
theorem witness_DemandKept :
    (DemandFollows running ∧ MotorFollows running) ∧
      (let s := sawSector0 .coast 3 true
       DemandFollows s ∧ MotorFollows s) := by
  unfold DemandFollows MotorFollows; decide

theorem witness_DriveKept :
    let s := (regulating 80000 2048000 2048 2000 false false).setMdr { running.mdr with gates := some 3 }
    RegulatorSound s ∧ GatesSound s.mdr := by
  unfold RegulatorSound GatesSound; decide

/-- The motor TRIPPED with its record, and running without one. -/
theorem witness_TripKept :
    let s := (motorIn .tripped).setFmg { on.fmg with
      trip := some { first := .ocHw, detail := .motor .run, uptime := 9, motor := .run, speed := 80000, current := 0
                     vmin := none, tInv := none, packT := none, later := KindMap.replicate false } }
    (TripFollows s ∧ s.fmg.trip.isSome = true) ∧ TripFollows running := by
  unfold TripFollows; decide

theorem witness_RunSideKept :
    let s := (tracking 64000 6 .light).setBlm (blockageAt .blocked 2).blm
    (BlockageSound s ∧ DirtSound s) ∧ BlockageSound on ∧ DirtSound on := by
  unfold BlockageSound DirtSound; decide

theorem witness_GaugeKept : GaugeSound { on.gge with q := fullCharge 6000, f := 6000, residue := 3599999 } := by
  unfold GaugeSound; decide

/-- CC at the whole of its target. -/
theorem witness_SetpointKept :
    let s := ((chargingIn .cc).setChc { (chargingIn .cc).chc with iSet := 2000 }).setPkm
      { on.pkm with chargeAllowance := 2000 }
    SetpointSound s ∧ s.chc.iSet = targetCurrent s := by
  unfold SetpointSound; decide

theorem witness_ChargeKept :
    (let s := (chargingIn .cc).setPkm { on.pkm with interval := intervalOf .on .off .cc }
     ChargeParked s ∧ SleepQuiet s ∧ IntervalFollows s) ∧
      (let s := asleep.setPkm { on.pkm with interval := .watch }
       ChargeParked s ∧ SleepQuiet s ∧ IntervalFollows s) := by
  unfold ChargeParked SleepQuiet IntervalFollows; decide

theorem witness_BleedKept :
    let set : Seven Bool := ⟨true, false, true, false, true, false, false⟩
    BleedFollows (((chargingIn .cv).setChc { (chargingIn .cv).chc with bleedSet := set }).setPkm
      { on.pkm with bleedSet := set }) := by
  unfold BleedFollows BleedSound; decide

/-- ACTIVE under a grant with a KEEP due, and with a REQUEST due that stands for one; released. -/
theorem witness_DockKept :
    let held := { (activeAt 20 false none).dlk with dueKeep := true }
    (DockSound held ∧ held.dueKeep = true) ∧
      DockSound { (activeAt 20 false none).dlk with dueRequest := some ⟨20, 2000, true⟩ } ∧
      DockSound (activeAt 0 true none).dlk := by
  refine ⟨⟨?_, rfl⟩, ?_, ?_⟩
  · unfold DockSound; decide
  · refine ⟨by decide, by decide, by decide, by decide, by decide, by decide, by decide, by decide, ?_⟩
    rintro q ⟨⟩; decide
  · unfold DockSound; decide

theorem witness_ParametersKept : ParamsInRange on := by
  intro p
  cases p <;> exact ⟨by decide, by decide, by rintro _ ⟨⟩; all_goals decide, by rintro _ ⟨⟩; all_goals decide⟩

/-- The states of the scan's witnesses hold the parameters of a reset. -/
theorem witness_ScanAndGauge_params : ParamsInRange scanning ∧ ParamsInRange (scannedIn .cv) :=
  ⟨witness_ParametersKept, witness_ParametersKept⟩

theorem witness_RangesKept :
    let s := inTrack.setMdr { on.mdr with
      sector := 5, lastNamed := some 5, periods := [960, 960, 960, 960, 960, 960], crossings := 12, gates := some 5 }
    (MotorInRange s.mdr ∧ TableInRange s ∧ OpticalSound s) ∧ CountersInRange (countingTo 8 3).icn := by
  refine ⟨⟨⟨by decide, by rintro n ⟨⟩; decide, by decide, by decide, by decide, by decide, by decide, by decide,
    by rintro n ⟨⟩; decide⟩, ⟨?_, by decide, by decide⟩, by unfold OpticalSound; decide⟩, by unfold CountersInRange; decide⟩
  intro i h
  interval_cases i <;> exact ⟨by decide, by rintro l ⟨⟩, by decide, by decide⟩

/-! ### What the part drives -/

/-- The pair of sector 5 in ALIGN is W sourced and V sunk, at align_duty (R30). -/
theorem test_align_drive :
    bridgePair (on.setMdr { on.mdr with state := .align, gates := some 5 }) = some (.w, .v) ∧
      bridgeDuty (on.setMdr { on.mdr with state := .align, gates := some 5 }) = some 300 := by decide
/-- With the gates off the comparator is still watched in PRECHECK, and not in COAST (R41). -/
theorem test_comparator : comparatorLevel (motorIn .precheck) = some 50 ∧ comparatorLevel (motorIn .coast) = none := by
  decide
set_option maxRecDepth 4000 in
/-- A KEEP of five payload bytes takes 28.0 ms, and its own bursts are read back as what they are (R145). -/
theorem test_keep_time :
    ((lineBursts (dockFrame (.keep 2000 4100 .cc) 3)).map fun b => b.1 + b.2).sum = 28000 ∧
      classifyBurst 2000 = .preamble ∧ classifyBurst 300 = .one ∧ classifyBurst 100 = .zero ∧
      classifyBurst 200 = .other := by decide

end Sys2Proof.Tests
end

namespace Sys2Proof.Proofs

open Sys2Proof.Machine Sys2Proof.Safety

/-! ### The resolver, and what run demand rests on -/

/-- The profile with the open edit, and the record, are sound. -/
def ResolverSound (s : State) : Prop := ProfileSound s.drs ∧ RecordSound s.drs.record

/-- The resolver stands but for evaluations of its record (R22). -/
structure ResolverKept (s t : State) : Prop where
  trigger : t.drs.triggerClaim = s.drs.triggerClaim
  host : t.drs.hostClaim = s.drs.hostClaim
  demand : t.drs.record.runDemand = s.drs.record.runDemand
  profile : t.drs.profile = s.drs.profile
  edit : t.drs.edit = s.drs.edit
  sound : ResolverSound s → RecordSound t.drs.record

/-- Everything run demand and the motor's following of it rest on stands: the resolver but for its record, the motor
state, and whether an inhibit is present (R7, R24). -/
structure Steady (s t : State) : Prop extends ResolverKept s t where
  motor : t.mdr.state = s.mdr.state
  pending : t.mdr.startPending = s.mdr.startPending
  inhibit : (firstInhibit t).isNone = (firstInhibit s).isNone

/-- A part of a step that keeps a sound resolver sound and the motor following run demand; whether run demand still
follows the claims may be left to a recomputation at the step's end. -/
structure MotorKept (s t : State) : Prop where
  sound : ResolverSound s → ResolverSound t
  motor : MotorFollows s → MotorFollows t

/-- What O49 and O50 ask of a step: a sound resolver stays sound, and run demand goes on following the claims and the
motor following run demand. -/
structure Kept (s t : State) : Prop extends MotorKept s t where
  demand : DemandFollows s → MotorFollows s → DemandFollows t

/-- No inhibit is present (R5, R6). -/
theorem firstInhibit_isNone (s : State) : (firstInhibit s).isNone = true ↔
    s.dlk.state = .absent ∧ s.chc.state = .idle ∧ s.pkm.state ≠ .cutoff ∧ s.mdr.state ≠ .tripped ∧
      s.slc.power = .on := by
  unfold firstInhibit
  repeat' split
  all_goals simp_all

/-- The first inhibit is read off the states of four blocks and the power state. -/
theorem firstInhibit_congr {s t : State} (hd : t.dlk.state = s.dlk.state) (hc : t.chc.state = s.chc.state)
    (hp : t.pkm.state = s.pkm.state) (hm : t.mdr.state = s.mdr.state) (hs : t.slc.power = s.slc.power) :
    firstInhibit t = firstInhibit s := by
  simp only [firstInhibit, hd, hc, hp, hm, hs]

/-! ### The record -/

theorem recordSound_idle : RecordSound DemandRecord.idle := by simp [RecordSound, DemandRecord.idle]

theorem activeSettings_inRange {s : State} (h : ProfileInRange s.drs.profile) : StepInRange (activeSettings s) := by
  obtain ⟨eco, standard, max, -⟩ := h
  unfold activeSettings Profile.settings
  split <;> assumption

/-- A record evaluated from a profile in range lies in its ranges (R18 to R20). -/
theorem recordSound_running {s : State} (h : ProfileInRange s.drs.profile) : RecordSound (runningRecord s) := by
  obtain ⟨-, -, -, limit, boost⟩ := activeSettings_inRange h
  have hboost : boostOf s ≤ 40000 := by unfold boostOf; split <;> omega
  have hceiling : ceilingOf s ≤ 35000 := by unfold ceilingOf; omega
  simp only [RecordSound, runningRecord, if_true, clampNat, clampInt]
  omega

theorem evaluateAs_resolverSound (b : Bool) {s : State} (h : ResolverSound s) : ResolverSound (evaluateAs b s) := by
  obtain ⟨profile, -⟩ := h
  refine ⟨profile, ?_⟩
  cases b
  · exact recordSound_idle
  · exact recordSound_running profile.2.1

/-! ### Relations between states -/

theorem ResolverKept.of_drs {s t : State} (h : t.drs = s.drs) : ResolverKept s t where
  trigger := by rw [h]
  host := by rw [h]
  demand := by rw [h]
  profile := by rw [h]
  edit := by rw [h]
  sound := fun k => h ▸ k.2

theorem ResolverKept.resolverSound {s t : State} (h : ResolverKept s t) (k : ResolverSound s) : ResolverSound t := by
  refine ⟨?_, h.sound k⟩
  obtain ⟨⟨failure, range, edit⟩, -⟩ := k
  exact ⟨h.profile ▸ failure, h.profile ▸ range, h.edit ▸ edit⟩

theorem ResolverKept.trans {s t u : State} (h : ResolverKept s t) (k : ResolverKept t u) : ResolverKept s u where
  trigger := k.trigger.trans h.trigger
  host := k.host.trans h.host
  demand := k.demand.trans h.demand
  profile := k.profile.trans h.profile
  edit := k.edit.trans h.edit
  sound := fun x => k.sound (h.resolverSound x)

theorem Steady.trans {s t u : State} (h : Steady s t) (k : Steady t u) : Steady s u where
  toResolverKept := h.toResolverKept.trans k.toResolverKept
  motor := k.motor.trans h.motor
  pending := k.pending.trans h.pending
  inhibit := k.inhibit.trans h.inhibit

/-- A part of a step is steady where it leaves the states that inhibit alone. -/
theorem Steady.of_resolver {s t : State} (h : ResolverKept s t)
    (k : t.mdr.state = s.mdr.state ∧ t.mdr.startPending = s.mdr.startPending ∧ t.dlk.state = s.dlk.state ∧
      t.chc.state = s.chc.state ∧ t.pkm.state = s.pkm.state ∧ t.slc.power = s.slc.power) : Steady s t := by
  obtain ⟨motor, pending, dock, charge, pack, power⟩ := k
  exact ⟨h, motor, pending, by rw [firstInhibit_congr dock charge pack motor power]⟩

/-- A part of a step is steady where it leaves the resolver and the states that inhibit alone. -/
theorem Steady.of_fields {s t : State}
    (h : t.drs = s.drs ∧ t.mdr.state = s.mdr.state ∧ t.mdr.startPending = s.mdr.startPending ∧
      t.dlk.state = s.dlk.state ∧ t.chc.state = s.chc.state ∧ t.pkm.state = s.pkm.state ∧
      t.slc.power = s.slc.power) : Steady s t :=
  .of_resolver (.of_drs h.1) h.2

/-- A part of a step with an inhibit present before and after it is steady where the motor stands. -/
theorem Steady.of_inhibited {s t : State} (h : ResolverKept s t) (hm : t.mdr = s.mdr)
    (hs : ¬ (firstInhibit s).isNone) (ht : ¬ (firstInhibit t).isNone) : Steady s t := by
  refine ⟨h, by rw [hm], by rw [hm], ?_⟩
  simp only [Bool.not_eq_true] at hs ht
  rw [hs, ht]

theorem Steady.refl (s : State) : Steady s s := .of_fields (by simp)

theorem Steady.wantsToRun {s t : State} (h : Steady s t) : wantsToRun t = wantsToRun s := by
  simp only [Machine.wantsToRun, h.trigger, h.host, h.inhibit]

theorem MotorKept.trans {s t u : State} (h : MotorKept s t) (k : MotorKept t u) : MotorKept s u where
  sound := fun x => k.sound (h.sound x)
  motor := fun x => k.motor (h.motor x)

theorem Kept.refl (s : State) : Kept s s := ⟨⟨id, id⟩, fun h _ => h⟩

theorem Kept.trans {s t u : State} (h : Kept s t) (k : Kept t u) : Kept s u where
  toMotorKept := h.toMotorKept.trans k.toMotorKept
  demand := fun x y => k.demand (h.demand x y) (h.motor y)

/-- The motor follows a run demand that stands where it stands itself. -/
theorem ResolverKept.motorKept {s t : State} (h : ResolverKept s t) (hm : t.mdr.state = s.mdr.state)
    (hp : t.mdr.startPending = s.mdr.startPending) : MotorKept s t where
  sound := h.resolverSound
  motor := fun x => by simpa only [MotorFollows, h.demand, hm, hp] using x

theorem Steady.motorKept {s t : State} (h : Steady s t) : MotorKept s t :=
  h.toResolverKept.motorKept h.motor h.pending

theorem Steady.kept {s t : State} (h : Steady s t) : Kept s t where
  toMotorKept := h.motorKept
  demand := fun x _ => by simpa only [DemandFollows, h.demand, h.wantsToRun] using x

end Sys2Proof.Proofs

namespace Sys2Proof.Proofs

open Sys2Proof.Machine Sys2Proof.Safety

/-! ### Evaluations and the pack state -/

theorem evaluate_resolverKept (s : State) : ResolverKept s (evaluate s) where
  trigger := rfl
  host := rfl
  demand := evaluate_runDemand s
  profile := rfl
  edit := rfl
  sound := fun h => (evaluateAs_resolverSound _ h).2

theorem evaluate_steady (s : State) : Steady s (evaluate s) :=
  .of_resolver (evaluate_resolverKept s) (by simp)

/-- An update of other blocks than the resolver, with the record evaluated after it. -/
theorem ResolverKept.evaluate {s t : State} (h : t.drs = s.drs) : ResolverKept s (evaluate t) :=
  (ResolverKept.of_drs h).trans (evaluate_resolverKept t)

theorem changePackState_resolverKept (new : PackState) (cause : PackCause) (cell : Nat) (s : State) :
    ResolverKept s (changePackState new cause cell s) := .evaluate (by simp [raisePackNotice])

/-! ### The Charge Controller -/

theorem enteredChc_state (new : ChargeState) (set : SuspendSet) (c : Chc) : (enteredChc new set c).state = new := rfl

/-- A charge state other than IDLE inhibits (R5). -/
theorem inhibited_of_charge {s : State} (h : s.chc.state ≠ .idle) : ¬ (firstInhibit s).isNone := by
  rw [firstInhibit_isNone]
  exact fun k => h k.2.1

/-- A dock that is there inhibits (R5). -/
theorem inhibited_of_dock {s : State} (h : s.dlk.state ≠ .absent) : ¬ (firstInhibit s).isNone := by
  rw [firstInhibit_isNone]
  exact fun k => h k.1

theorem changeCharge_resolverKept (new : ChargeState) (cause : ChargeCause) (set : SuspendSet) (s : State) :
    ResolverKept s (changeCharge new cause set s) := by
  have released (t : State) (h : t.drs = s.drs) : ResolverKept s (releaseCutoff t) :=
    (ResolverKept.of_drs h).trans (changePackState_resolverKept _ _ _ t)
  have qualified (t : State) : ResolverKept t (qualifyEntered t) := .of_drs (by simp)
  have stood (t : State) (h : t.drs = s.drs) : ResolverKept s (if t.pkm.state = .cutoff ∧ (new = .precharge ∨ new = .cc) then
      releaseCutoff t else t) := by
    split
    · exact released t h
    · exact .of_drs h
  unfold changeCharge
  dsimp only
  have base : (chooseInterval (raiseChargeNotice s.chc.state cause
      (if mayBleed new then s.setChc (enteredChc new set s.chc)
      else applyBleed (Seven.replicate false) (s.setChc (enteredChc new set s.chc))))).drs = s.drs := by
    split <;> simp
  split
  · exact (stood _ base).trans (qualified _)
  · exact stood _ base

/-- A change between two charge states that are not IDLE leaves the inhibit of R5 present. -/
theorem changeCharge_steady (new : ChargeState) (cause : ChargeCause) (set : SuspendSet) (s : State)
    (h : s.chc.state ≠ .idle) (k : new ≠ .idle) : Steady s (changeCharge new cause set s) :=
  .of_inhibited (changeCharge_resolverKept new cause set s) (by simp) (inhibited_of_charge h)
    (inhibited_of_charge (by simpa [enteredChc_state] using k))

/-- With the dock there no change of charge state moves what run demand rests on. -/
theorem changeCharge_steady_docked (new : ChargeState) (cause : ChargeCause) (set : SuspendSet) (s : State)
    (h : s.dlk.state ≠ .absent) : Steady s (changeCharge new cause set s) :=
  .of_inhibited (changeCharge_resolverKept new cause set s) (by simp) (inhibited_of_dock h)
    (inhibited_of_dock (by simpa using h))

theorem enterSuspend_steady (temp : Bool) (s : State) (h : s.chc.state ≠ .idle) : Steady s (enterSuspend temp s) :=
  changeCharge_steady _ _ _ _ h (by simp)

theorem handRelease_steady (r : ReleaseReason) (s : State) : Steady s (handRelease r s) := .of_fields (by simp)

theorem enterChargeFault_steady (k : FaultKind) (s : State) : Steady s (enterChargeFault k s) := by
  unfold enterChargeFault
  split
  · exact .refl s
  · next h =>
    have noted : Steady s (s.setChc { s.chc with faultCause := some k }) := .of_fields (by simp)
    have present : (s.setChc { s.chc with faultCause := some k }).chc.state ≠ .idle := fun x => h (.inl x)
    exact noted.trans ((changeCharge_steady .fault .fault noSuspend _ present (by simp)).trans
      (handRelease_steady .fault _))

theorem noteRaise_steady (k : FaultKind) (d : Detail) (s : State) : Steady s (noteRaise k d s) := .of_fields (by simp)

theorem raiseChargeStop_steady (k : FaultKind) (d : Detail) (s : State) : Steady s (raiseChargeStop k d s) := by
  unfold raiseChargeStop
  exact (noteRaise_steady k d s).trans (enterChargeFault_steady k _)

theorem enterDone_steady (cause : ChargeCause) (s : State) (h : s.chc.state ≠ .idle) : Steady s (enterDone cause s) := by
  unfold enterDone
  dsimp only
  exact (changeCharge_steady .done cause noSuspend s h (by simp)).trans
    ((handRelease_steady .done _).trans (.of_fields (by simp)))

theorem judgeQualify_steady (s : State) : Steady s (judgeQualify s) := by
  unfold judgeQualify
  split
  · exact .refl s
  · next h =>
    have present : s.chc.state ≠ .idle := by simp_all
    have charged (new : ChargeState) (k : new ≠ .idle) : Steady s (changeCharge new .qualified noSuspend s) :=
      changeCharge_steady _ _ _ _ present k
    repeat' split
    · exact .refl s
    · exact enterSuspend_steady _ _ present
    · exact enterSuspend_steady _ _ present
    · exact .refl s
    · exact enterSuspend_steady _ _ present
    · exact raiseChargeStop_steady _ _ _
    · exact charged _ (by simp)
    · exact charged _ (by simp)
    · exact charged _ (by simp)

theorem resumeIfClear_steady (s : State) : Steady s (resumeIfClear s) := by
  unfold resumeIfClear
  split
  · next h => exact changeCharge_steady _ _ _ _ (by simp [h.1]) (by simp)
  · exact .refl s

theorem capSetpoint_steady (s : State) : Steady s (capSetpoint s) := .of_fields (by simp [capSetpoint])

/-- The states in which the stage draws current are not IDLE (6.4). -/
theorem charging_not_idle {c : ChargeState} (h : isCharging c = true) : c ≠ .idle := by
  rintro rfl; simp [isCharging] at h

theorem grantDelivered_steady (s : State) : Steady s (grantDelivered s) := by
  unfold grantDelivered
  dsimp only
  refine (capSetpoint_steady s).trans (Steady.trans ?_ (judgeQualify_steady _))
  split
  · next h => exact enterSuspend_steady _ _ (charging_not_idle h.1)
  · split
    · exact (Steady.of_fields (by simp)).trans (resumeIfClear_steady _)
    · exact .refl _

theorem dockSeen_steady (s : State) (h : s.dlk.state ≠ .absent) : Steady s (dockSeen s) := by
  unfold dockSeen
  split
  · exact changeCharge_steady_docked _ _ _ _ h
  · exact .refl s

theorem dockGone_resolverKept (s : State) : ResolverKept s (dockGone s) := by
  unfold dockGone
  split
  · exact .of_drs rfl
  · exact changeCharge_resolverKept _ _ _ _

theorem cvStep_steady (measured : Int) (s : State) (h : s.chc.state ≠ .idle) : Steady s (cvStep measured s) := by
  have moved : Steady s (s.setChc { s.chc with iSet := cvSetpoint s }) := .of_fields (by simp)
  unfold cvStep
  dsimp only
  repeat' split
  · exact .of_fields (by simp)
  · exact moved.trans (changeCharge_steady _ _ _ _ h (by simp))
  · exact moved.trans (enterDone_steady _ _ h)
  · exact moved
  · exact .of_fields (by simp)

theorem balanceStep_steady (s : State) (h : s.chc.state ≠ .idle) : Steady s (balanceStep s) := by
  unfold balanceStep
  dsimp only
  split
  · exact (Steady.of_fields (by simp)).trans (enterDone_steady _ _ h)
  · exact .of_fields (by simp)

theorem stateStep_steady (measured : Int) (s : State) : Steady s (stateStep measured s) := by
  unfold stateStep
  split
  · next h =>
    split
    · exact changeCharge_steady _ _ _ _ (by simp [h]) (by simp)
    · exact .of_fields (by simp)
  · next h =>
    split
    · exact changeCharge_steady _ _ _ _ (by simp [h]) (by simp)
    · exact .of_fields (by simp)
  · next h => exact cvStep_steady _ _ (by simp [h])
  · next h => exact balanceStep_steady _ (by simp [h])
  · next h =>
    split
    · exact changeCharge_steady _ _ _ _ (by simp [h]) (by simp)
    · exact .refl s
  · exact judgeQualify_steady s
  · exact .refl s

theorem suspendStep_steady (s : State) : Steady s (suspendStep s) :=
  (Steady.of_fields (by simp)).trans (resumeIfClear_steady _)

theorem stageTest_steady (measured : Int) (s : State) : Steady s (stageTest measured s) := by
  unfold stageTest
  dsimp only
  split
  · generalize (if (s.chc.iSet : Int) + 500 < measured then min 3 (s.chc.stageCount + 1) else 0) = n
    have counted : Steady s (s.setChc { s.chc with stageCount := n }) := .of_fields (by simp)
    split
    · exact counted.trans (raiseChargeStop_steady _ _ _)
    · exact counted
  · exact .refl s

theorem handBleed_steady (set : Seven Bool) (s : State) : Steady s (handBleed set s) :=
  .of_fields (by simp [handBleed, applyBleed])

/-- The part of the scan step between the cap and the bleed set (R135). -/
theorem chargeScan_step_steady (measured : Int) (t : State) :
    Steady t (if isCharging t.chc.state ∧ t.pkm.chargeAllowance = 0 then enterSuspend true t
      else if t.chc.state = .suspend then suspendStep t else stateStep measured t) := by
  split
  · next h => exact enterSuspend_steady _ _ (charging_not_idle h.1)
  · split
    · exact suspendStep_steady t
    · exact stateStep_steady measured t

theorem chargeScan_steady (s : State) : Steady s (chargeScan s) := by
  have bled (u : State) (h : Steady s u) :
      Steady s (if mayBleed u.chc.state then handBleed (selectBleed u.chargePar.balanceMv u.pkm) u
        else handBleed (Seven.replicate false) u) := by
    split
    · exact h.trans (handBleed_steady _ _)
    · exact h.trans (handBleed_steady _ _)
  unfold chargeScan
  dsimp only
  exact bled _ (((stageTest_steady _ s).trans (capSetpoint_steady _)).trans (chargeScan_step_steady _ _))

end Sys2Proof.Proofs

namespace Sys2Proof.Proofs

open Sys2Proof.Machine Sys2Proof.Safety

/-! ### The Blockage Monitor and the dirt windows -/

theorem setBlockage_steady (b : Blm) (s : State) : Steady s (setBlockage b s) :=
  (Steady.of_fields (by simp)).trans (evaluate_steady (s.setBlm b))

theorem clearBlockage_steady (r : BlockageReason) (s : State) : Steady s (clearBlockage r s) :=
  (setBlockage_steady (returnedNormal s.blm) s).trans (.of_fields (by simp [clearBlockage]))

theorem blockageLeaveRun_steady (s : State) : Steady s (blockageLeaveRun s) := by
  have stopped := setBlockage_steady (stoppedBlm s.blm) s
  unfold blockageLeaveRun
  dsimp only
  split
  · exact stopped.trans (.of_fields (by simp))
  · exact stopped

theorem judgeSample_steady (sample : Sample) (reference : Option Nat) (s : State) :
    Steady s (judgeSample sample reference s) := by
  unfold judgeSample
  dsimp only
  repeat' split
  any_goals exact setBlockage_steady _ s
  all_goals exact .of_fields (by simp)

theorem deliverSample_steady (sample : Sample) (s : State) : Steady s (deliverSample sample s) := by
  have learned : Steady s (learnSample sample s) := .of_fields (by simp)
  have judged := learned.trans (judgeSample_steady sample (loadReference s.sbt sample.speed) _)
  unfold deliverSample
  dsimp only
  exact judged.trans (.of_fields (by simp))

theorem revolutionEnd_steady (imMean : Int) (s : State) : Steady s (revolutionEnd imMean s) := by
  unfold revolutionEnd
  dsimp only
  exact Steady.trans (.of_fields (by simp)) (deliverSample_steady _ _)

theorem commutate_steady (period : Nat) (im : Int) (s : State) : Steady s (commutate period im s) := by
  have moved : Steady s (s.setMdr (commutated s.motorPar.blankFrac period s.mdr)) := .of_fields (by simp [commutated])
  unfold commutate
  dsimp only
  repeat' split
  · exact (moved.trans (.of_fields (by simp))).trans (revolutionEnd_steady im _)
  · exact moved.trans (.of_fields (by simp))
  · exact moved

theorem scheduleCrossing_steady (t d : Nat) (s : State) : Steady s (scheduleCrossing t d s) :=
  .of_fields (by simp [scheduleCrossing])

theorem refreshDerate_steady (s : State) : Steady s (refreshDerate s) := by
  unfold refreshDerate
  dsimp only
  repeat' split
  · exact .refl s
  · exact .refl s
  · exact (Steady.of_fields (by simp)).trans (evaluate_steady _)

theorem dirtLeaveRun_steady (s : State) : Steady s (dirtLeaveRun s) := by
  have stopped : Steady s (evaluate (s.setDse (stoppedDse s.dse))) :=
    (Steady.of_fields (by simp)).trans (evaluate_steady _)
  unfold dirtLeaveRun
  dsimp only
  refine stopped.trans (.of_fields ?_)
  repeat' split
  all_goals simp

theorem dirtWindowEnd_steady (w : DirtWindow) (amplitude level : Nat) (signal : List Nat) (s : State) :
    Steady s (dirtWindowEnd w amplitude level signal s) := by
  have stepped : Steady s (evaluate (windowSteps w amplitude level signal s)) :=
    (Steady.of_fields (by simp)).trans (evaluate_steady _)
  unfold dirtWindowEnd
  dsimp only
  exact stepped.trans (.of_fields (by simp))

/-! ### A change of motor state -/

theorem deliverBlm_steady (old new : MotorState) (s : State) : Steady s (deliverBlm old new s) := by
  unfold deliverBlm
  repeat' split
  · exact .of_fields (by simp)
  · exact blockageLeaveRun_steady s
  · exact .refl s

theorem deliverDse_steady (old new : MotorState) (s : State) : Steady s (deliverDse old new s) := by
  unfold deliverDse
  repeat' split
  · exact .of_fields (by simp)
  · exact dirtLeaveRun_steady s
  · exact .refl s

theorem deliverPkm_steady (new : MotorState) (s : State) : Steady s (deliverPkm new s) := by
  unfold deliverPkm
  dsimp only
  split
  all_goals exact .of_fields (by simp [chooseInterval])

theorem deliverSlc_steady (s : State) : Steady s (deliverSlc s) := .of_fields (by simp [deliverSlc])

/-- Apart from the state entered and the delivery to the resolver a change of motor state is steady (R23). -/
theorem motorTo_steady (new : MotorState) (cause : MotorCause) (pend : Bool) (s : State) :
    ∃ n, Steady (deliverDrs new (raise n (s.setMdr (enteredMdr new pend s.mdr)))) (motorTo new cause pend s) := by
  have supplied (t : State) : Steady t (deliverSrg new t) := .of_fields (by simp)
  have counted (t : State) : Steady t (deliverIcn new t) := .of_fields (by simp)
  exact ⟨_, (supplied _).trans ((deliverBlm_steady _ _ _).trans ((deliverDse_steady _ _ _).trans
    ((deliverPkm_steady _ _).trans ((judgeQualify_steady _).trans ((counted _).trans (deliverSlc_steady _))))))⟩

theorem deliverDrs_of_ne {new : MotorState} (h : new ≠ .tripped) (s : State) : deliverDrs new s = s := by
  simp [deliverDrs, h]

/-- A change of motor state other than a trip leaves the resolver but for evaluations of its record. -/
theorem motorTo_resolverKept {new : MotorState} (h : new ≠ .tripped) (cause : MotorCause) (pend : Bool) (s : State) :
    ResolverKept s (motorTo new cause pend s) := by
  obtain ⟨n, steady⟩ := motorTo_steady new cause pend s
  rw [deliverDrs_of_ne h] at steady
  exact (ResolverKept.of_drs (by simp)).trans steady.toResolverKept

/-- A change of motor state that is neither from nor to TRIPPED leaves what the claims and the inhibits ask for. -/
theorem motorTo_wantsToRun {new : MotorState} (h : new ≠ .tripped) (cause : MotorCause) (pend : Bool) {s : State}
    (k : s.mdr.state ≠ .tripped) : wantsToRun (motorTo new cause pend s) = wantsToRun s := by
  obtain ⟨n, steady⟩ := motorTo_steady new cause pend s
  rw [deliverDrs_of_ne h] at steady
  have entered : (firstInhibit (raise n (s.setMdr (enteredMdr new pend s.mdr)))).isNone = (firstInhibit s).isNone := by
    rw [Bool.eq_iff_iff, firstInhibit_isNone, firstInhibit_isNone]
    simp [h, k]
  rw [steady.wantsToRun]
  simp only [wantsToRun, entered, raise_frame, State.setMdr_drs]

theorem motorTo_demandFollows {new : MotorState} (h : new ≠ .tripped) (cause : MotorCause) (pend : Bool) {s : State}
    (k : s.mdr.state ≠ .tripped) (demand : DemandFollows s) : DemandFollows (motorTo new cause pend s) := by
  rw [DemandFollows, (motorTo_resolverKept h cause pend s).demand, motorTo_wantsToRun h cause pend k]
  exact demand

/-- Run demand stands in these states, and in COAST with a start pending (R24, R38). -/
def Runs (m : MotorState) (pend : Bool) : Prop := runningMotor m = true ∨ (m = .coast ∧ pend = true)

theorem motorFollows_iff (s : State) : MotorFollows s ↔
    (s.drs.record.runDemand = true ↔ Runs s.mdr.state s.mdr.startPending) ∧
      (s.mdr.startPending = true → s.mdr.state = .coast) := Iff.rfl

theorem not_runs_tripped (pend : Bool) : ¬ Runs .tripped pend := by simp [Runs, runningMotor, motorWatched]

/-- A motor that stops running, starts or goes on as run demand asks follows it still. -/
theorem motorTo_motorFollows {new : MotorState} (h : new ≠ .tripped) (cause : MotorCause) {pend : Bool} {s : State}
    (runs : s.drs.record.runDemand = true ↔ Runs new pend) (pending : pend = true → new = .coast) :
    MotorFollows (motorTo new cause pend s) := by
  rw [motorFollows_iff, (motorTo_resolverKept h cause pend s).demand]
  simpa using ⟨runs, pending⟩

/-- A change of motor state among those that run, or among those that do not, keeps run demand and the motor in step. -/
theorem motorTo_keeps {new : MotorState} (h : new ≠ .tripped) (cause : MotorCause) {pend : Bool} {s : State}
    (k : s.mdr.state ≠ .tripped) (runs : Runs s.mdr.state s.mdr.startPending ↔ Runs new pend)
    (pending : pend = true → new = .coast) : Kept s (motorTo new cause pend s) where
  sound := (motorTo_resolverKept h cause pend s).resolverSound
  motor := fun motor => motorTo_motorFollows h cause (motor.1.trans runs) pending
  demand := fun demand _ => motorTo_demandFollows h cause pend k demand

/-! ### Run demand -/

theorem motorFollows_of_fall {s : State} (h : MotorFollows s) (d : s.drs.record.runDemand = false) :
    ¬ Runs s.mdr.state s.mdr.startPending := by
  intro runs
  simpa [d] using ((motorFollows_iff s).1 h).1.2 runs

/-- A rise of run demand starts a motor that neither runs nor has a start pending (R24). -/
theorem demandRise_follows {s : State} (demand : wantsToRun s = true) (stands : s.drs.record.runDemand = true)
    (rests : ¬ Runs s.mdr.state s.mdr.startPending) :
    DemandFollows (demandRise s) ∧ MotorFollows (demandRise s) := by
  have clear : (firstInhibit s).isNone = true := by
    simp only [wantsToRun, Bool.and_eq_true] at demand
    exact demand.2
  obtain ⟨-, idle, -, untripped, -⟩ := (firstInhibit_isNone s).1 clear
  have started : DemandFollows (motorTo .precheck .demand false s) ∧ MotorFollows (motorTo .precheck .demand false s) := by
    exact ⟨motorTo_demandFollows (by simp) _ _ untripped (stands.trans demand.symm),
      motorTo_motorFollows (by simp) _ (by simp [stands, Runs, runningMotor, motorWatched]) (by simp)⟩
  unfold demandRise
  split
  · rw [if_pos idle]; exact started
  · next h =>
    have unset : s.mdr.startPending = false := by simpa [Runs, h] using fun x => rests (.inr ⟨h, x⟩)
    simp only [unset, Bool.false_eq_true, if_false]
    exact started
  · exfalso
    cases h : s.mdr.state <;> simp_all [Runs, runningMotor, motorWatched]

/-- A fall of run demand ends a motor that runs or has a start pending (R24). -/
theorem demandFall_follows {s : State} (demand : wantsToRun s = false) (falls : s.drs.record.runDemand = false)
    (runs : Runs s.mdr.state s.mdr.startPending) :
    DemandFollows (demandFall s) ∧ MotorFollows (demandFall s) := by
  have untripped : s.mdr.state ≠ .tripped := fun h => not_runs_tripped _ (h ▸ runs)
  unfold demandFall
  split
  · next h => simp [Runs, h, runningMotor, motorWatched] at runs
  · next h => exact absurd h untripped
  · next h => exact ⟨falls.trans demand.symm, by simp [MotorFollows, falls, h, runningMotor, motorWatched]⟩
  · exact ⟨motorTo_demandFollows (by simp) _ _ untripped (falls.trans demand.symm),
      motorTo_motorFollows (by simp) _ (by simp [falls, Runs, runningMotor, motorWatched]) (by simp)⟩

/-- An evaluation does not move what the claims and the inhibits ask for. -/
theorem evaluateAs_wantsToRun (b : Bool) (s : State) : wantsToRun (evaluateAs b s) = wantsToRun s := rfl

theorem evaluateAs_runDemand (b : Bool) (s : State) : (evaluateAs b s).drs.record.runDemand = b := by
  cases b <;> rfl

/-- Recomputed, run demand is what the claims and the inhibits make it, and the motor follows it (R7, R24). -/
theorem demandRefresh_follows {s : State} (h : MotorFollows s) :
    DemandFollows (demandRefresh s) ∧ MotorFollows (demandRefresh s) := by
  have stood := ((motorFollows_iff s).1 h).1
  unfold demandRefresh
  dsimp only
  split
  · next same => exact ⟨same.symm, h⟩
  · next moved =>
    cases want : wantsToRun s
    · have rose : s.drs.record.runDemand = true := by simpa [want] using moved
      exact demandFall_follows (by rw [evaluateAs_wantsToRun, want]) (evaluateAs_runDemand _ _)
        (by simpa using stood.1 rose)
    · have rested : s.drs.record.runDemand = false := by simpa [want] using moved
      exact demandRise_follows (by rw [evaluateAs_wantsToRun, want]) (evaluateAs_runDemand _ _)
        (by simpa using motorFollows_of_fall h rested)

theorem demandRefresh_resolverSound {s : State} (h : ResolverSound s) : ResolverSound (demandRefresh s) := by
  have evaluated := evaluateAs_resolverSound (wantsToRun s) h
  unfold demandRefresh
  dsimp only
  split
  · exact h
  · split
    · unfold demandRise
      repeat' split
      any_goals exact evaluated
      all_goals exact (motorTo_resolverKept (by simp) _ _ _).resolverSound evaluated
    · unfold demandFall
      split
      · exact evaluated
      · exact evaluated
      · exact (ResolverKept.of_drs rfl).resolverSound evaluated
      · exact (motorTo_resolverKept (by simp) _ _ _).resolverSound evaluated

/-- A part of a step that ends in a recomputation of run demand. -/
theorem MotorKept.refreshed {s t : State} (h : MotorKept s t) : Kept s (demandRefresh t) where
  sound := fun x => demandRefresh_resolverSound (h.sound x)
  motor := fun x => (demandRefresh_follows (h.motor x)).2
  demand := fun _ x => (demandRefresh_follows (h.motor x)).1

theorem clearClaims_motorKept (s : State) : MotorKept s (clearClaims s) :=
  ⟨fun h => h, fun h => by simpa [MotorFollows, clearClaims] using h⟩

theorem forcedStop_keeps (s : State) : Kept s (forcedStop s) := (clearClaims_motorKept s).refreshed

end Sys2Proof.Proofs

namespace Sys2Proof.Proofs

open Sys2Proof.Machine Sys2Proof.Safety

/-! ### Trips (R165 to R172) -/

/-- An abort leaves no edit open and the rest of the resolver but for the last abort alone (R16). -/
@[simp] theorem abortEdit_resolver (cause : AbortCause) (s : State) :
    (abortEdit cause s).drs.edit = none ∧ (abortEdit cause s).drs.triggerClaim = s.drs.triggerClaim ∧
    (abortEdit cause s).drs.hostClaim = s.drs.hostClaim ∧ (abortEdit cause s).drs.record = s.drs.record ∧
    (abortEdit cause s).drs.profile = s.drs.profile ∧ (abortEdit cause s).drs.step = s.drs.step := by
  unfold abortEdit
  split <;> simp_all

theorem abortEdit_wantsToRun (cause : AbortCause) (s : State) : wantsToRun (abortEdit cause s) = wantsToRun s := by
  have same : firstInhibit (abortEdit cause s) = firstInhibit s := firstInhibit_congr (by simp) (by simp) (by simp) (by simp) (by simp)
  simp [wantsToRun, same]

theorem abortEdit_keeps (cause : AbortCause) (s : State) : Kept s (abortEdit cause s) where
  sound := fun ⟨⟨failure, range, _⟩, record⟩ => by simpa [ResolverSound, ProfileSound] using ⟨⟨failure, range⟩, record⟩
  motor := fun motor => by simpa [MotorFollows] using motor
  demand := fun demand _ => by
    rw [DemandFollows, abortEdit_wantsToRun]
    simpa [DemandFollows] using demand

/-- The entry to TRIPPED leaves no claim, no open edit and run demand false (R8, R16, R168). -/
theorem motorTo_tripped_resolver (cause : MotorCause) (pend : Bool) (s : State) :
    (motorTo .tripped cause pend s).drs.triggerClaim = false ∧ (motorTo .tripped cause pend s).drs.hostClaim = false ∧
      (motorTo .tripped cause pend s).drs.record.runDemand = false ∧
      (ResolverSound s → ResolverSound (motorTo .tripped cause pend s)) := by
  obtain ⟨n, steady⟩ := motorTo_steady .tripped cause pend s
  refine ⟨?_, ?_, ?_, fun ⟨⟨failure, range, _⟩, _⟩ => steady.resolverSound ?_⟩
  · rw [steady.trigger]; simp [deliverDrs, evaluateAs, clearClaims]
  · rw [steady.host]; simp [deliverDrs, evaluateAs, clearClaims]
  · rw [steady.demand]; simp [deliverDrs, evaluateAs, clearClaims, DemandRecord.idle]
  · simpa [ResolverSound, ProfileSound, deliverDrs, evaluateAs, clearClaims] using ⟨⟨failure, range⟩, recordSound_idle⟩

theorem motorTo_tripped_keeps (cause : MotorCause) (s : State) : Kept s (motorTo .tripped cause false s) where
  sound := (motorTo_tripped_resolver cause false s).2.2.2
  motor := fun _ => by
    rw [motorFollows_iff, (motorTo_tripped_resolver cause false s).2.2.1]
    simp [not_runs_tripped]
  demand := fun _ _ => by
    obtain ⟨trigger, host, demand, -⟩ := motorTo_tripped_resolver cause false s
    simp [DemandFollows, wantsToRun, trigger, host, demand]

theorem trip_keeps (k : FaultKind) (d : Detail) (s : State) : Kept s (trip k d s) := by
  have filled : Steady s (s.setFmg { s.fmg with trip := some (tripRecordOf k d s) }) := .of_fields (by simp)
  have noticed (t : State) : Steady t (raiseTripNotice (.tripped k d) t) := .of_fields (by simp)
  unfold trip
  exact (filled.kept.trans (motorTo_tripped_keeps .trip _)).trans (noticed _).kept

theorem applyStop_keeps (k : FaultKind) (d : Detail) (s : State) : Kept s (applyStop k d s) := by
  unfold applyStop
  split
  · exact .refl s
  · exact trip_keeps k d s

theorem raiseStop_keeps (k : FaultKind) (d : Detail) (s : State) : Kept s (raiseStop k d s) := by
  unfold raiseStop
  exact (noteRaise_steady k d s).kept.trans (applyStop_keeps k d _)

theorem raiseNotified_steady (k : FaultKind) (d : Detail) (s : State) : Steady s (raiseNotified k d s) :=
  .of_fields (by simp)

/-- The motor states a change within which keeps run demand and the motor in step. -/
theorem running_untripped {m : MotorState} {pend : Bool} (h : Runs m pend) : m ≠ .tripped := by
  rintro rfl
  exact not_runs_tripped pend h

/-- A motor that runs goes on to another state in which it runs, or coasts toward a start (R24). -/
theorem motorTo_runs_keeps {new : MotorState} (cause : MotorCause) {pend : Bool} {s : State}
    (k : Runs s.mdr.state s.mdr.startPending) (runs : Runs new pend) (pending : pend = true → new = .coast) :
    Kept s (motorTo new cause pend s) :=
  motorTo_keeps (running_untripped runs) cause (running_untripped k) (iff_of_true k runs) pending

theorem runs_of_watched {s : State} (h : motorWatched s.mdr.state = true) : Runs s.mdr.state s.mdr.startPending :=
  .inl (by simp [runningMotor, h])

theorem startFail_keeps (cause : MotorCause) {s : State} (h : Runs s.mdr.state s.mdr.startPending) :
    Kept s (startFail cause s) := by
  have counted : Steady s (s.setMdr { gatesOff s.mdr with attempts := s.mdr.attempts + 1 }) :=
    .of_fields (by simp [gatesOff])
  unfold startFail
  dsimp only
  split
  · exact counted.kept.trans (motorTo_runs_keeps cause h (by simp [Runs, runningMotor]) (by simp))
  · exact counted.kept.trans (raiseStop_keeps _ _ _)

/-- COAST under a run demand that stands, and at once PRECHECK (R39). -/
theorem restartDecision_keeps (d : Detail) {s : State} (h : Runs s.mdr.state s.mdr.startPending) :
    Kept s (restartDecision d s) := by
  have aged (l : List Uptime) : Steady s (s.setMdr { s.mdr with restarts := l }) := .of_fields (by simp)
  unfold restartDecision
  dsimp only
  split
  · exact (aged _).kept.trans (applyStop_keeps _ _ _)
  · generalize agedRestarts s.now s.mdr.restarts ++ [s.now] = l
    refine (aged l).kept.trans ?_
    have runs : Runs (s.setMdr { s.mdr with restarts := l }).mdr.state (s.setMdr { s.mdr with restarts := l }).mdr.startPending := h
    generalize s.setMdr { s.mdr with restarts := l } = u at runs ⊢
    have coasting := motorTo_resolverKept (new := .coast) (by simp) .syncLoss false u
    have again := motorTo_resolverKept (new := .precheck) (by simp) .demand false (motorTo .coast .syncLoss false u)
    have stands (motor : MotorFollows u) : (motorTo .coast .syncLoss false u).drs.record.runDemand = true :=
      coasting.demand.trans (((motorFollows_iff u).1 motor).1.2 runs)
    refine ⟨⟨fun x => ?_, fun motor => ?_⟩, fun demand motor => ?_⟩
    · split
      · exact again.resolverSound (coasting.resolverSound x)
      · exact coasting.resolverSound x
    · rw [if_pos (stands motor)]
      exact motorTo_motorFollows (by simp) _ (by simp [stands motor, Runs, runningMotor, motorWatched]) (by simp)
    · rw [if_pos (stands motor)]
      exact motorTo_demandFollows (by simp) _ _ (by simp)
        (motorTo_demandFollows (by simp) _ _ (running_untripped runs) demand)

theorem raiseSyncLoss_keeps {s : State} (h : Runs s.mdr.state s.mdr.startPending) : Kept s (raiseSyncLoss s) := by
  have off : Steady s (s.setMdr { gatesOff s.mdr with misses := 0 }) := .of_fields (by simp [gatesOff])
  unfold raiseSyncLoss
  dsimp only
  have noted := off.trans (noteRaise_steady .syncLoss (.rpm s.mdr.speed) _)
  refine noted.kept.trans ?_
  split
  · exact applyStop_keeps _ _ _
  · exact restartDecision_keeps _ (by rw [noted.motor, noted.pending]; exact h)

/-- PRECHECK ends in a state in which run demand stands, or in a trip (R29). -/
theorem precheckDecide_keeps (tInv : Int) {s : State} (h : s.mdr.state = .precheck) : Kept s (precheckDecide tInv s) := by
  have runs : Runs s.mdr.state s.mdr.startPending := by simp [Runs, h, runningMotor, motorWatched]
  unfold precheckDecide
  repeat' split
  · exact raiseStop_keeps _ _ _
  · exact motorTo_runs_keeps _ runs (by simp [Runs, runningMotor, motorWatched]) (by simp)
  · exact motorTo_runs_keeps _ runs (by simp [Runs, runningMotor, motorWatched]) (by simp)
  · exact motorTo_runs_keeps _ runs (by simp [Runs]) (by simp)

theorem enterRun_keeps {s : State} (h : Runs s.mdr.state s.mdr.startPending) : Kept s (enterRun s) := by
  have entered : Kept s (motorTo .run .inStep false s) :=
    motorTo_runs_keeps .inStep h (by simp [Runs, runningMotor, motorWatched]) (by simp)
  unfold enterRun
  exact entered.trans (Steady.of_fields (by simp)).kept

theorem enterHandover_keeps (t d : Nat) {s : State} (h : Runs s.mdr.state s.mdr.startPending) :
    Kept s (enterHandover t d s) := by
  have entered : Kept s (motorTo .handover .locked false s) :=
    motorTo_runs_keeps .locked h (by simp [Runs, runningMotor, motorWatched]) (by simp)
  unfold enterHandover
  exact entered.trans
    ((Steady.of_fields (by simp)).kept.trans (scheduleCrossing_steady t d _).kept)

theorem enterRunCaught_keeps {s : State} (h : Runs s.mdr.state s.mdr.startPending) : Kept s (enterRunCaught s) := by
  unfold enterRunCaught
  dsimp only
  refine Kept.trans (Steady.of_fields (by simp)).kept (Kept.trans (enterRun_keeps ?_) (scheduleCrossing_steady _ _ _).kept)
  exact h

theorem coastEnd_keeps (cause : MotorCause) {s : State} (h : s.mdr.state = .coast) : Kept s (coastEnd cause s) := by
  unfold coastEnd
  split
  · next p => exact motorTo_runs_keeps cause (.inr ⟨h, p⟩) (by simp [Runs, runningMotor, motorWatched]) (by simp)
  · next p =>
    exact motorTo_keeps (by simp) cause (by simp [h]) (by simp [h, p, Runs, runningMotor, motorWatched]) (by simp)

/-- A trip cleared leaves run demand and the motor in step; whether run demand rises is left to the recomputation that
follows (R172). -/
theorem clearTrip_motorKept (way : ClearWay) {s : State} (h : s.mdr.state = .tripped) :
    MotorKept s (clearTrip way s) := by
  have cleared : Steady s (s.setFmg { s.fmg with trip := none }) := .of_fields (by simp)
  have off := motorTo_resolverKept (new := .off) (by simp) .tripClear false (s.setFmg { s.fmg with trip := none })
  have rest : Steady (motorTo .off .tripClear false (s.setFmg { s.fmg with trip := none })) (clearTrip way s) :=
    .of_fields (by simp [clearTrip])
  constructor
  · exact fun x => rest.resolverSound (off.resolverSound (cleared.resolverSound x))
  · intro motor
    refine rest.motorKept.motor (motorTo_motorFollows (by simp) .tripClear ?_ (by simp))
    simpa [h, Runs, runningMotor, motorWatched] using ((motorFollows_iff s).1 motor).1

theorem raisePersist_keeps (s : State) : Kept s (raisePersist s) := by
  unfold raisePersist
  dsimp only
  split
  · exact raiseStop_keeps _ _ _
  · exact (raiseNotified_steady _ _ _).kept

theorem enterBlocked_keeps (s : State) : Kept s (enterBlocked s) := by
  unfold enterBlocked
  dsimp only
  generalize (if s.blm.state = .retrying then BlockageReason.repeated else .detected) = reason
  have entered := (setBlockage_steady (blockedBlm s.blm) s).trans
    (Steady.of_fields (t := raiseBlockageNotice .set reason (countEvent .blockages (.units 1) (setBlockage (blockedBlm s.blm) s))) (by simp))
  split
  · exact entered.kept.trans (raisePersist_keeps _)
  · exact entered.kept

theorem expireBlock_keeps (s : State) : Kept s (expireBlock s) := by
  unfold expireBlock
  split
  · exact (enterBlocked_keeps s).toMotorKept.refreshed
  · exact .refl s

theorem expireRetry_steady (s : State) : Steady s (expireRetry s) := by
  unfold expireRetry
  split
  · exact setBlockage_steady _ s
  · exact .refl s

end Sys2Proof.Proofs

namespace Sys2Proof.Proofs

open Sys2Proof.Machine Sys2Proof.Safety

/-! ### The Dock Link (chapter 9) -/

/-- A change of the link between two states with the dock present. -/
theorem dockMoved_steady (d : Dlk) {s : State} (h : s.dlk.state ≠ .absent) (k : d.state ≠ .absent) :
    Steady s (s.setDlk d) :=
  .of_inhibited (.of_drs rfl) rfl (inhibited_of_dock h) (inhibited_of_dock k)

theorem sendDue_steady (s : State) : Steady s (sendDue s) := .of_fields (by simp)

theorem dockChanged_steady (old : DockState) (cause : DockCause) (s : State) : Steady s (dockChanged old cause s) := by
  have noticed : Steady s (raiseDockNotice false old cause s) := .of_fields (by simp)
  unfold dockChanged deliverDockSlc
  exact (noticed.trans (grantDelivered_steady _)).trans (deliverSlc_steady _)

theorem grantChanged_steady (before : Nat) (cause : DockCause) (s : State) : Steady s (grantChanged before cause s) := by
  have noticed : Steady s (raiseDockNotice true s.dlk.state cause s) := .of_fields (by simp)
  unfold grantChanged
  split
  · exact .refl s
  · exact noticed.trans (grantDelivered_steady _)

theorem enterGreeting_steady (cause : DockCause) {s : State} (h : s.dlk.state ≠ .absent) :
    Steady s (enterGreeting cause s) := by
  have greeted := dockMoved_steady { s.dlk with state := .greeting, misses := 0, settle := none, retry := none, firstSent := false } h (by simp)
  have sent (t : State) : Steady t (startExchange .hello t) := .of_fields (by simp [startExchange])
  unfold enterGreeting
  exact (greeted.trans (sent _)).trans (dockChanged_steady _ _ _)

theorem enterLost_steady {s : State} (h : s.dlk.state ≠ .absent) : Steady s (enterLost s) := by
  unfold enterLost
  dsimp only
  exact (dockMoved_steady _ h (by simp)).trans ((raiseNotified_steady _ _ _).trans (dockChanged_steady _ _ _))

theorem enterActive_steady (grant : Nat) (released : Bool) (cause : DockCause) {s : State} (h : s.dlk.state ≠ .absent) :
    Steady s (enterActive grant released cause s) := by
  unfold enterActive
  exact (dockMoved_steady _ h (by simp)).trans (dockChanged_steady _ _ _)

theorem takeEvacuation_steady (flag : Bool) (s : State) : Steady s (takeEvacuation flag s) := by
  have evacuated_steady : Steady s (evacuated s) := .of_fields (by simp [evacuated])
  unfold takeEvacuation
  dsimp only
  generalize (flag && match s.dlk.offer with
    | some o => o.evacuator
    | none => false) = acted
  cases acted
  · exact .refl s
  · exact evacuated_steady

@[simp] theorem ackedDlk_state (status : AckStatus) (d : Dlk) : (ackedDlk status d).state = d.state := by
  unfold ackedDlk
  repeat' split
  all_goals rfl

theorem takeAck_steady (status : AckStatus) (flag : Bool) (s : State) : Steady s (takeAck status flag s) := by
  have acked : Steady s (s.setDlk (ackedDlk status s.dlk)) := .of_fields (by simp)
  unfold takeAck
  exact (acked.trans (grantChanged_steady _ _ _)).trans (takeEvacuation_steady _ _)

theorem actOnReply_steady (r : DockReply) (s : State) : Steady s (actOnReply r s) := by
  unfold actOnReply
  split
  · next h => exact (dockMoved_steady _ (by simp [h]) (by simp)).trans (dockChanged_steady _ _ _)
  · next h =>
    split
    · exact enterActive_steady _ _ _ (by simp [h])
    · exact enterActive_steady _ _ _ (by simp [h])
  · next h => exact (enterActive_steady _ _ _ (by simp [h])).trans (takeAck_steady _ _ _)
  · next h =>
    split
    · exact .refl s
    · exact (Steady.of_fields (by simp)).trans (grantChanged_steady _ _ _)
  · exact takeAck_steady _ _ _
  · exact .refl s

theorem answerExchange_steady (r : DockReply) (s : State) : Steady s (answerExchange r s) := by
  have ended : Steady s (s.setDlk { s.dlk with exchange := none, misses := 0 }) := .of_fields (by simp)
  unfold answerExchange
  exact (ended.trans (actOnReply_steady r _)).trans (sendDue_steady _)

theorem endUnanswered_steady (s : State) : Steady s (endUnanswered s) := by
  unfold endUnanswered
  dsimp only
  generalize (if (decide (s.dlk.state = .negotiating) || decide (s.dlk.state = .active)) = true then min 3 (s.dlk.misses + 1)
    else s.dlk.misses) = misses
  have ended : Steady s (s.setDlk { s.dlk with
      exchange := none, unanswered := min 65535 (s.dlk.unanswered + 1), misses := misses }) := .of_fields (by simp)
  refine ended.trans ?_
  split
  · next h => exact (dockMoved_steady _ (by rw [h]; simp) (by simp)).trans (dockChanged_steady _ _ _)
  · next h => exact enterLost_steady (by rw [h]; simp)
  · next h =>
    split
    · exact enterLost_steady (by rw [h]; simp)
    · exact sendDue_steady _
  · exact .refl _

theorem attemptUnanswered_steady (e : Exchange) (s : State) : Steady s (attemptUnanswered e s) := by
  unfold attemptUnanswered
  split
  · exact .of_fields (by simp)
  · exact endUnanswered_steady s

theorem receptionEnded_steady (s : State) : Steady s (receptionEnded s) := by
  unfold receptionEnded
  split
  · split
    · exact attemptUnanswered_steady _ s
    · exact .refl s
  · exact .refl s

theorem dockFrameTaken_steady (bytes : List Byte) (s : State) : Steady s (dockFrameTaken bytes s) := by
  have received : Steady s (s.setDlk { s.dlk with receiving := false }) := .of_fields (by simp)
  unfold dockFrameTaken
  dsimp only
  refine received.trans ?_
  split
  · exact (Steady.of_fields (by simp [countDiscard])).trans (receptionEnded_steady _)
  · split
    · split
      · exact answerExchange_steady _ _
      · exact receptionEnded_steady _
    · exact .refl _

theorem abandonReception_steady (s : State) : Steady s (abandonReception s) := by
  have counted : Steady s (s.setDlk { countDiscard s.dlk with receiving := false }) := .of_fields (by simp [countDiscard])
  unfold abandonReception
  exact counted.trans (receptionEnded_steady _)

theorem receptionBegun_steady (s : State) : Steady s (receptionBegun s) := by
  unfold receptionBegun
  dsimp only
  split
  · exact (abandonReception_steady s).trans (.of_fields (by simp))
  · exact .of_fields (by simp)

theorem replyTimeout_steady (s : State) : Steady s (replyTimeout s) := by
  unfold replyTimeout
  repeat' split
  · exact .refl s
  · exact .of_fields (by simp)
  · exact attemptUnanswered_steady _ s
  · exact .refl s

theorem firstMessage_steady (s : State) : Steady s (firstMessage s) := by
  have sent (m : DockMsg) (t : State) : Steady t (startExchange m t) := .of_fields (by simp [startExchange])
  have asked (r : DueRequest) (t : State) : Steady t (sendRequest r t) :=
    .of_fields (by simp [sendRequest, startExchange])
  have marked : Steady s (s.setDlk { s.dlk with firstSent := true }) := .of_fields (by simp)
  unfold firstMessage
  dsimp only
  refine marked.trans ?_
  split
  · exact sent _ _
  · exact sent _ _
  · exact sent _ _
  · exact asked _ _

theorem requestDue_steady (forKeep : Bool) (s : State) : Steady s (requestDue forKeep s) :=
  .of_fields (by simp [requestDue])

theorem dockScan_steady (s : State) : Steady s (dockScan s) := by
  unfold dockScan
  repeat' split
  · exact firstMessage_steady s
  · exact .refl s
  · exact (requestDue_steady _ s).trans (sendDue_steady _)
  · exact .refl s
  · exact .refl s

theorem keepDue_steady (s : State) : Steady s (keepDue s) := by
  unfold keepDue
  split
  · exact (requestDue_steady _ s).trans (sendDue_steady _)
  · exact (Steady.of_fields (by simp)).trans (sendDue_steady _)

/-! ### Arrival and loss of the dock (R8, R128, R143) -/

theorem forcedStop_of_motorKept {s t : State} (h : MotorKept s t) : Kept s (forcedStop t) :=
  (h.trans (clearClaims_motorKept t)).refreshed

theorem dockArrival_keeps (s : State) : Kept s (dockArrival s) := by
  have arrived : MotorKept s (s.setDlk (arrivedDlk s.dlk)) := ResolverKept.motorKept (.of_drs rfl) rfl rfl
  have noticed (t : State) : Steady t (raiseDockNotice false .absent .contact t) := .of_fields (by simp)
  have docked : (raiseDockNotice false .absent .contact (forcedStop (s.setDlk (arrivedDlk s.dlk)))).dlk.state ≠ .absent := by
    simp [arrivedDlk]
  unfold dockArrival
  exact (forcedStop_of_motorKept arrived).trans (((noticed _).trans (dockSeen_steady _ docked)).trans
    ((judgeQualify_steady _).trans (deliverSlc_steady _))).kept

theorem dockLoss_keeps (s : State) : Kept s (dockLoss s) := by
  have gone : ResolverKept s (raiseDockNotice false s.dlk.state .contactLost (s.setDlk (lostContactDlk s.dlk))) :=
    .of_drs (by simp)
  have left := gone.trans (dockGone_resolverKept _)
  unfold dockLoss
  exact ((left.motorKept (by simp) (by simp)).trans (deliverSlc_steady _).motorKept).refreshed

/-! ### SLEEP, the wakes and the resets (chapter 13) -/

theorem chooseInterval_steady (s : State) : Steady s (chooseInterval s) := .of_fields (by simp [chooseInterval])

theorem beginTransmission_steady (s : State) : Steady s (beginTransmission s) := .of_fields (by simp)

theorem enterSleep_keeps (s : State) : Kept s (enterSleep s) := by
  have slept : MotorKept s (s.setSlc { s.slc with power := .sleep, idle := 0, entry := .none }) :=
    ResolverKept.motorKept (.of_drs rfl) rfl rfl
  unfold enterSleep
  exact ((forcedStop_of_motorKept slept).trans (abortEdit_keeps .sleep _)).trans (chooseInterval_steady _).kept

theorem wakeIfAsleep_keeps (cause : WakeCause) (s : State) : Kept s (wakeIfAsleep cause s) := by
  unfold wakeIfAsleep wake
  split
  · dsimp only
    refine (MotorKept.refreshed (ResolverKept.motorKept (.of_drs ?_) ?_ ?_)).trans (beginTransmission_steady _).kept
    all_goals simp
  · exact .refl s

theorem idleZero_steady (s : State) : Steady s (idleZero s) := .of_fields (by simp [idleZero])

theorem contactRisen_keeps (s : State) : Kept s (contactRisen s) := by
  have risen : Steady s (s.setDlk { s.dlk with contact := true, lossTimer := none }) := .of_fields (by simp)
  unfold contactRisen
  dsimp only
  split
  · exact risen.kept.trans ((wakeIfAsleep_keeps .dock _).trans (dockArrival_keeps _))
  · exact risen.kept

theorem contactSeen_keeps (s : State) : Kept s (contactSeen s) := by
  unfold contactSeen
  split
  · exact contactRisen_keeps s
  · exact .refl s

theorem startScan_steady (s : State) : Steady s (startScan s) := .of_fields (by simp [startScan])

theorem startDueScan_steady (s : State) : Steady s (startDueScan s) := by
  unfold startDueScan
  split
  · exact startScan_steady s
  · exact .refl s

theorem startAtOnce_keeps (s : State) : Kept s (startAtOnce s) := by
  unfold startAtOnce
  exact (contactSeen_keeps s).trans (startDueScan_steady _).kept

theorem drs_reset_sound : ProfileSound Drs.reset ∧ RecordSound Drs.reset.record :=
  ⟨⟨rfl, by unfold ProfileInRange StepInRange; decide, by simp [Drs.reset]⟩, recordSound_idle⟩

/-- The reset values make the resolver sound and run demand false (R187). -/
theorem Kept.of_reset {s t : State} (hd : t.drs = Drs.reset) (hm : t.mdr = Mdr.reset) : Kept s t where
  sound := fun _ => by rw [ResolverSound, hd]; exact drs_reset_sound
  motor := fun _ => by simp [MotorFollows, hd, hm, Drs.reset, Mdr.reset, DemandRecord.idle, runningMotor, motorWatched]
  demand := fun _ _ => by simp [DemandFollows, wantsToRun, hd, Drs.reset, DemandRecord.idle]

theorem powerReset_keeps (cause : ResetCause) (s : State) : Kept s (powerReset cause s) := by
  unfold powerReset
  exact (Kept.of_reset rfl rfl).trans (startAtOnce_keeps _)

theorem resetRequest_keeps (tag : Byte) (s : State) : Kept s (resetRequest tag s) := by
  have reset : Kept s (hostReset s) := by
    unfold hostReset
    exact (Kept.of_reset rfl rfl).trans (startAtOnce_keeps _)
  unfold resetRequest
  exact reset.trans (Steady.of_fields (by simp)).kept

theorem shipEntry_keeps (s : State) : Kept s (shipEntry s) := by
  unfold shipEntry
  dsimp only
  split
  · exact (Steady.of_fields (by simp)).kept.trans (powerReset_keeps .shipWake _)
  · exact .of_reset rfl rfl

theorem makeEntry_keeps (s : State) : Kept s (makeEntry s) := by
  unfold makeEntry
  split
  · exact (Steady.of_fields (by simp)).kept
  · exact enterSleep_keeps s
  · exact shipEntry_keeps s

end Sys2Proof.Proofs

namespace Sys2Proof.Proofs

open Sys2Proof.Machine Sys2Proof.Safety

/-! ### The scan's end (R100) -/

theorem ovEvent_steady (cell : Nat) (s : State) : Steady s (ovEvent cell s) := by
  have noticed : Steady s (raisePackNotice true .none cell s.pkm.state s) := .of_fields (by simp)
  unfold ovEvent
  dsimp only
  split
  · exact noticed.trans (raiseChargeStop_steady _ _ _)
  · exact noticed

theorem ovEvents_steady (l : List Nat) (s : State) : Steady s (l.foldl (fun s i => ovEvent i s) s) := by
  induction l generalizing s with
  | nil => exact .refl s
  | cons cell l ih => exact (ovEvent_steady cell s).trans (ih _)

theorem judgeDeepUv_steady (s : State) : Steady s (judgeDeepUv s).1 := .of_fields (by simp [judgeDeepUv])

theorem enterCutoff_keeps (s : State) : Kept s (enterCutoff s) := by
  have cut (k : FaultKind) (d : Detail) : MotorKept s (noteRaise k d (s.setPkm { s.pkm with state := .cutoff })) :=
    ResolverKept.motorKept (.of_drs (by simp)) (by simp) (by simp)
  unfold enterCutoff
  dsimp only
  have stopped := (forcedStop_of_motorKept (cut .cellUv (.cell (weakestUvCell s.pkm)))).trans (abortEdit_keeps .cutoff _)
  exact stopped.trans (Steady.trans (Steady.of_fields (by simp)) (evaluate_steady _)).kept

theorem protectCells_keeps (before : Pkm) (s : State) : Kept s (protectCells before s).1 := by
  have entered : Kept s (if cutoffDue s then enterCutoff s else s) := by
    split
    · exact enterCutoff_keeps s
    · exact .refl s
  unfold protectCells
  exact entered.trans ((ovEvents_steady _ _).trans (judgeDeepUv_steady _)).kept

theorem judgeRelease_motorKept (s : State) : MotorKept s (judgeRelease s) := by
  unfold judgeRelease
  split
  · exact (changePackState_resolverKept _ _ _ s).motorKept (by simp) (by simp)
  · exact (Kept.refl s).toMotorKept

theorem judgePackState_motorKept (s : State) : MotorKept s (judgePackState s) := by
  unfold judgePackState
  dsimp only
  repeat' split
  · exact (Kept.refl s).toMotorKept
  · exact (Kept.refl s).toMotorKept
  · exact (changePackState_resolverKept _ _ _ s).motorKept (by simp) (by simp)
  · exact (Kept.refl s).toMotorKept
  · exact (changePackState_resolverKept _ _ _ s).motorKept (by simp) (by simp)

theorem judgePackHot_keeps (s : State) : Kept s (judgePackHot s) := by
  unfold judgePackHot
  repeat' split
  · exact raiseStop_keeps _ _ s
  · exact .refl s
  · exact .refl s

theorem deliverTInv_keeps (t : Int) (s : State) : Kept s (deliverTInv t s) := by
  have taken : Steady s (s.setMdr { s.mdr with tInv := some t }) := .of_fields (by simp)
  unfold deliverTInv
  dsimp only
  refine (taken.trans (refreshDerate_steady _)).kept.trans ?_
  split
  · exact raiseStop_keeps _ _ _
  · split
    · next h => exact precheckDecide_keeps t h.1
    · exact .refl _

theorem deliverScan_keeps (s : State) : Kept s (deliverScan s) := by
  have scanned : Steady s (s.setPkm { s.pkm with scanned := true }) := .of_fields (by simp)
  unfold deliverScan
  exact (scanned.kept.trans (deliverTInv_keeps _ _)).trans
    ((evaluate_steady _).trans ((chargeScan_steady _).trans (dockScan_steady _))).kept

theorem recordCells_steady (r : ScanReading) (s : State) : Steady s (recordCells r s) :=
  .of_fields (by simp [recordCells])

theorem watchScanEnd_motorKept (r : ScanReading) (s : State) : MotorKept s (watchScanEnd r s) := by
  have judged := ((recordCells_steady r s).kept.trans (protectCells_keeps s.pkm _)).toMotorKept.trans
    (judgeRelease_motorKept _)
  unfold watchScanEnd
  dsimp only
  split
  · exact judged.trans (shipEntry_keeps _).toMotorKept
  · exact judged

theorem onScanEnd_motorKept (sc : Scan) (r : ScanReading) (s : State) : MotorKept s (onScanEnd sc r s) := by
  have recorded : Steady s (recordOthers r (recordCells r s)) :=
    (recordCells_steady r s).trans (.of_fields (by simp [recordOthers]))
  have protect := (recorded.kept.trans (judgePackHot_keeps _)).trans (protectCells_keeps s.pkm _)
  have judged := (protect.toMotorKept.trans (judgeRelease_motorKept _)).trans (judgePackState_motorKept _)
  have moved (sc : Scan) (cut : Bool) (t : State) : Steady t (gaugeStep sc cut (moveAllowances sc t)) :=
    .of_fields (by simp [moveAllowances])
  have delivered (cut : Bool) := (judged.trans (moved sc cut _).motorKept).trans (deliverScan_keeps _).toMotorKept
  unfold onScanEnd
  dsimp only
  split
  · exact (delivered _).trans (shipEntry_keeps _).toMotorKept
  · exact delivered _

theorem scanEnd_keeps (r : ScanReading) (s : State) : Kept s (scanEnd r s) := by
  have begun : Steady s (match s.pkm.scan with
      | some _ => s
      | none => startScan s) := by
    split
    · exact .refl s
    · exact startScan_steady s
  have ended (t : State) (w : Seven Bool) : Steady t (t.setPkm { t.pkm with scan := none, switches := w }) :=
    .of_fields (by simp)
  have scanned (sc : Scan) (t : State) : MotorKept t (if sc.watch then watchScanEnd r t else onScanEnd sc r t) := by
    split
    · exact watchScanEnd_motorKept r t
    · exact onScanEnd_motorKept sc r t
  unfold scanEnd
  exact ((begun.trans (ended _ _)).motorKept.trans (scanned _ _)).refreshed

/-! ### The parameters (R181) -/

theorem expirePrecharge_steady (s : State) : Steady s (expirePrecharge s) := by
  unfold expirePrecharge
  split
  · exact raiseChargeStop_steady _ _ s
  · exact .refl s

theorem expireCharge_steady (s : State) : Steady s (expireCharge s) := by
  unfold expireCharge
  split
  · exact raiseChargeStop_steady _ _ s
  · exact .refl s

theorem expireBalance_steady (s : State) : Steady s (expireBalance s) := by
  unfold expireBalance
  split
  · next h => exact (Steady.of_fields (by simp)).trans (enterDone_steady _ _ (by simp [h.1]))
  · exact .refl s

theorem writeTriggerMode_keeps (m : TriggerMode) (s : State) : Kept s (writeTriggerMode m s) := by
  unfold writeTriggerMode
  split
  · exact .refl s
  · exact MotorKept.refreshed ⟨fun h => h, fun h => h⟩

theorem paramWrite_keeps (p : Param) (v : Int) (s : State) : Kept s (p.write v s) := by
  cases p
  case blockTime => exact Kept.trans (Steady.of_fields (by simp)).kept (expireBlock_keeps _)
  case retryTime => exact Kept.trans (Steady.of_fields (by simp)).kept (expireRetry_steady _).kept
  case triggerMode => exact writeTriggerMode_keeps _ s
  case invDerateStart => exact (Steady.trans (.of_fields (by simp)) (refreshDerate_steady _)).kept
  case invCut => exact (Steady.trans (.of_fields (by simp)) (refreshDerate_steady _)).kept
  case reserve => exact (Steady.trans (.of_fields (by simp)) (evaluate_steady _)).kept
  case chargeCurrent => exact (Steady.trans (.of_fields (by simp)) (capSetpoint_steady _)).kept
  case prechargeTimeout => exact (Steady.trans (.of_fields (by simp)) (expirePrecharge_steady _)).kept
  case chargeTimeout => exact (Steady.trans (.of_fields (by simp)) (expireCharge_steady _)).kept
  case balanceTimeout => exact (Steady.trans (.of_fields (by simp)) (expireBalance_steady _)).kept
  all_goals exact (Steady.of_fields (by simp [Param.write, writeIMax])).kept

/-! ### Requests (R176) -/

/-- What a block serves keeps the resolver sound, and run demand and the motor in step. -/
def Serves (serve : State → Served) : Prop := ∀ s, Kept s (serve s).state

/-- A refusal, or an answer that changes nothing. -/
theorem answered_keeps (status : StatusCode) (body : ReplyBody) (s : State) : Kept s (answered status body s).state :=
  .refl s

theorem serveSetKnown_keeps (id : Byte) (p : Param) (value : BitVec 32) : Serves (serveSetKnown id p value) := by
  intro s
  unfold serveSetKnown
  repeat' split
  · exact .refl s
  · exact paramWrite_keeps p _ s
  · exact .refl s
  · exact paramWrite_keeps p _ s

theorem serveSetParam_keeps (id : Byte) (value : BitVec 32) : Serves (serveSetParam id value) := by
  intro s
  unfold serveSetParam
  split
  · exact serveSetKnown_keeps id _ value s
  · exact .refl s

theorem serveGetParam_keeps (id : Byte) : Serves (serveGetParam id) := by
  intro s
  unfold serveGetParam
  split <;> exact .refl s

theorem serveStatus_keeps : Serves serveStatus := fun _ => (Steady.of_fields (by simp [serveStatus, answered])).kept

theorem serveNoticeMask_keeps (enables : BitVec 16) : Serves (serveNoticeMask enables) := by
  intro s
  refine (Steady.of_fields ?_).kept
  unfold serveNoticeMask
  dsimp only
  repeat' split
  all_goals simp [answered, refuse]

theorem serveSleep_keeps : Serves serveSleep := by
  intro s
  unfold serveSleep
  split
  · exact (Steady.of_fields (by simp [answered])).kept
  · exact .refl s

theorem serveShip_keeps : Serves serveShip := by
  intro s
  unfold serveShip
  split
  · exact (Steady.of_fields (by simp [answered])).kept
  · exact .refl s

theorem serveCellResetMinmax_keeps : Serves serveCellResetMinmax := fun _ =>
  (Steady.of_fields (by simp [serveCellResetMinmax, answered])).kept

theorem serveGaugeAdjust_keeps (delta : BitVec 16) : Serves (serveGaugeAdjust delta) := fun _ =>
  (Steady.of_fields (by simp [serveGaugeAdjust, answered])).kept

theorem serveChargeEnable_keeps : Serves serveChargeEnable := by
  intro s
  have enabled : Steady s (s.setChc { s.chc with enabled := true }) := .of_fields (by simp)
  unfold serveChargeEnable chargeAnswered answered
  dsimp only
  split
  · next h => exact (enabled.trans ((changeCharge_steady_docked _ _ _ _ h.2).trans (judgeQualify_steady _))).kept
  · exact enabled.kept

theorem serveChargeDisable_keeps : Serves serveChargeDisable := by
  intro s
  have disabled : Steady s (s.setChc { s.chc with enabled := false }) := .of_fields (by simp)
  unfold serveChargeDisable chargeAnswered answered
  dsimp only
  split
  · exact disabled.kept
  · refine MotorKept.refreshed (disabled.motorKept.trans (MotorKept.trans ?_ (handRelease_steady _ _).motorKept))
    exact (changeCharge_resolverKept _ _ _ _).motorKept (by simp) (by simp)

theorem serveChargePause_keeps : Serves serveChargePause := by
  intro s
  have paused : Steady s (s.setChc { s.chc with pause := true }) := .of_fields (by simp)
  have held (t : State) : Steady t (t.setChc { t.chc with suspend := { t.chc.suspend with host := true } }) :=
    .of_fields (by simp)
  unfold serveChargePause chargeAnswered
  split
  · exact .refl s
  · refine paused.kept.trans (Steady.kept ?_)
    simp only [answered]
    split
    · next h => exact enterSuspend_steady _ _ (charging_not_idle h)
    · split
      · exact held _
      · exact .refl _

theorem serveChargeResume_keeps : Serves serveChargeResume := by
  intro s
  have resumed : Steady s (s.setChc { s.chc with pause := false }) := .of_fields (by simp)
  unfold serveChargeResume chargeAnswered
  dsimp only
  repeat' split
  · exact (resumed.trans ((Steady.of_fields (by simp)).trans ((resumeIfClear_steady _).trans (judgeQualify_steady _)))).kept
  · exact resumed.kept
  · exact .refl s

theorem serveChargeClear_keeps : Serves serveChargeClear := by
  intro s
  unfold serveChargeClear chargeAnswered
  split
  · next h => exact ((changeCharge_steady _ _ _ s (by simp [h]) (by simp)).trans (judgeQualify_steady _)).kept
  · exact .refl s

theorem serveCounterSetup_keeps (k source : Byte) (threshold : BitVec 32) (options start : Byte) :
    Serves (serveCounterSetup k source threshold options start) := by
  intro s
  refine (Steady.of_fields ?_).kept
  unfold serveCounterSetup
  dsimp only
  repeat' split
  all_goals simp [answered, refuse]

theorem serveCounterAdjust_keeps (k : Byte) (delta : BitVec 32) : Serves (serveCounterAdjust k delta) := by
  intro s
  refine (Steady.of_fields ?_).kept
  unfold serveCounterAdjust
  dsimp only
  repeat' split
  all_goals simp [answered, refuse]

theorem serveRunStart_keeps : Serves serveRunStart := by
  intro s
  unfold serveRunStart
  split
  · exact .refl s
  · exact .refl s
  · exact MotorKept.refreshed ⟨fun h => h, fun h => h⟩

theorem serveRunStop_keeps : Serves serveRunStop := fun _ => MotorKept.refreshed ⟨fun h => h, fun h => h⟩

theorem serveStepSelect_keeps (step : Byte) : Serves (serveStepSelect step) := by
  intro s
  unfold serveStepSelect
  split
  · exact .refl s
  · next st _ =>
    have selected : Kept s (s.setDrs { s.drs with step := st }) := ⟨⟨fun h => h, fun h => h⟩, fun h _ => h⟩
    exact selected.trans (evaluate_steady _).kept

/-- A write of the resolver that leaves the claims and the record. -/
theorem Kept.of_edit {s : State} (d : Drs) (h : d.triggerClaim = s.drs.triggerClaim ∧ d.hostClaim = s.drs.hostClaim ∧
    d.record = s.drs.record) (sound : ProfileSound s.drs → ProfileSound d) : Kept s (s.setDrs d) := by
  obtain ⟨trigger, host, record⟩ := h
  refine ⟨⟨fun ⟨profile, k⟩ => ⟨sound profile, by simpa [record] using k⟩, fun k => ?_⟩, fun k _ => ?_⟩
  · simpa [MotorFollows, record] using k
  · have same : firstInhibit (s.setDrs d) = firstInhibit s := rfl
    simpa [DemandFollows, wantsToRun, same, trigger, host, record] using k

theorem serveEditBegin_keeps (label : Byte) : Serves (serveEditBegin label) := by
  intro s
  unfold serveEditBegin
  split
  · exact .refl s
  · refine Kept.of_edit _ ⟨rfl, rfl, rfl⟩ fun ⟨failure, range, _⟩ => ⟨failure, range, ?_⟩
    rintro e ⟨⟩
    exact range

theorem clampNat_range (lo hi : Nat) (v : Int) (h : lo ≤ hi) : lo ≤ clampNat lo hi v ∧ clampNat lo hi v ≤ hi := by
  unfold clampNat clampInt
  omega

theorem stepWrite_inRange (st : Step) (g : StepField) (v : Int) {x : StepSettings} (h : StepInRange x) :
    StepInRange (x.write g (clampNat (ProfileField.step st g).range.1.toNat (ProfileField.step st g).range.2.toNat v)) := by
  simp only [StepInRange] at h ⊢
  cases g
  case speed =>
    have := clampNat_range 20000 125000 v (by omega)
    exact ⟨this.1, this.2, h.2.2⟩
  case limit =>
    have := clampNat_range 2000 35000 v (by omega)
    exact ⟨h.1, h.2.1, this.1, this.2, h.2.2.2.2⟩
  case boostEnable => exact h
  case boostMax =>
    have := clampNat_range 0 40000 v (by omega)
    exact ⟨h.1, h.2.1, h.2.2.1, h.2.2.2.1, this.2⟩

/-- A field is written within its range (R10, R13). -/
theorem profileWrite_inRange (f : ProfileField) (v : Int) {p : Profile} (h : ProfileInRange p) :
    ProfileInRange (p.write f (clampNat f.range.1.toNat f.range.2.toNat v)) := by
  obtain ⟨eco, standard, max, threshold, slope, up, up', down, down', blocked, blocked'⟩ := h
  cases f with
  | step st g =>
    cases st
    case eco => exact ⟨stepWrite_inRange .eco g v eco, standard, max, threshold, slope, up, up', down, down', blocked, blocked'⟩
    case standard => exact ⟨eco, stepWrite_inRange .standard g v standard, max, threshold, slope, up, up', down, down', blocked, blocked'⟩
    case max => exact ⟨eco, standard, stepWrite_inRange .max g v max, threshold, slope, up, up', down, down', blocked, blocked'⟩
  | boostThreshold =>
    exact ⟨eco, standard, max, (clampNat_range 0 255 v (by omega)).2, slope, up, up', down, down', blocked, blocked'⟩
  | boostSlope =>
    exact ⟨eco, standard, max, threshold, (clampNat_range 0 1000 v (by omega)).2, up, up', down, down', blocked, blocked'⟩
  | upRate =>
    obtain ⟨lo, hi⟩ := clampNat_range 1 200 v (by omega)
    exact ⟨eco, standard, max, threshold, slope, lo, hi, down, down', blocked, blocked'⟩
  | downRate =>
    obtain ⟨lo, hi⟩ := clampNat_range 1 400 v (by omega)
    exact ⟨eco, standard, max, threshold, slope, up, up', lo, hi, blocked, blocked'⟩
  | blockedSpeed =>
    obtain ⟨lo, hi⟩ := clampNat_range 20000 60000 v (by omega)
    exact ⟨eco, standard, max, threshold, slope, up, up', down, down', lo, hi⟩

theorem serveEditSet_keeps (field : Byte) (value : BitVec 32) : Serves (serveEditSet field value) := by
  intro s
  unfold serveEditSet
  split
  · exact .refl s
  · next e opened =>
    split
    · exact .refl s
    · split
      · exact .refl s
      · refine Kept.of_edit _ ⟨rfl, rfl, rfl⟩ fun ⟨failure, range, edit⟩ => ⟨failure, range, ?_⟩
        rintro _ ⟨⟩
        exact profileWrite_inRange _ _ (edit e opened)

theorem serveEditCommit_keeps : Serves serveEditCommit := by
  intro s
  unfold serveEditCommit
  split
  · exact .refl s
  · next e opened =>
    split
    · exact .refl s
    · next passed =>
      have committed : Kept s (s.setDrs { s.drs with profile := e.profile, edit := none }) := by
        refine Kept.of_edit _ ⟨rfl, rfl, rfl⟩ fun ⟨_, _, edit⟩ => ⟨passed, edit e opened, ?_⟩
        rintro _ ⟨⟩
      exact committed.trans (evaluate_steady _).kept

theorem serveEditAbort_keeps : Serves serveEditAbort := by
  intro s
  unfold serveEditAbort
  split
  · exact .refl s
  · refine Kept.of_edit _ ⟨rfl, rfl, rfl⟩ fun ⟨failure, range, _⟩ => ⟨failure, range, ?_⟩
    rintro _ ⟨⟩

theorem serveTripClear_keeps : Serves serveTripClear := by
  intro s
  unfold serveTripClear
  split
  · exact .refl s
  · next h =>
    split
    · exact .refl s
    · split
      · exact .refl s
      · exact (clearTrip_motorKept .host (by simpa using h)).refreshed

theorem serveFaultRead_keeps (clearCounts : Byte) : Serves (serveFaultRead clearCounts) := by
  intro s
  refine (Steady.of_fields ?_).kept
  unfold serveFaultRead
  repeat' split
  all_goals simp [answered, refuse]

theorem serveBandMode_keeps (mode : Byte) : Serves (serveBandMode mode) := by
  intro s
  unfold serveBandMode
  split
  · exact .refl s
  · exact (Steady.of_fields (by simp [answered])).kept

theorem serveBandClear_keeps : Serves serveBandClear := by
  intro s
  unfold serveBandClear
  split
  · exact .refl s
  · exact (Steady.of_fields (by simp [answered])).kept

theorem serveBandRead_keeps (index : Byte) : Serves (serveBandRead index) := by
  intro s
  unfold serveBandRead
  repeat' split
  all_goals exact .refl s

theorem serveBandWrite_keeps (index advance : Byte) (loadRef : BitVec 16) (flags : Byte) :
    Serves (serveBandWrite index advance loadRef flags) := by
  intro s
  refine (Steady.of_fields ?_).kept
  unfold serveBandWrite
  repeat' split
  all_goals simp [answered, refuse]

end Sys2Proof.Proofs

namespace Sys2Proof.Proofs

open Sys2Proof.Machine Sys2Proof.Safety

/-! ### The host line -/

theorem whilePowered_keeps {f : State → State} (h : ∀ s, Kept s (f s)) (s : State) : Kept s (whilePowered f s) := by
  unfold whilePowered
  split
  · exact .refl s
  · exact (h s).trans (beginTransmission_steady _).kept

theorem queueReply_steady (r : Reply) (s : State) : Steady s (queueReply r s) := .of_fields (by simp)

theorem setMpt_steady (m : Mpt) (s : State) : Steady s (s.setMpt m) := .of_fields (by simp)

theorem judgeRequest_keeps (kind tag : Byte) {serve : State → Served} (h : Serves serve) (s : State) :
    Kept s (judgeRequest kind tag serve s) := by
  unfold judgeRequest takeRequest
  dsimp only
  split
  · exact (setMpt_steady _ s).kept
  · split
    · exact (queueReply_steady _ s).kept
    · have served (m : Mpt) (r : Reply) : Kept s (queueReply r (serve (s.setMpt m)).state) :=
        ((setMpt_steady m s).kept.trans (h _)).trans (queueReply_steady _ _).kept
      split
      · exact (served _ _).trans (enterSleep_keeps _)
      · exact served _ _

theorem onHostFrame_keeps {f : State → State} (h : ∀ s, Kept s (f s)) (s : State) : Kept s (onHostFrame f s) := by
  refine whilePowered_keeps (fun t => ?_) s
  exact (((wakeIfAsleep_keeps .link t).trans (beginTransmission_steady _).kept).trans (h _)).trans (idleZero_steady _).kept

theorem onRequest_keeps (kind tag : Byte) {serve : State → Served} (h : Serves serve) (s : State) :
    Kept s (onRequest kind tag serve s) :=
  onHostFrame_keeps (fun t => (setMpt_steady _ t).kept.trans (judgeRequest_keeps kind tag h _)) s

theorem discardFrame_steady (reason : DiscardReason) (s : State) : Steady s (discardFrame reason s) :=
  .of_fields (by simp)

theorem serveChargeControl_keeps (action : Byte) : Serves (serveChargeControl action) := by
  intro s
  unfold serveChargeControl
  split
  · exact serveChargeEnable_keeps s
  · exact serveChargeDisable_keeps s
  · exact serveChargePause_keeps s
  · exact serveChargeResume_keeps s
  · exact serveChargeClear_keeps s
  · exact .refl s

/-- Every request of the catalogue is served by one of the blocks (12.6). -/
theorem requestServed_keeps {kind : Nat} {payload : List Byte} (known : knownKind kind = true) {serve : State → Served}
    (h : requestServed kind payload = some serve) : Serves serve := by
  have bound : kind ≤ 0x32 := by simp [knownKind] at known; omega
  interval_cases kind
  all_goals
    rcases payload with
      _ | ⟨a, _ | ⟨b, _ | ⟨c, _ | ⟨d, _ | ⟨e, _ | ⟨f, _ | ⟨g, _ | ⟨i, _ | l⟩⟩⟩⟩⟩⟩⟩⟩
  all_goals cases h
  · exact fun s => .refl s
  · exact serveStatus_keeps
  · exact serveGetParam_keeps _
  · exact serveSetParam_keeps _ _
  · exact serveNoticeMask_keeps _
  · exact serveSleep_keeps
  · exact serveShip_keeps
  · exact serveRunStart_keeps
  · exact serveRunStop_keeps
  · exact serveStepSelect_keeps _
  · exact serveEditBegin_keeps _
  · exact serveEditSet_keeps _ _
  · exact serveEditCommit_keeps
  · exact serveEditAbort_keeps
  · exact fun s => .refl s
  · exact serveTripClear_keeps
  · exact serveFaultRead_keeps _
  · exact serveBandMode_keeps _
  · exact serveBandClear_keeps
  · exact serveBandRead_keeps _
  · exact serveBandWrite_keeps _ _ _ _
  · exact fun s => .refl s
  · exact fun s => .refl s
  · exact serveCellResetMinmax_keeps
  · exact fun s => .refl s
  · exact serveGaugeAdjust_keeps _
  · exact serveChargeControl_keeps _
  · exact fun s => .refl s
  · exact fun s => .refl s
  · exact serveCounterSetup_keeps _ _ _ _ _
  · exact fun s => .refl s
  · exact serveCounterAdjust_keeps _ _

theorem serveFrame_keeps (kind : Byte) (payload : List Byte) : Serves (serveFrame kind payload) := by
  intro s
  unfold serveFrame
  split
  · next known =>
    split
    · next serve h => exact requestServed_keeps known h s
    · exact .refl s
  · exact .refl s

theorem dispatchFrame_keeps (kind tag : Byte) (payload : List Byte) (s : State) :
    Kept s (dispatchFrame kind tag payload s) := by
  unfold dispatchFrame
  split
  · exact resetRequest_keeps tag s
  · exact judgeRequest_keeps kind tag (serveFrame_keeps kind payload) s

theorem completeFrame_keeps (bytes : List Byte) (s : State) : Kept s (completeFrame bytes s) := by
  unfold completeFrame
  dsimp only
  repeat' split
  · exact (setMpt_steady _ s).kept.trans (dispatchFrame_keeps _ _ _ _)
  · exact (discardFrame_steady _ s).kept
  · exact .refl s

theorem frameByte_keeps (bytes : List Byte) (s : State) : Kept s (frameByte bytes s) := by
  unfold frameByte
  split
  · split
    · exact (discardFrame_steady _ s).kept
    · exact (setMpt_steady _ s).kept
  · split
    · exact (discardFrame_steady _ s).kept
    · exact (setMpt_steady _ s).kept
  · exact (setMpt_steady _ s).kept
  · split
    · exact completeFrame_keeps _ s
    · exact (setMpt_steady _ s).kept
  · exact .refl s

theorem receiveByte_keeps (byte : Byte) (stopBit : Bool) (s : State) : Kept s (receiveByte byte stopBit s) := by
  unfold receiveByte
  repeat' split
  · exact (setMpt_steady _ s).kept
  · exact .refl s
  · exact frameByte_keeps _ s
  · exact (discardFrame_steady _ s).kept

theorem linkActivity_steady (before after : State) : Steady after (linkActivity before after) := by
  unfold linkActivity
  split
  · exact idleZero_steady after
  · exact .refl after

theorem replyEnded_keeps (r : Reply) (s : State) : Kept s (replyEnded r s) := by
  unfold replyEnded
  dsimp only
  split
  · exact (setMpt_steady _ s).kept
  · exact ((setMpt_steady _ s).trans (setMpt_steady _ _)).kept.trans (makeEntry_keeps _)

/-! ### The events of the motor (R25 to R41) -/

/-- A write of the Motor Drive that leaves its state. -/
theorem setMdr_steady {m : Mdr} {s : State} (h : m.state = s.mdr.state) (k : m.startPending = s.mdr.startPending) :
    Steady s (s.setMdr m) := .of_fields ⟨rfl, h, k, rfl, rfl, rfl, rfl⟩

@[simp] theorem startSequence_stands (sector : Nat) (m : Mdr) :
    (startSequence sector m).state = m.state ∧ (startSequence sector m).startPending = m.startPending := ⟨rfl, rfl⟩

@[simp] theorem restartCatch_stands (m : Mdr) :
    (restartCatch m).state = m.state ∧ (restartCatch m).startPending = m.startPending := ⟨rfl, rfl⟩

@[simp] theorem observeCrossing_stands (sector t : Nat) (m : Mdr) :
    (observeCrossing sector t m).state = m.state ∧ (observeCrossing sector t m).startPending = m.startPending := by
  unfold observeCrossing
  split <;> exact ⟨rfl, rfl⟩

@[simp] theorem rampTicked_stands (blankFrac : Nat) (m : Mdr) :
    (rampTicked blankFrac m).state = m.state ∧ (rampTicked blankFrac m).startPending = m.startPending := by
  unfold rampTicked
  dsimp only
  split <;> exact ⟨rfl, rfl⟩

theorem observed_steady (sector t : Nat) (s : State) : Steady s (s.setMdr (observeCrossing sector t s.mdr)) :=
  setMdr_steady (by simp) (by simp)

theorem runs_of_state {s : State} {m : MotorState} (h : s.mdr.state = m) (k : runningMotor m = true) :
    Runs s.mdr.state s.mdr.startPending := .inl (h ▸ k)

theorem coastCrossing_keeps (sector t : Nat) {s : State} (h : s.mdr.state = .coast) :
    Kept s (coastCrossing sector t s) := by
  unfold coastCrossing
  dsimp only
  split
  · exact (observed_steady sector t s).kept.trans (coastEnd_keeps _ (by simpa using h))
  · exact (observed_steady sector t s).kept

theorem catchCrossing_keeps (sector t : Nat) {s : State} (h : s.mdr.state = .catching) :
    Kept s (catchCrossing sector t s) := by
  unfold catchCrossing
  split
  · exact (setMdr_steady (by simp) (by simp)).kept
  · split
    · exact (setMdr_steady (by simp) (by simp)).kept
    · dsimp only
      generalize (if 6 ≤ (observeCrossing sector t s.mdr).crossings then none
        else (observeCrossing sector t s.mdr).catchLimit) = limit
      have observed : Steady s (s.setMdr { observeCrossing sector t s.mdr with catchLimit := limit }) :=
        setMdr_steady (by simp) (by simp)
      split
      · exact observed.kept.trans (enterRunCaught_keeps (runs_of_state (m := .catching) (by simpa using h) rfl))
      · exact observed.kept

theorem rampCrossing_keeps (t d : Nat) {s : State} (h : s.mdr.state = .ramp) : Kept s (rampCrossing t d s) := by
  have seen (n : Nat) : Steady s (s.setMdr { s.mdr with seen := true, windowShut := true, crossings := n }) :=
    setMdr_steady rfl rfl
  unfold rampCrossing
  dsimp only
  split
  · exact (seen _).kept.trans (enterHandover_keeps t d (runs_of_state (m := .ramp) h rfl))
  · exact (seen _).kept

theorem handoverCrossing_keeps (t d : Nat) {s : State} (h : s.mdr.state = .handover) :
    Kept s (handoverCrossing t d s) := by
  have counted : Steady s (s.setMdr { s.mdr with handoverCount := s.mdr.handoverCount + 1 }) := setMdr_steady rfl rfl
  unfold handoverCrossing
  dsimp only
  refine counted.kept.trans (Kept.trans ?_ (scheduleCrossing_steady t d _).kept)
  split
  · exact enterRun_keeps (runs_of_state (m := .handover) h rfl)
  · exact .refl _

theorem crossing_keeps (phase : Phase) (rising : Bool) (t d : Nat) (s : State) :
    Kept s (crossing phase rising t d s) := by
  unfold crossing
  dsimp only
  split
  · exact (observed_steady _ _ s).kept
  · next h => exact catchCrossing_keeps _ _ h
  · next h => exact coastCrossing_keeps _ _ h
  · next h =>
    split
    · exact rampCrossing_keeps t d h
    · exact .refl s
  · next h =>
    split
    · exact handoverCrossing_keeps t d h
    · exact .refl s
  · split
    · exact (scheduleCrossing_steady t d s).kept
    · exact .refl s
  · exact .refl s

theorem precheckEnd_keeps (s : State) : Kept s (precheckEnd s) := by
  unfold precheckEnd
  split
  · next h =>
    split
    · exact precheckDecide_keeps _ h
    · have held : Steady s (s.setMdr { s.mdr with precheckHeld := true }) := setMdr_steady rfl rfl
      exact held.kept
  · exact .refl s

theorem rampAccelerated_keeps {s : State} (h : s.mdr.state = .ramp) : Kept s (rampAccelerated s) := by
  have grown (inc : BitVec 16) : Steady s (s.setMdr { s.mdr with rampInc := inc, speed := rampSpeed inc }) :=
    setMdr_steady rfl rfl
  unfold rampAccelerated
  dsimp only
  split
  · exact (grown _).kept.trans (startFail_keeps _ (runs_of_state (m := .ramp) h rfl))
  · exact (grown _).kept

theorem scheduledCommutation_steady (im : Int) (s : State) : Steady s (scheduledCommutation im s) := by
  unfold scheduledCommutation
  repeat' split
  · exact commutate_steady _ im s
  · exact .refl s
  · exact .refl s

theorem missedCrossing_keeps (im : Int) {s : State} (h : s.mdr.state = .run) : Kept s (missedCrossing im s) := by
  have missed (t : State) : Steady t (t.setMdr { t.mdr with misses := t.mdr.misses + 1 }) := setMdr_steady rfl rfl
  have closed := (commutate_steady (windowCloseTime s.mdr.ts) im s).trans (missed _)
  unfold missedCrossing
  dsimp only
  split
  · exact (closed.kept.trans (raiseSyncLoss_keeps (runs_of_state (m := .run) (closed.motor.trans h) rfl))).toMotorKept.refreshed
  · exact closed.kept

theorem windowClosed_keeps (im : Int) (s : State) : Kept s (windowClosed im s) := by
  unfold windowClosed
  split
  · exact .refl s
  · have shut : Steady s (s.setMdr { s.mdr with windowShut := true }) := setMdr_steady rfl rfl
    split
    · exact shut.kept
    · next h => exact (startFail_keeps _ (runs_of_state h rfl)).toMotorKept.refreshed
    · next h => exact missedCrossing_keeps im h
    · exact .refl s

theorem rotorStopped_keeps (s : State) : Kept s (rotorStopped s) := by
  have quiet : Steady s (s.setMdr { s.mdr with quiet := true, speed := 0 }) := setMdr_steady rfl rfl
  unfold rotorStopped
  dsimp only
  split
  · next h => exact quiet.kept.trans (coastEnd_keeps _ h)
  · exact quiet.kept
  · exact quiet.kept
  · exact .refl s

theorem overcurrent_keeps (s : State) : Kept s (overcurrent s) := by
  have off : Steady s (s.setMdr { s.mdr with gates := none }) := setMdr_steady rfl rfl
  unfold overcurrent
  split
  · exact (off.kept.trans (raiseStop_keeps _ _ _)).toMotorKept.refreshed
  · split
    · exact raiseStop_keeps _ _ s
    · exact .refl s

/-! ### The trigger (R1 to R5, R171) -/

/-- The trigger claim set, with the re-arm flag; run demand is recomputed after it. -/
theorem claimed_motorKept (claim : Bool) (g : Trg) (s : State) :
    MotorKept s ((s.setDrs { s.drs with triggerClaim := claim }).setTrg g) := ⟨fun h => h, fun h => h⟩

theorem raiseTriggerNotice_steady (edge : Level) (inhibited : Bool) (cause : Option Inhibit) (s : State) :
    Steady s (raiseTriggerNotice edge inhibited cause s) := .of_fields (by simp [raiseTriggerNotice])

theorem triggerPress_motorKept (s : State) : MotorKept s (triggerPress s) := by
  unfold triggerPress
  repeat' split
  · exact (claimed_motorKept false _ s).trans (raiseTriggerNotice_steady _ _ _ _).motorKept
  · exact (raiseTriggerNotice_steady _ _ _ _).motorKept
  · exact (claimed_motorKept _ s.trg s).trans (raiseTriggerNotice_steady _ _ _ _).motorKept

theorem lenientClear_motorKept (s : State) : MotorKept s (lenientClear s) := by
  unfold lenientClear
  split
  · next h => exact clearTrip_motorKept _ h.1
  · exact (Kept.refl s).toMotorKept

theorem triggerRelease_motorKept (s : State) : MotorKept s (triggerRelease s) := by
  unfold triggerRelease
  exact ((claimed_motorKept _ _ s).trans (raiseTriggerNotice_steady _ _ _ _).motorKept).trans (lenientClear_motorKept _)

theorem setTrg_steady (g : Trg) (s : State) : Steady s (s.setTrg g) := .of_fields (by simp)

theorem triggerEdge_keeps (level : Level) (s : State) : Kept s (triggerEdge level s) := by
  unfold triggerEdge
  split
  · exact (wakeIfAsleep_keeps .trigger s).trans ((triggerPress_motorKept _).refreshed.trans (idleZero_steady _).kept)
  · split
    · exact (setTrg_steady _ s).kept
    · exact (triggerRelease_motorKept s).refreshed.trans (idleZero_steady _).kept

theorem debounced_keeps (s : State) : Kept s (debounced s) := by
  unfold debounced
  split
  · exact (setTrg_steady _ s).kept
  · split
    · exact .refl s
    · exact Kept.trans (setTrg_steady _ s).kept (triggerEdge_keeps _ _)

/-! ### A step -/

theorem clearTimer_keeps (d : Prop) [Decidable d] (r : BlockageReason) (s : State) :
    Kept s (if d then clearBlockage r s else s) := by
  split
  · exact (clearBlockage_steady r s).kept
  · exact .refl s

theorem setDlk_steady {d : Dlk} {s : State} (h : d.state = s.dlk.state) : Steady s (s.setDlk d) :=
  .of_fields ⟨rfl, rfl, rfl, h, rfl, rfl, rfl⟩

/-- A ms: the timers of the resolver's edit and of the motor move, and nothing run demand rests on (log 7). -/
theorem tickTimers_keeps (s : State) : Kept s (tickTimers s) where
  sound := fun ⟨⟨failure, range, edit⟩, record⟩ => by
    refine ⟨⟨failure, range, fun e h => ?_⟩, record⟩
    simp only [tickTimers, tickDrs, Option.map_eq_some_iff] at h
    obtain ⟨e', open', rfl⟩ := h
    exact edit e' open'
  motor := fun h => h
  demand := fun h _ => h

theorem tick_keeps (s : State) : Kept s (tick s) := by
  unfold tick
  split
  · exact .refl s
  · exact ((startAtOnce_keeps s).trans ((beginTransmission_steady _).kept.trans (tickTimers_keeps _))).trans
      (Steady.of_fields (by simp)).kept

end Sys2Proof.Proofs

namespace Sys2Proof.Proofs

open Sys2Proof.Machine Sys2Proof.Safety

/-- An event of a part that is not in SHIP. -/
theorem event_keeps {f : State → State} (h : ∀ s, Kept s (f s)) (s : State) :
    Yields (.next (whilePowered f s)) (Kept s) := ⟨_, rfl, whilePowered_keeps h s⟩

theorem request_keeps (kind tag : Byte) {serve : State → Served} (h : Serves serve) (s : State) :
    Yields (.next (onRequest kind tag serve s)) (Kept s) := ⟨_, rfl, onRequest_keeps kind tag h s⟩

/-- An event that acts where its moment has come, and is void otherwise. -/
theorem Kept.ite {s t : State} (b : Prop) [Decidable b] (h : b → Kept s t) : Kept s (if b then t else s) := by
  split
  · next k => exact h k
  · exact .refl s

theorem contact_steady (b : Bool) (l : Option Nat) (s : State) :
    Steady s (s.setDlk { s.dlk with contact := b, lossTimer := l }) := setDlk_steady rfl

/-- A motor that runs goes on to another state in which it runs. -/
theorem motorTo_on_keeps {new old : MotorState} (cause : MotorCause) {s : State} (h : s.mdr.state = old)
    (k : runningMotor old = true) (on : runningMotor new = true) : Kept s (motorTo new cause false s) :=
  motorTo_runs_keeps cause (runs_of_state h k) (.inl on) (by simp)

/-- A block that answers and changes nothing. -/
theorem serves_reading {serve : State → Served} (h : ∀ s, (serve s).state = s) : Serves serve := fun s => by
  rw [h s]
  exact .refl s

theorem execHostFrameReceived_keeps (kind tag : Byte) (payload : List Byte) (s : State) :
    Yields (execHostFrameReceived kind tag payload s) (Kept s) := by
  refine ⟨_, rfl, ?_⟩
  repeat' split
  · exact .refl s
  · exact whilePowered_keeps (resetRequest_keeps tag) s
  · exact onHostFrame_keeps (fun t => (discardFrame_steady _ t).kept) s
  · exact onHostFrame_keeps (fun t => (discardFrame_steady _ t).kept) s
  · exact onRequest_keeps kind tag (serveFrame_keeps kind payload) s

theorem execTransmitEnd_keeps (s : State) : Yields (execTransmitEnd s) (Kept s) := by
  refine event_keeps (fun t => ?_) s
  split
  · exact replyEnded_keeps _ t
  · exact (setMpt_steady _ t).kept
  · exact .refl t

theorem execDirtWindowEnd_keeps (amplitude level : Nat) (signal : List Nat) (s : State) :
    Yields (execDirtWindowEnd amplitude level signal s) (Kept s) := by
  refine event_keeps (fun t => ?_) s
  split
  · exact Kept.ite _ fun _ => (dirtWindowEnd_steady _ _ _ _ t).kept
  · exact .refl t

theorem execDockContactRise_keeps (s : State) : Yields (execDockContactRise s) (Kept s) := by
  refine ⟨_, rfl, ?_⟩
  split
  · exact (contact_steady true s.dlk.lossTimer s).kept.trans (powerReset_keeps .shipWake _)
  · exact whilePowered_keeps contactRisen_keeps s

theorem execDockLoss_keeps (s : State) : Yields (execDockLoss s) (Kept s) := by
  refine event_keeps (fun t => ?_) s
  split
  · exact (contact_steady false none t).kept
  · exact dockLoss_keeps t

theorem execContactVoltageFall_keeps (s : State) : Yields (execContactVoltageFall s) (Kept s) := by
  refine ⟨_, rfl, Kept.trans (setDlk_steady ?_).kept (whilePowered_keeps Kept.refl _)⟩
  rfl

theorem execTriggerRawChange_keeps (l : Level) (s : State) : Yields (execTriggerRawChange l s) (Kept s) := by
  refine ⟨_, rfl, ?_⟩
  split
  · exact whilePowered_keeps Kept.refl s
  · exact (setTrg_steady _ s).kept.trans (whilePowered_keeps Kept.refl _)

theorem execSeventhCellMeasured_keeps (s : State) : Yields (execSeventhCellMeasured s) (Kept s) := by
  refine event_keeps (fun t => ?_) s
  split
  · exact Kept.ite _ fun _ => (Steady.of_fields (by simp [seventhCell])).kept
  · exact .refl t

theorem execBandClearComplete_keeps (s : State) : Yields (execBandClearComplete s) (Kept s) :=
  event_keeps (fun _ => Kept.ite _ fun _ => (Steady.of_fields (by simp)).kept) s

theorem frameSent_state (d : Dlk) : (frameSent d).state = d.state := by
  unfold frameSent
  repeat' split
  all_goals rfl

theorem execShipWake_keeps (s : State) : Yields (execShipWake s) (Kept s) :=
  ⟨_, rfl, Kept.ite _ fun _ => (contact_steady true s.dlk.lossTimer s).kept.trans (powerReset_keeps .shipWake _)⟩

theorem execBrownout_keeps (s : State) : Yields (execBrownout s) (Kept s) := by
  refine ⟨_, rfl, ?_⟩
  split
  · exact .refl s
  · exact powerReset_keeps .brownout s

theorem execLinkWake_keeps (byte : Byte) (stopBit : Bool) (s : State) : Yields (execLinkWake byte stopBit s) (Kept s) :=
  event_keeps (fun t => ((wakeIfAsleep_keeps .link t).trans (beginTransmission_steady _).kept).trans
    ((receiveByte_keeps byte stopBit _).trans (linkActivity_steady _ _).kept)) s

/-- Every command leaves a sound resolver sound, and run demand and the motor in step. -/
theorem exec_keeps (c : Instr) (s : State) : Yields (exec c s) (Kept s) := by
  cases c with
  | identify tag => exact request_keeps _ tag (serves_reading fun _ => rfl) s
  | status tag => exact request_keeps _ tag serveStatus_keeps s
  | getParam tag id => exact request_keeps _ tag (serveGetParam_keeps id) s
  | setParam tag id value => exact request_keeps _ tag (serveSetParam_keeps id value) s
  | setTriggerMode tag value => exact request_keeps _ tag (serveSetKnown_keeps _ _ value) s
  | setOpticalMode tag value => exact request_keeps _ tag (serveSetKnown_keeps _ _ value) s
  | setEmitterCurrent tag value => exact request_keeps _ tag (serveSetKnown_keeps _ _ value) s
  | setEmitterCarrier tag value => exact request_keeps _ tag (serveSetKnown_keeps _ _ value) s
  | setFullCapacity tag value => exact request_keeps _ tag (serveSetKnown_keeps _ _ value) s
  | setIdleSleepS tag value => exact request_keeps _ tag (serveSetKnown_keeps _ _ value) s
  | setReserve tag value => exact request_keeps _ tag (serveSetKnown_keeps _ _ value) s
  | noticeMask tag enables => exact request_keeps _ tag (serveNoticeMask_keeps enables) s
  | reset tag => exact event_keeps (resetRequest_keeps tag) s
  | sleep tag => exact request_keeps _ tag serveSleep_keeps s
  | ship tag => exact request_keeps _ tag serveShip_keeps s
  | runStart tag => exact request_keeps _ tag serveRunStart_keeps s
  | runStop tag => exact request_keeps _ tag serveRunStop_keeps s
  | stepSelect tag st => exact request_keeps _ tag (serveStepSelect_keeps st) s
  | editBegin tag label => exact request_keeps _ tag (serveEditBegin_keeps label) s
  | editSet tag field value => exact request_keeps _ tag (serveEditSet_keeps field value) s
  | editCommit tag => exact request_keeps _ tag serveEditCommit_keeps s
  | editAbort tag => exact request_keeps _ tag serveEditAbort_keeps s
  | profileRead tag => exact request_keeps _ tag (serves_reading fun _ => rfl) s
  | tripClear tag => exact request_keeps _ tag serveTripClear_keeps s
  | faultRead tag clearCounts => exact request_keeps _ tag (serveFaultRead_keeps clearCounts) s
  | bandMode tag mode => exact request_keeps _ tag (serveBandMode_keeps mode) s
  | bandClear tag => exact request_keeps _ tag serveBandClear_keeps s
  | bandRead tag index => exact request_keeps _ tag (serveBandRead_keeps index) s
  | bandWrite tag index advance loadRef flags =>
    exact request_keeps _ tag (serveBandWrite_keeps index advance loadRef flags) s
  | dirtRead tag => exact request_keeps _ tag (serves_reading fun _ => rfl) s
  | cellRead tag => exact request_keeps _ tag (serves_reading fun _ => rfl) s
  | cellResetMinmax tag => exact request_keeps _ tag serveCellResetMinmax_keeps s
  | gaugeRead tag => exact request_keeps _ tag (serves_reading fun _ => rfl) s
  | gaugeAdjust tag delta => exact request_keeps _ tag (serveGaugeAdjust_keeps delta) s
  | chargeEnable tag => exact request_keeps _ tag serveChargeEnable_keeps s
  | chargeDisable tag => exact request_keeps _ tag serveChargeDisable_keeps s
  | chargePause tag => exact request_keeps _ tag serveChargePause_keeps s
  | chargeResume tag => exact request_keeps _ tag serveChargeResume_keeps s
  | chargeClear tag => exact request_keeps _ tag serveChargeClear_keeps s
  | chargeRead tag => exact request_keeps _ tag (serves_reading fun _ => rfl) s
  | dockRead tag => exact request_keeps _ tag (serves_reading fun _ => rfl) s
  | counterSetup tag k source threshold options start =>
    exact request_keeps _ tag (serveCounterSetup_keeps k source threshold options start) s
  | counterRead tag => exact request_keeps _ tag (serves_reading fun _ => rfl) s
  | counterAdjust tag k delta => exact request_keeps _ tag (serveCounterAdjust_keeps k delta) s
  | hostFrameReceived kind tag payload => exact execHostFrameReceived_keeps kind tag payload s
  | hostFrameDiscard reason => exact ⟨_, rfl, onHostFrame_keeps (fun t => (discardFrame_steady reason t).kept) s⟩
  | hostFrameGap =>
    exact event_keeps (fun t => ((beginTransmission_steady t).trans
      ((discardFrame_steady .gap _).trans (idleZero_steady _))).kept) s
  | linkWake byte stopBit => exact execLinkWake_keeps byte stopBit s
  | transmitEnd => exact execTransmitEnd_keeps s
  | triggerDebounce => exact event_keeps debounced_keeps s
  | editTimeout => exact event_keeps (fun t => Kept.ite _ fun _ => abortEdit_keeps .timeout t) s
  | precheckEnd => exact event_keeps precheckEnd_keeps s
  | alignEnd =>
    exact event_keeps (fun _ => Kept.ite _ fun h => motorTo_on_keeps _ h rfl rfl) s
  | rampTick =>
    exact event_keeps (fun _ => Kept.ite _ fun _ => (setMdr_steady (by simp) (by simp)).kept) s
  | rampAccelTick => exact event_keeps (fun _ => Kept.ite _ fun h => rampAccelerated_keeps h) s
  | rampTimeout =>
    exact event_keeps (fun _ => Kept.ite _ fun h => (startFail_keeps _ (runs_of_state h rfl)).toMotorKept.refreshed) s
  | restartWaitEnd =>
    exact event_keeps (fun _ => Kept.ite _ fun h => motorTo_on_keeps _ h rfl rfl) s
  | bemfCrossing phase rising t d => exact event_keeps (crossing_keeps phase rising t d) s
  | commutation im => exact event_keeps (fun t => (scheduledCommutation_steady im t).kept) s
  | windowClose im => exact event_keeps (windowClosed_keeps im) s
  | catchLimitExpiry =>
    exact event_keeps (fun _ => Kept.ite _ fun h =>
      motorTo_runs_keeps _ (runs_of_state h.1 rfl) (.inr ⟨rfl, rfl⟩) fun _ => rfl) s
  | rotorStopTimeout => exact event_keeps rotorStopped_keeps s
  | coastTimeout => exact event_keeps (fun _ => Kept.ite _ fun h => coastEnd_keeps _ h) s
  | ocHw => exact event_keeps overcurrent_keeps s
  | bandClearComplete => exact execBandClearComplete_keeps s
  | blockTimerExpiry => exact event_keeps expireBlock_keeps s
  | retryTimerExpiry => exact event_keeps (fun t => (expireRetry_steady t).kept) s
  | clearTimerExpiry => exact event_keeps (fun t => clearTimer_keeps _ _ t) s
  | noReferenceTimerExpiry => exact event_keeps (fun t => clearTimer_keeps _ _ t) s
  | normalTimerExpiry => exact event_keeps (fun _ => Kept.ite _ fun _ => (Steady.of_fields (by simp)).kept) s
  | dirtWindowEnd amplitude level signal => exact execDirtWindowEnd_keeps amplitude level signal s
  | scanStart => exact event_keeps (fun t => (startDueScan_steady t).kept) s
  | scanEnd reading => exact event_keeps (scanEnd_keeps reading) s
  | prechargeTimeout => exact event_keeps (fun t => (expirePrecharge_steady t).kept) s
  | chargeTimeout => exact event_keeps (fun t => (expireCharge_steady t).kept) s
  | balanceTimeout => exact event_keeps (fun t => (expireBalance_steady t).kept) s
  | dockContactRise => exact execDockContactRise_keeps s
  | dockLoss => exact execDockLoss_keeps s
  | settleTimerExpiry =>
    exact event_keeps (fun _ => Kept.ite _ fun h => (enterGreeting_steady _ (by simp [h])).kept) s
  | dockFrameSent => exact event_keeps (fun t => (setDlk_steady (frameSent_state t.dlk)).kept) s
  | dockFrameReceived bytes => exact event_keeps (fun t => Kept.ite _ fun _ => (dockFrameTaken_steady bytes t).kept) s
  | dockFrameAbandon => exact event_keeps (fun t => Kept.ite _ fun _ => (abandonReception_steady t).kept) s
  | dockReplyTimeout => exact event_keeps (fun t => (replyTimeout_steady t).kept) s
  | keepTimerExpiry => exact event_keeps (fun t => Kept.ite _ fun _ => (keepDue_steady t).kept) s
  | dockRetryExpiry =>
    exact event_keeps (fun _ => Kept.ite _ fun h => (enterGreeting_steady _ (by simp [h])).kept) s
  | idleTimerExpiry => exact event_keeps (fun t => Kept.ite _ fun _ => enterSleep_keeps t) s
  | powerOn => exact ⟨_, rfl, powerReset_keeps .powerOn s⟩
  | brownout => exact execBrownout_keeps s
  | shipWake => exact execShipWake_keeps s
  | triggerRawChange l => exact execTriggerRawChange_keeps l s
  | contactVoltageFall => exact execContactVoltageFall_keeps s
  | dockReceptionBegin => exact event_keeps (fun t => Kept.ite _ fun _ => (receptionBegun_steady t).kept) s
  | seventhCellMeasured => exact execSeventhCellMeasured_keeps s
  | catchCrossingTimeout =>
    exact event_keeps (fun _ => Kept.ite _ fun _ => (setMdr_steady (by simp) (by simp)).kept) s

/-- Every step leaves a sound resolver sound, and run demand and the motor in step (log 2, 7). -/
theorem step_keeps (s : State) : Yields (step s) (Kept s) := by
  unfold step
  split
  · exact ⟨_, rfl, tick_keeps s⟩
  · next c rest _ =>
    have taken : Kept s (s.setPending rest) := (Steady.of_fields (by simp)).kept
    obtain ⟨t, answer, kept⟩ := exec_keeps c (s.setPending rest)
    exact ⟨t, answer, taken.trans kept⟩

/-- Settles O49: what a step keeps of the resolver's soundness (R10, R11, R14, R18). -/
theorem profileKept : Obligations.ProfileKept := by
  intro s profile record
  obtain ⟨t, answer, kept⟩ := step_keeps s
  exact ⟨t, answer, kept.sound ⟨profile, record⟩⟩

/-- Settles O50: what a step keeps of run demand and the motor (R7, R24, R38). -/
theorem demandKept : Obligations.DemandKept := by
  intro s demand motor
  obtain ⟨t, answer, kept⟩ := step_keeps s
  exact ⟨t, answer, kept.demand demand motor, kept.motor motor⟩

end Sys2Proof.Proofs

namespace Sys2Proof.Proofs

open Sys2Proof.Machine Sys2Proof.Safety

/-! ### The host line under an operation

Nothing a block does but taking a request touches the receiver, the outstanding request, the replies, the transmitter or
the link conditions; so a block does the same whatever stands there. -/

/-- A state with the host line as `l` has it: all of the Message Port but the notices and their enables. -/
def onLine (l : Mpt) (s : State) : State :=
  s.setMpt { l with notices := s.mpt.notices, enables := s.mpt.enables }

/-- An operation that neither reads nor writes the host line. -/
def Offline (op : State → State) : Prop := ∀ l s, op (onLine l s) = onLine l (op s)

theorem onLine_self (s : State) : onLine s.mpt s = s := rfl

@[simp] theorem onLine_frame (l : Mpt) (s : State) : (onLine l s).trg = s.trg ∧ (onLine l s).drs = s.drs ∧
    (onLine l s).mdr = s.mdr ∧ (onLine l s).srg = s.srg ∧ (onLine l s).sbt = s.sbt ∧ (onLine l s).blm = s.blm ∧
    (onLine l s).dse = s.dse ∧ (onLine l s).pkm = s.pkm ∧ (onLine l s).gge = s.gge ∧ (onLine l s).chc = s.chc ∧
    (onLine l s).dlk = s.dlk ∧ (onLine l s).icn = s.icn ∧ (onLine l s).fmg = s.fmg ∧ (onLine l s).slc = s.slc ∧
    (onLine l s).motorPar = s.motorPar ∧ (onLine l s).blockPar = s.blockPar ∧ (onLine l s).packPar = s.packPar ∧
    (onLine l s).chargePar = s.chargePar ∧ (onLine l s).dirtPar = s.dirtPar ∧ (onLine l s).idleSleepS = s.idleSleepS ∧
    (onLine l s).pending = s.pending ∧ (onLine l s).now = s.now := by simp [onLine, State.now]

/-- A write of another block than the Message Port. -/
@[simp] theorem onLine_set (l : Mpt) (s : State) :
    (∀ v, (onLine l s).setTrg v = onLine l (s.setTrg v)) ∧ (∀ v, (onLine l s).setDrs v = onLine l (s.setDrs v)) ∧
    (∀ v, (onLine l s).setMdr v = onLine l (s.setMdr v)) ∧ (∀ v, (onLine l s).setSrg v = onLine l (s.setSrg v)) ∧
    (∀ v, (onLine l s).setSbt v = onLine l (s.setSbt v)) ∧ (∀ v, (onLine l s).setBlm v = onLine l (s.setBlm v)) ∧
    (∀ v, (onLine l s).setDse v = onLine l (s.setDse v)) ∧ (∀ v, (onLine l s).setPkm v = onLine l (s.setPkm v)) ∧
    (∀ v, (onLine l s).setGge v = onLine l (s.setGge v)) ∧ (∀ v, (onLine l s).setChc v = onLine l (s.setChc v)) ∧
    (∀ v, (onLine l s).setDlk v = onLine l (s.setDlk v)) ∧ (∀ v, (onLine l s).setIcn v = onLine l (s.setIcn v)) ∧
    (∀ v, (onLine l s).setFmg v = onLine l (s.setFmg v)) ∧ (∀ v, (onLine l s).setSlc v = onLine l (s.setSlc v)) ∧
    (∀ v, (onLine l s).setMotorPar v = onLine l (s.setMotorPar v)) ∧
    (∀ v, (onLine l s).setBlockPar v = onLine l (s.setBlockPar v)) ∧
    (∀ v, (onLine l s).setPackPar v = onLine l (s.setPackPar v)) ∧
    (∀ v, (onLine l s).setChargePar v = onLine l (s.setChargePar v)) ∧
    (∀ v, (onLine l s).setDirtPar v = onLine l (s.setDirtPar v)) ∧
    (∀ v, (onLine l s).setIdleSleepS v = onLine l (s.setIdleSleepS v)) :=
  ⟨fun _ => rfl, fun _ => rfl, fun _ => rfl, fun _ => rfl, fun _ => rfl, fun _ => rfl, fun _ => rfl, fun _ => rfl,
    fun _ => rfl, fun _ => rfl, fun _ => rfl, fun _ => rfl, fun _ => rfl, fun _ => rfl, fun _ => rfl, fun _ => rfl,
    fun _ => rfl, fun _ => rfl, fun _ => rfl, fun _ => rfl⟩

@[simp] theorem ite_onLine (c : Prop) [Decidable c] (l : Mpt) (s t : State) :
    (if c then onLine l s else onLine l t) = onLine l (if c then s else t) := (apply_ite (onLine l) c s t).symm

@[simp] theorem clearPendingReach_onLine (l : Mpt) (s : State) :
    clearPendingReach (onLine l s) = onLine l (clearPendingReach s) := rfl

@[simp] theorem raise_onLine (n : Notice) (l : Mpt) (s : State) : raise n (onLine l s) = onLine l (raise n s) := by
  unfold raise
  simp only [show (onLine l s).mpt.enables = s.mpt.enables from rfl]
  split
  · rfl
  · split <;> rfl

@[simp] theorem putCounter_onLine (i : Nat) (c : Counter) (l : Mpt) (s : State) :
    putCounter i c (onLine l s) = onLine l (putCounter i c s) := rfl

@[simp] theorem notifyReach_onLine (i : Nat) (l : Mpt) (s : State) :
    notifyReach i (onLine l s) = onLine l (notifyReach i s) := by
  simp [notifyReach]

theorem startWaiting_onLine {judge : Nat → State → State} (h : ∀ j, Offline (judge j)) (i j : Nat) :
    Offline (startWaiting judge i j) := fun l s => by
  simp [startWaiting, h j l]

@[simp] theorem reach_onLine (fuel i : Nat) (l : Mpt) (s : State) : reach fuel i (onLine l s) = onLine l (reach fuel i s) := by
  induction fuel generalizing i l s with
  | zero => rfl
  | succ n ih =>
    have start (i j : Nat) := startWaiting_onLine (judge := reach n) (fun j l s => ih j l s) i j
    simp [reach, start i _ l _]

@[simp] theorem judgeReach_onLine (i : Nat) (l : Mpt) (s : State) :
    judgeReach i (onLine l s) = onLine l (judgeReach i s) := by
  simp [judgeReach]

@[simp] theorem countEvents_onLine (a : List (CounterSource × CountAmount)) (l : Mpt) (s : State) :
    countEvents a (onLine l s) = onLine l (countEvents a s) := by
  simp only [countEvents, onLine_frame, onLine_set]
  simp only [judgeReach_onLine, ite_onLine]

@[simp] theorem countEvent_onLine (source : CounterSource) (a : CountAmount) (l : Mpt) (s : State) :
    countEvent source a (onLine l s) = onLine l (countEvent source a s) := by
  simp [countEvent]

@[simp] theorem evaluateAs_onLine (b : Bool) (l : Mpt) (s : State) :
    evaluateAs b (onLine l s) = onLine l (evaluateAs b s) := rfl

@[simp] theorem evaluate_onLine (l : Mpt) (s : State) : evaluate (onLine l s) = onLine l (evaluate s) := rfl

@[simp] theorem clearClaims_onLine (l : Mpt) (s : State) : clearClaims (onLine l s) = onLine l (clearClaims s) := rfl

@[simp] theorem abortEdit_onLine (cause : AbortCause) (l : Mpt) (s : State) :
    abortEdit cause (onLine l s) = onLine l (abortEdit cause s) := by
  simp only [abortEdit, onLine_frame, onLine_set]
  split <;> simp

/-! ### The Fault Manager and the Dirt Sensing Engine -/

@[simp] theorem tableRaise_onLine (k : FaultKind) (d : Detail) (l : Mpt) (s : State) :
    tableRaise k d (onLine l s) = onLine l (tableRaise k d s) := rfl

@[simp] theorem raiseTripNotice_onLine (e : TripEvent) (l : Mpt) (s : State) :
    raiseTripNotice e (onLine l s) = onLine l (raiseTripNotice e s) := by simp [raiseTripNotice]

@[simp] theorem laterCause_onLine (k : FaultKind) (d : Detail) (l : Mpt) (s : State) :
    laterCause k d (onLine l s) = onLine l (laterCause k d s) := by simp [laterCause]

@[simp] theorem noteRaise_onLine (k : FaultKind) (d : Detail) (l : Mpt) (s : State) :
    noteRaise k d (onLine l s) = onLine l (noteRaise k d s) := by
  simp [noteRaise]

@[simp] theorem raiseNotified_onLine (k : FaultKind) (d : Detail) (l : Mpt) (s : State) :
    raiseNotified k d (onLine l s) = onLine l (raiseNotified k d s) := by
  simp [raiseNotified]

@[simp] theorem reportSensor_onLine (e : SetEvent) (r : SensorReason) (l : Mpt) (s : State) :
    reportSensor e r (onLine l s) = onLine l (reportSensor e r s) := by
  simp [reportSensor]

@[simp] theorem raiseDirtNotice_onLine (old : DirtLevel) (cause : DirtCause) (l : Mpt) (s : State) :
    raiseDirtNotice old cause (onLine l s) = onLine l (raiseDirtNotice old cause s) := by simp [raiseDirtNotice]

@[simp] theorem beginWindow_onLine (l : Mpt) (s : State) : beginWindow (onLine l s) = onLine l (beginWindow s) := rfl

@[simp] theorem dirtEnterRun_onLine (l : Mpt) (s : State) : dirtEnterRun (onLine l s) = onLine l (dirtEnterRun s) := by
  simp [dirtEnterRun]

@[simp] theorem dirtLeaveRun_onLine (l : Mpt) (s : State) : dirtLeaveRun (onLine l s) = onLine l (dirtLeaveRun s) := by
  simp [dirtLeaveRun]

@[simp] theorem writeOpticalMode_onLine (m : OpticalMode) (l : Mpt) (s : State) :
    writeOpticalMode m (onLine l s) = onLine l (writeOpticalMode m s) := by
  unfold writeOpticalMode
  simp only [onLine_frame, onLine_set]
  split
  · rfl
  · split
    · simp
    · simp
    · simp
    · split <;> rfl
    · rfl

@[simp] theorem writeEmitter_onLine (v : Nat) (l : Mpt) (s : State) :
    writeEmitter v (onLine l s) = onLine l (writeEmitter v s) := by
  unfold writeEmitter
  simp only [onLine_frame, onLine_set]
  repeat' split
  all_goals simp

@[simp] theorem writeCarrier_onLine (v : Nat) (l : Mpt) (s : State) :
    writeCarrier v (onLine l s) = onLine l (writeCarrier v s) := by
  unfold writeCarrier
  simp only [onLine_frame, onLine_set]
  repeat' split
  all_goals simp

@[simp] theorem setCharge_onLine (q : Nat) (e : GaugeEvent) (l : Mpt) (s : State) :
    setCharge q e (onLine l s) = onLine l (setCharge q e s) := rfl

@[simp] theorem writeCapacity_onLine (f : Nat) (l : Mpt) (s : State) :
    writeCapacity f (onLine l s) = onLine l (writeCapacity f s) := by
  unfold writeCapacity
  simp only [onLine_frame, onLine_set, ite_onLine]

/-! ### Pack, charge and dock -/

@[simp] theorem chooseInterval_onLine (l : Mpt) (s : State) :
    chooseInterval (onLine l s) = onLine l (chooseInterval s) := rfl

@[simp] theorem raisePackNotice_onLine (ov : Bool) (cause : PackCause) (cell : Nat) (old : PackState) (l : Mpt) (s : State) :
    raisePackNotice ov cause cell old (onLine l s) = onLine l (raisePackNotice ov cause cell old s) := by
  simp [raisePackNotice]

@[simp] theorem changePackState_onLine (new : PackState) (cause : PackCause) (cell : Nat) (l : Mpt) (s : State) :
    changePackState new cause cell (onLine l s) = onLine l (changePackState new cause cell s) := by
  simp [changePackState]

@[simp] theorem releaseCutoff_onLine (l : Mpt) (s : State) :
    releaseCutoff (onLine l s) = onLine l (releaseCutoff s) := by
  simp only [releaseCutoff, changePackState_onLine]
  rfl

@[simp] theorem applyBleed_onLine (set : Seven Bool) (l : Mpt) (s : State) :
    applyBleed set (onLine l s) = onLine l (applyBleed set s) := rfl

@[simp] theorem raiseDockNotice_onLine (grant : Bool) (old : DockState) (cause : DockCause) (l : Mpt) (s : State) :
    raiseDockNotice grant old cause (onLine l s) = onLine l (raiseDockNotice grant old cause s) := by
  simp [raiseDockNotice]

@[simp] theorem startExchange_onLine (m : DockMsg) (l : Mpt) (s : State) :
    startExchange m (onLine l s) = onLine l (startExchange m s) := rfl

@[simp] theorem sendRequest_onLine (r : DueRequest) (l : Mpt) (s : State) :
    sendRequest r (onLine l s) = onLine l (sendRequest r s) := rfl

@[simp] theorem sendDue_onLine (l : Mpt) (s : State) : sendDue (onLine l s) = onLine l (sendDue s) := by
  unfold sendDue
  simp only [onLine_frame, onLine_set]
  repeat' split
  all_goals rfl

@[simp] theorem requestDue_onLine (forKeep : Bool) (l : Mpt) (s : State) :
    requestDue forKeep (onLine l s) = onLine l (requestDue forKeep s) := rfl

@[simp] theorem handRelease_onLine (r : ReleaseReason) (l : Mpt) (s : State) :
    handRelease r (onLine l s) = onLine l (handRelease r s) := by
  unfold handRelease
  simp only [onLine_frame, onLine_set]
  split
  · simp
  · simp
  · rfl

@[simp] theorem qualifyEntered_onLine (l : Mpt) (s : State) :
    qualifyEntered (onLine l s) = onLine l (qualifyEntered s) := by simp [qualifyEntered]

@[simp] theorem raiseChargeNotice_onLine (old : ChargeState) (cause : ChargeCause) (l : Mpt) (s : State) :
    raiseChargeNotice old cause (onLine l s) = onLine l (raiseChargeNotice old cause s) := by simp [raiseChargeNotice]

@[simp] theorem changeCharge_onLine (new : ChargeState) (cause : ChargeCause) (set : SuspendSet) (l : Mpt) (s : State) :
    changeCharge new cause set (onLine l s) = onLine l (changeCharge new cause set s) := by simp [changeCharge]

@[simp] theorem enterSuspend_onLine (temp : Bool) (l : Mpt) (s : State) :
    enterSuspend temp (onLine l s) = onLine l (enterSuspend temp s) := by simp [enterSuspend]

@[simp] theorem enterChargeFault_onLine (k : FaultKind) (l : Mpt) (s : State) :
    enterChargeFault k (onLine l s) = onLine l (enterChargeFault k s) := by simp [enterChargeFault]

@[simp] theorem raiseChargeStop_onLine (k : FaultKind) (d : Detail) (l : Mpt) (s : State) :
    raiseChargeStop k d (onLine l s) = onLine l (raiseChargeStop k d s) := by simp [raiseChargeStop]

@[simp] theorem enterDone_onLine (cause : ChargeCause) (l : Mpt) (s : State) :
    enterDone cause (onLine l s) = onLine l (enterDone cause s) := by simp [enterDone]

@[simp] theorem judgeQualify_onLine (l : Mpt) (s : State) : judgeQualify (onLine l s) = onLine l (judgeQualify s) := by
  unfold judgeQualify
  simp only [onLine_frame, enterSuspend_onLine, raiseChargeStop_onLine, changeCharge_onLine, ite_onLine]
  cases vmin s.pkm <;> simp

@[simp] theorem capSetpoint_onLine (l : Mpt) (s : State) : capSetpoint (onLine l s) = onLine l (capSetpoint s) := rfl

/-! ### The motor -/

@[simp] theorem setBlockage_onLine (b : Blm) (l : Mpt) (s : State) :
    setBlockage b (onLine l s) = onLine l (setBlockage b s) := rfl

@[simp] theorem raiseBlockageNotice_onLine (e : SetEvent) (r : BlockageReason) (l : Mpt) (s : State) :
    raiseBlockageNotice e r (onLine l s) = onLine l (raiseBlockageNotice e r s) := by simp [raiseBlockageNotice]

@[simp] theorem blockageEnterRun_onLine (l : Mpt) (s : State) :
    blockageEnterRun (onLine l s) = onLine l (blockageEnterRun s) := rfl

@[simp] theorem blockageLeaveRun_onLine (l : Mpt) (s : State) :
    blockageLeaveRun (onLine l s) = onLine l (blockageLeaveRun s) := by simp [blockageLeaveRun]

@[simp] theorem deliverDrs_onLine (new : MotorState) (l : Mpt) (s : State) :
    deliverDrs new (onLine l s) = onLine l (deliverDrs new s) := by simp [deliverDrs]

@[simp] theorem deliverSrg_onLine (new : MotorState) (l : Mpt) (s : State) :
    deliverSrg new (onLine l s) = onLine l (deliverSrg new s) := by cases new <;> rfl

@[simp] theorem deliverBlm_onLine (old new : MotorState) (l : Mpt) (s : State) :
    deliverBlm old new (onLine l s) = onLine l (deliverBlm old new s) := by simp [deliverBlm]

@[simp] theorem deliverDse_onLine (old new : MotorState) (l : Mpt) (s : State) :
    deliverDse old new (onLine l s) = onLine l (deliverDse old new s) := by simp [deliverDse]

@[simp] theorem deliverPkm_onLine (new : MotorState) (l : Mpt) (s : State) :
    deliverPkm new (onLine l s) = onLine l (deliverPkm new s) := by simp [deliverPkm]

@[simp] theorem deliverIcn_onLine (new : MotorState) (l : Mpt) (s : State) :
    deliverIcn new (onLine l s) = onLine l (deliverIcn new s) := by cases new <;> simp [deliverIcn]

@[simp] theorem deliverSlc_onLine (l : Mpt) (s : State) : deliverSlc (onLine l s) = onLine l (deliverSlc s) := rfl

@[simp] theorem motorTo_onLine (new : MotorState) (cause : MotorCause) (pend : Bool) (l : Mpt) (s : State) :
    motorTo new cause pend (onLine l s) = onLine l (motorTo new cause pend s) := by simp [motorTo]

@[simp] theorem demandRise_onLine (l : Mpt) (s : State) : demandRise (onLine l s) = onLine l (demandRise s) := by
  unfold demandRise
  simp only [onLine_frame]
  split <;> simp

@[simp] theorem demandFall_onLine (l : Mpt) (s : State) : demandFall (onLine l s) = onLine l (demandFall s) := by
  unfold demandFall
  simp only [onLine_frame]
  split <;> simp

@[simp] theorem wantsToRun_onLine (l : Mpt) (s : State) : wantsToRun (onLine l s) = wantsToRun s := rfl

@[simp] theorem demandRefresh_onLine (l : Mpt) (s : State) :
    demandRefresh (onLine l s) = onLine l (demandRefresh s) := by simp [demandRefresh]

@[simp] theorem refreshDerate_onLine (l : Mpt) (s : State) :
    refreshDerate (onLine l s) = onLine l (refreshDerate s) := by
  unfold refreshDerate
  simp only [onLine_frame]
  split <;> simp

@[simp] theorem tripRecordOf_onLine (k : FaultKind) (d : Detail) (l : Mpt) (s : State) :
    tripRecordOf k d (onLine l s) = tripRecordOf k d s := rfl

@[simp] theorem trip_onLine (k : FaultKind) (d : Detail) (l : Mpt) (s : State) :
    trip k d (onLine l s) = onLine l (trip k d s) := by simp [trip]

@[simp] theorem applyStop_onLine (k : FaultKind) (d : Detail) (l : Mpt) (s : State) :
    applyStop k d (onLine l s) = onLine l (applyStop k d s) := by simp [applyStop]

@[simp] theorem raiseStop_onLine (k : FaultKind) (d : Detail) (l : Mpt) (s : State) :
    raiseStop k d (onLine l s) = onLine l (raiseStop k d s) := by simp [raiseStop]

@[simp] theorem raisePersist_onLine (l : Mpt) (s : State) : raisePersist (onLine l s) = onLine l (raisePersist s) := by
  simp [raisePersist]

@[simp] theorem enterBlocked_onLine (l : Mpt) (s : State) : enterBlocked (onLine l s) = onLine l (enterBlocked s) := by
  simp [enterBlocked]

@[simp] theorem enterRetrying_onLine (l : Mpt) (s : State) : enterRetrying (onLine l s) = onLine l (enterRetrying s) := rfl

@[simp] theorem expireBlock_onLine (l : Mpt) (s : State) : expireBlock (onLine l s) = onLine l (expireBlock s) := by
  simp [expireBlock]

@[simp] theorem expireRetry_onLine (l : Mpt) (s : State) : expireRetry (onLine l s) = onLine l (expireRetry s) := by
  simp [expireRetry]

@[simp] theorem expirePrecharge_onLine (l : Mpt) (s : State) :
    expirePrecharge (onLine l s) = onLine l (expirePrecharge s) := by simp [expirePrecharge]

@[simp] theorem expireCharge_onLine (l : Mpt) (s : State) : expireCharge (onLine l s) = onLine l (expireCharge s) := by
  simp [expireCharge]

@[simp] theorem expireBalance_onLine (l : Mpt) (s : State) :
    expireBalance (onLine l s) = onLine l (expireBalance s) := by simp [expireBalance]

@[simp] theorem writeTriggerMode_onLine (m : TriggerMode) (l : Mpt) (s : State) :
    writeTriggerMode m (onLine l s) = onLine l (writeTriggerMode m s) := by simp [writeTriggerMode]

/-- A parameter is written the same whatever stands on the host line. -/
@[simp] theorem paramWrite_onLine (p : Param) (v : Int) (l : Mpt) (s : State) :
    p.write v (onLine l s) = onLine l (p.write v s) := by
  cases p <;>
    simp [Param.write, writeBlockTime, writeRetryTime, writeIMax, writeChargeCurrent, writePrechargeTimeout,
      writeChargeTimeout, writeBalanceTimeout]

end Sys2Proof.Proofs

namespace Sys2Proof.Proofs

open Sys2Proof.Machine Sys2Proof.Safety

/-! ### A request that is taken (R176, R178, R184) -/

/-- The port as a request that is taken leaves it before it is served. -/
def receivedMpt (kind tag : Byte) (m : Mpt) : Mpt :=
  { m with rx := .hunt, rxBytes := [], rxGap := 0, outstanding := some (kind, tag) }

/-- The state in which the owning block serves a request that is taken. -/
def received (kind tag : Byte) (u : State) : State := onLine (receivedMpt kind tag u.mpt) u

/-- In ON a transmitter that stays free had no reply to send. -/
theorem beginTransmission_free {s : State} (on : s.slc.power = .on) (free : (beginTransmission s).mpt.tx = none) :
    (beginTransmission s).mpt.replies = [] := by
  unfold beginTransmission at free
  rw [(beginTransmission_port s).2.2.2.2.1]
  cases tx : s.mpt.tx with
  | some f => simp [tx] at free
  | none =>
    cases replies : s.mpt.replies with
    | cons r rest => simp [on, tx, replies] at free
    | nil => rfl

/-- A reply queued is begun where the transmitter is free, and waits where it sends. -/
theorem beginTransmission_replied {w : State} {r : Reply} (on : w.slc.power = .on)
    (free : w.mpt.tx = none → w.mpt.replies = []) :
    beginTransmission (queueReply r w) = w.setMpt { w.mpt with
      replies := w.mpt.replies ++ [r], tx := some (w.mpt.tx.getD (.reply r)) } := by
  cases tx : w.mpt.tx with
  | some f =>
    rw [beginTransmission_of_busy _ (by simp [queueReply, tx])]
    simp [queueReply, tx]
  | none =>
    simp only [beginTransmission, queueReply, State.setMpt_mpt, State.setMpt_slc, on, tx, free tx, List.nil_append,
      and_self, if_true]
    rfl

/-- A request accepted is taken in ON, with the oldest frame begun before it (R176, R178). -/
theorem onRequest_taken {s : State} (h : Accepts s) (kind tag : Byte) (serve : State → Served) :
    onRequest kind tag serve s =
      beginTransmission (idleZero (takeRequest kind tag serve (toHunt (beginTransmission s)))) := by
  obtain ⟨powered, vacant, room⟩ := h
  have few : ¬ 2 ≤ (toHunt (beginTransmission s)).mpt.replies.length := by simp [toHunt]; omega
  have free : (toHunt (beginTransmission s)).mpt.outstanding.isSome = false := by simp [toHunt, vacant]
  have waited : wakeIfAsleep .link s = s := by simp [wakeIfAsleep, powered]
  have awake : s.slc.power ≠ .ship := by simp [powered]
  simp only [onRequest, onHostFrame, whilePowered, if_neg awake, waited, judgeRequest, if_neg few, free,
    Bool.false_eq_true, if_false]

/-- A request accepted, which its block answers from `w`: the reply is queued and taken up, and the idle timer returns
to 0. -/
theorem onRequest_of_served {kind tag : Byte} {serve : State → Served} {s w : State} {status : StatusCode}
    {body : ReplyBody} (h : Accepts s)
    (served : serve (received kind tag (beginTransmission s)) = answered status body (received kind tag w))
    (on : w.slc.power = .on) (tx : w.mpt.tx = (beginTransmission s).mpt.tx)
    (replies : w.mpt.replies = (beginTransmission s).mpt.replies) :
    onRequest kind tag serve s = replied kind tag status body w := by
  have answer : serve ((toHunt (beginTransmission s)).setMpt
      { (toHunt (beginTransmission s)).mpt with outstanding := some (kind, tag) }) = _ := served
  have begun : (idleZero (received kind tag w)).mpt.tx = none → (idleZero (received kind tag w)).mpt.replies = [] := by
    intro x
    have stands : (idleZero (received kind tag w)).mpt.replies = w.mpt.replies := rfl
    rw [stands, replies]
    exact beginTransmission_free h.1 (tx ▸ x)
  calc onRequest kind tag serve s
      = beginTransmission (queueReply (replyTo kind tag status body) (idleZero (received kind tag w))) := by
        simp only [onRequest_taken h, takeRequest, answer, answered, Bool.false_eq_true, if_false]
        rfl
    _ = replied kind tag status body w := by
        rw [beginTransmission_replied (w := idleZero (received kind tag w)) on begun]
        rfl

theorem Offline.line {op : State → State} (h : Offline op) (u : State) : op u = onLine u.mpt (op u) := h u.mpt u

/-- A request accepted, which its block answers after an operation that leaves the host line and the power alone. -/
theorem onRequest_of_offline {kind tag : Byte} {serve : State → Served} {s : State} {status : StatusCode}
    {body : ReplyBody} {op : State → State} (h : Accepts s) (offline : Offline op)
    (power : (op (beginTransmission s)).slc.power = s.slc.power)
    (served : serve (received kind tag (beginTransmission s)) = answered status body (op (received kind tag (beginTransmission s)))) :
    onRequest kind tag serve s = replied kind tag status body (op (beginTransmission s)) := by
  have line := offline.line (beginTransmission s)
  refine onRequest_of_served h ?_ (power.trans h.1) ?_ ?_
  · rw [served, received, received, offline, line]
    rfl
  · rw [line]
    rfl
  · rw [line]
    rfl

/-- A request accepted that is answered and changes nothing. -/
theorem onRequest_of_answer {kind tag : Byte} {serve : State → Served} {s : State} {status : StatusCode}
    {body : ReplyBody} (h : Accepts s)
    (served : serve (received kind tag (beginTransmission s)) = answered status body (received kind tag (beginTransmission s))) :
    onRequest kind tag serve s = replied kind tag status body (beginTransmission s) :=
  onRequest_of_offline (op := id) h (fun _ _ => rfl) (by simp) served

end Sys2Proof.Proofs

namespace Sys2Proof.Proofs

open Sys2Proof.Machine Sys2Proof.Safety

/-- What a block reads of the state in which it serves a request, but the host line, stands as it stood. -/
@[simp] theorem received_frame (kind tag : Byte) (u : State) : (received kind tag u).trg = u.trg ∧
    (received kind tag u).drs = u.drs ∧ (received kind tag u).mdr = u.mdr ∧ (received kind tag u).srg = u.srg ∧
    (received kind tag u).sbt = u.sbt ∧ (received kind tag u).blm = u.blm ∧ (received kind tag u).dse = u.dse ∧
    (received kind tag u).pkm = u.pkm ∧ (received kind tag u).gge = u.gge ∧ (received kind tag u).chc = u.chc ∧
    (received kind tag u).dlk = u.dlk ∧ (received kind tag u).icn = u.icn ∧ (received kind tag u).fmg = u.fmg ∧
    (received kind tag u).slc = u.slc ∧ (received kind tag u).motorPar = u.motorPar ∧
    (received kind tag u).blockPar = u.blockPar ∧ (received kind tag u).packPar = u.packPar ∧
    (received kind tag u).chargePar = u.chargePar ∧ (received kind tag u).dirtPar = u.dirtPar ∧
    (received kind tag u).idleSleepS = u.idleSleepS := by simp [received]

/-! ### The reading requests (R10, R96, R101, R123, R140, R157, R162, R182) -/

/-- The values of STATUS stand in the blocks and in the two conditions of the port (R182). -/
theorem statusReport_received (kind tag : Byte) (s : State) :
    statusReport (received kind tag (beginTransmission s)) = statusReport s := by
  have conditions : (received kind tag (beginTransmission s)).mpt.linkErr = s.mpt.linkErr ∧
      (received kind tag (beginTransmission s)).mpt.dropped = s.mpt.dropped := by
    simp [received, onLine, receivedMpt]
  simp [statusReport, conditions]

/-- Settles O6: each read is served on the values as they stand. -/
theorem readsAnswer : Obligations.ReadsAnswer := by
  intro tag s
  refine ⟨fun h => ?_, fun h => ?_⟩
  · refine ⟨?_, ?_, ?_, ?_, ?_, ?_, ?_⟩
    · exact congrArg Host.Outcome.next (onRequest_of_answer h (by simp [serveProfileRead]))
    · exact congrArg Host.Outcome.next (onRequest_of_answer h (by simp [serveDirtRead, dirtReport]))
    · exact congrArg Host.Outcome.next (onRequest_of_answer h (by simp [serveCellRead, cellReport]))
    · exact congrArg Host.Outcome.next (onRequest_of_answer h (by simp [serveGaugeRead]))
    · exact congrArg Host.Outcome.next (onRequest_of_answer h (by simp [serveChargeRead, chargeReport, targetCurrent]))
    · exact congrArg Host.Outcome.next (onRequest_of_answer h (by simp [serveDockRead]))
    · exact congrArg Host.Outcome.next (onRequest_of_answer h (by simp [serveCounterRead]))
  · intro u
    refine congrArg Host.Outcome.next (onRequest_of_served h ?_ ?_ rfl rfl)
    · rw [serveStatus, statusReport_received]
      rfl
    · simp [u, h.1]

end Sys2Proof.Proofs

namespace Sys2Proof.Proofs

open Sys2Proof.Machine Sys2Proof.Safety

/-! ### The power state under an operation -/

/-- A trip leaves the power state. -/
@[simp] theorem trip_power (k : FaultKind) (d : Detail) (s : State) : (trip k d s).slc.power = s.slc.power := by
  simp [trip]

@[simp] theorem applyStop_power (k : FaultKind) (d : Detail) (s : State) :
    (applyStop k d s).slc.power = s.slc.power := by
  unfold applyStop
  split <;> simp

@[simp] theorem raiseStop_power (k : FaultKind) (d : Detail) (s : State) :
    (raiseStop k d s).slc.power = s.slc.power := by simp [raiseStop]

@[simp] theorem enterBlocked_power (s : State) : (enterBlocked s).slc.power = s.slc.power := by
  unfold enterBlocked raisePersist
  dsimp only
  repeat' split
  all_goals simp

@[simp] theorem expireBlock_power (s : State) : (expireBlock s).slc.power = s.slc.power := by
  unfold expireBlock
  split <;> simp

/-! ### The parameters (R181) -/

/-- A write of a parameter leaves the power state. -/
@[simp] theorem paramWrite_power (p : Param) (v : Int) (s : State) : (p.write v s).slc.power = s.slc.power := by
  cases p <;>
    simp [Param.write, writeBlockTime, writeRetryTime, writeIMax, writeChargeCurrent, writePrechargeTimeout,
      writeChargeTimeout, writeBalanceTimeout, writeTriggerMode, apply_ite State.slc, apply_ite Slc.power]

/-- A parameter reads as it stood when its request is served. -/
theorem paramGet_received (kind tag : Byte) (p : Param) (s : State) :
    p.get (received kind tag (beginTransmission s)) = p.get s := by
  cases p <;> simp [Param.get]

theorem paramDepLow_received (kind tag : Byte) (p : Param) (s : State) :
    p.depLow (received kind tag (beginTransmission s)) = p.depLow s := by
  cases p <;> simp [Param.depLow]

theorem paramDepHigh_received (kind tag : Byte) (p : Param) (s : State) :
    p.depHigh (received kind tag (beginTransmission s)) = p.depHigh s := by
  cases p <;> simp [Param.depHigh]

/-- A value is clamped by the range and the dependencies as they stood before the request. -/
@[simp] theorem paramTaken_received (kind tag : Byte) (p : Param) (v : Int) (s : State) :
    p.taken v (received kind tag (beginTransmission s)) = p.taken v s := by
  simp only [Param.taken, paramDepLow_received, paramDepHigh_received]

/-! ### What SET_PARAM serves, in the order of its judgement (R181) -/

/-- The motor lets the parameter be written. -/
def WriteAllowed (p : Param) (s : State) : Prop := p.motorOffOnly = false ∨ s.mdr.state = .off

theorem writeAllowed_iff (p : Param) (s : State) : WriteAllowed p s ↔ ¬ (p.motorOffOnly ∧ s.mdr.state ≠ .off) := by
  unfold WriteAllowed
  cases p.motorOffOnly <;> simp

section
variable {id : Byte} {p : Param} {value : BitVec 32} {s : State}

theorem serveSetKnown_refused (off : p.motorOffOnly = true) (runs : s.mdr.state ≠ .off) :
    serveSetKnown id p value s = refuse .wrongState s := by simp [serveSetKnown, off, runs]

theorem serveSetKnown_badValue (may : WriteAllowed p s) {codes : List Int} (enum : p.codes = some codes)
    (bad : value.toInt ∉ codes) : serveSetKnown id p value s = refuse .badValue s := by
  simp only [serveSetKnown, if_neg ((writeAllowed_iff p s).1 may), enum, if_neg bad]

theorem serveSetKnown_code (may : WriteAllowed p s) {codes : List Int} (enum : p.codes = some codes)
    (good : value.toInt ∈ codes) :
    serveSetKnown id p value s = answered .ok (.param id value.toInt) (p.write value.toInt s) := by
  simp only [serveSetKnown, if_neg ((writeAllowed_iff p s).1 may), enum, if_pos good]

theorem serveSetKnown_number (may : WriteAllowed p s) (number : p.codes = none) :
    serveSetKnown id p value s =
      ⟨p.write (p.taken value.toInt s) s, if p.taken value.toInt s = value.toInt then .ok else .clamped,
        .param id (p.taken value.toInt s), idleExpiredBy p (p.taken value.toInt s) s⟩ := by
  simp only [serveSetKnown, if_neg ((writeAllowed_iff p s).1 may), number]

end

section
variable {tag id : Byte} {p : Param} {value : BitVec 32} {s : State}

theorem writeAllowed_received (kind : Byte) (may : WriteAllowed p s) :
    WriteAllowed p (received kind tag (beginTransmission s)) := by simpa [WriteAllowed] using may

theorem setKnown_wrongState (h : Accepts s) (off : p.motorOffOnly = true) (runs : s.mdr.state ≠ .off) :
    onRequest 0x04#8 tag (serveSetKnown id p value) s = replied 0x04#8 tag .wrongState .empty (beginTransmission s) :=
  onRequest_of_answer h (serveSetKnown_refused off (by simpa using runs))

theorem setKnown_badValue (h : Accepts s) (may : WriteAllowed p s) {codes : List Int} (enum : p.codes = some codes)
    (bad : value.toInt ∉ codes) :
    onRequest 0x04#8 tag (serveSetKnown id p value) s = replied 0x04#8 tag .badValue .empty (beginTransmission s) :=
  onRequest_of_answer h (serveSetKnown_badValue (writeAllowed_received _ may) enum bad)

theorem setKnown_code (h : Accepts s) (may : WriteAllowed p s) {codes : List Int} (enum : p.codes = some codes)
    (good : value.toInt ∈ codes) :
    onRequest 0x04#8 tag (serveSetKnown id p value) s =
      replied 0x04#8 tag .ok (.param id value.toInt) (p.write value.toInt (beginTransmission s)) :=
  onRequest_of_offline h (paramWrite_onLine p value.toInt) (by simp)
    (serveSetKnown_code (writeAllowed_received _ may) enum good)

/-- Every number but idle_sleep_s, whose write may be an expiry of the idle timer, is answered alone (R181, R184). -/
theorem setKnown_number (h : Accepts s) (may : WriteAllowed p s) (number : p.codes = none) (other : p ≠ .idleSleepS) :
    onRequest 0x04#8 tag (serveSetKnown id p value) s =
      replied 0x04#8 tag (if p.taken value.toInt s = value.toInt then .ok else .clamped)
        (.param id (p.taken value.toInt s)) (p.write (p.taken value.toInt s) (beginTransmission s)) := by
  refine onRequest_of_offline h (paramWrite_onLine p (p.taken value.toInt s)) (by simp) ?_
  rw [serveSetKnown_number (writeAllowed_received _ may) number]
  simp [answered, idleExpiredBy, other]

end

/-- Settles O7: GET_PARAM and SET_PARAM by their ids, and a parameter of the table in the order of its judgement. -/
theorem paramRequests : Obligations.ParamRequests := by
  intro tag id p value codes s
  refine ⟨fun h => ⟨fun known => ?_, fun unknown => ?_⟩, fun h => ⟨fun unknown => ?_, fun known => ?_⟩⟩
  · refine congrArg Host.Outcome.next (onRequest_of_answer h ?_)
    simp only [serveGetParam, known, paramGet_received]
  · refine congrArg Host.Outcome.next (onRequest_of_answer h ?_)
    simp only [serveGetParam, unknown, refuse]
  · refine congrArg Host.Outcome.next (onRequest_of_answer h ?_)
    simp only [serveSetParam, unknown, refuse]
  · have named : exec (.setParam tag id value) s = .next (onRequest 0x04#8 tag (serveSetKnown id p value) s) := by
      have served : serveSetParam id value = serveSetKnown id p value := by
        funext w
        simp only [serveSetParam, known]
      exact congrArg (fun f => Host.Outcome.next (onRequest 0x04#8 tag f s)) served
    rw [named]
    refine ⟨fun off runs => ?_, fun may => ⟨fun enum bad => ?_, fun enum good => ?_, fun number other => ?_⟩⟩
    · exact congrArg Host.Outcome.next (setKnown_wrongState h off runs)
    · exact congrArg Host.Outcome.next (setKnown_badValue h may enum bad)
    · exact congrArg Host.Outcome.next (setKnown_code h may enum good)
    · exact congrArg Host.Outcome.next (setKnown_number h may number other)

end Sys2Proof.Proofs

namespace Sys2Proof.Proofs

open Sys2Proof.Machine Sys2Proof.Safety

/-! ### The parameters with a command of their own -/

theorem toNat_toInt_of_nonneg {v : BitVec 32} (h : 0 ≤ v.toInt) : (v.toNat : Int) = v.toInt := by
  rw [BitVec.toInt_eq_toNat_cond] at h ⊢
  split at h <;> split <;> omega

theorem toInt_toNat_of_nonneg {v : BitVec 32} (h : 0 ≤ v.toInt) : v.toInt.toNat = v.toNat := by
  have := toNat_toInt_of_nonneg h
  omega

/-- A value within the range of a parameter without dependencies is taken as it is. -/
theorem taken_of_inRange {p : Param} {v : Int} {s : State} (low : p.depLow s = none) (high : p.depHigh s = none)
    (h : p.range.1 ≤ v) (k : v ≤ p.range.2) : p.taken v s = v := by
  simp only [Param.taken, low, high, clampInt, min_eq_right k, max_eq_right h]

theorem taken_above {p : Param} {v : Int} {s : State} (low : p.depLow s = none) (high : p.depHigh s = none)
    (r : p.range.1 ≤ p.range.2) (h : p.range.2 < v) : p.taken v s = p.range.2 := by
  simp only [Param.taken, low, high, clampInt, min_eq_left h.le, max_eq_right r]

/-- Deliveries of the motor leave the Sleep Controller alone where its timer stands at 0 with no entry waiting (R184). -/
theorem motorTo_slc {s : State} (idle : s.slc.idle = 0) (entry : s.slc.entry = .none) (new : MotorState)
    (cause : MotorCause) (pend : Bool) : (motorTo new cause pend s).slc = s.slc := by
  have kept (m : MotorState) (d : DockState) : keptEntry m d .none = .none := by unfold keptEntry; split <;> rfl
  simp only [motorTo, deliverSlc, State.setSlc_slc, deliverIcn_frame, judgeQualify_frame, deliverPkm_frame,
    deliverDse_frame, deliverBlm_frame, deliverSrg_frame, deliverDrs_frame, raise_frame, State.setMdr_slc, entry, kept]
  simp [← idle, ← entry]

theorem demandRefresh_slc {s : State} (idle : s.slc.idle = 0) (entry : s.slc.entry = .none) :
    (demandRefresh s).slc = s.slc := by
  unfold demandRefresh demandRise demandFall
  dsimp only
  repeat' split
  all_goals simp [motorTo_slc, idle, entry]

/-- SLEEP is entered with the idle timer at 0 and no entry waiting (R184). -/
theorem enterSleep_slc (s : State) :
    (enterSleep s).slc = { s.slc with power := .sleep, idle := 0, entry := .none } := by
  unfold enterSleep
  simp only [chooseInterval, State.setPkm_slc, abortEdit_frame, forcedStop]
  rw [demandRefresh_slc (by simp) (by simp)]
  simp

/-- A request accepted that is at once an expiry of the idle timer (R184). -/
theorem onRequest_expired {kind tag : Byte} {serve : State → Served} {s w : State} {status : StatusCode}
    {body : ReplyBody} (h : Accepts s) (served : serve (received kind tag (beginTransmission s)) = ⟨w, status, body, true⟩) :
    onRequest kind tag serve s = enterSleep (queueReply (replyTo kind tag status body) w) := by
  have answer : serve ((toHunt (beginTransmission s)).setMpt
      { (toHunt (beginTransmission s)).mpt with outstanding := some (kind, tag) }) = _ := served
  have asleep := enterSleep_slc (queueReply (replyTo kind tag status body) w)
  have idle : idleZero (enterSleep (queueReply (replyTo kind tag status body) w)) =
      enterSleep (queueReply (replyTo kind tag status body) w) := by
    have stands : (enterSleep (queueReply (replyTo kind tag status body) w)).slc.idle = 0 := by rw [asleep]
    rw [idleZero, ← stands]
    rfl
  simp only [onRequest_taken h, takeRequest, answer, if_true, idle]
  simp [beginTransmission, asleep]

/-- idle_sleep_s written: an expiry where the timer has run that long, and a write alone otherwise (R181, R184). -/
theorem setIdleSleepS_written {tag : Byte} {v : BitVec 32} {s : State} (h : Accepts s) (n : Int)
    (taken : Param.idleSleepS.taken v.toInt s = n) :
    exec (.setIdleSleepS tag v) s =
      .next (if idleRuns s ∧ n ≠ 0 ∧ n.toNat * 1000 ≤ s.slc.idle then
          enterSleep (queueReply (replyTo 0x04#8 tag (if n = v.toInt then .ok else .clamped) (.param 0x70#8 n))
            ((received 0x04#8 tag (beginTransmission s)).setIdleSleepS n.toNat))
        else replied 0x04#8 tag (if n = v.toInt then .ok else .clamped) (.param 0x70#8 n)
          ((beginTransmission s).setIdleSleepS n.toNat)) := by
  have number := serveSetKnown_number (id := 0x70#8) (p := .idleSleepS) (value := v)
    (s := received 0x04#8 tag (beginTransmission s)) (.inl rfl) rfl
  have expired : idleExpiredBy .idleSleepS n (received 0x04#8 tag (beginTransmission s)) =
      decide (idleRuns s ∧ n ≠ 0 ∧ n.toNat * 1000 ≤ s.slc.idle) := by
    have runs : idleRuns (received 0x04#8 tag (beginTransmission s)) = idleRuns s := by simp [idleRuns]
    rw [Bool.eq_iff_iff]
    simp [idleExpiredBy, runs]
    tauto
  simp only [paramTaken_received, taken, expired] at number
  refine congrArg Host.Outcome.next ?_
  split
  · next due => exact onRequest_expired h (by rw [number, decide_eq_true due]; rfl)
  · next early =>
    exact onRequest_of_offline (op := fun w => w.setIdleSleepS n.toNat) h (fun _ _ => rfl) (by simp)
      (by rw [number, decide_eq_false early]; rfl)

theorem triggerMode_of_code {v : Int} {m : TriggerMode}
    (h : (v, m) ∈ [((0 : Int), TriggerMode.hold), (1, .toggle), (2, .hostOnly)]) :
    v ∈ [(0 : Int), 1, 2] ∧ TriggerMode.ofCode v.toNat = m := by
  simp only [List.mem_cons, Prod.mk.injEq, List.not_mem_nil, or_false] at h
  obtain ⟨rfl, rfl⟩ | ⟨rfl, rfl⟩ | ⟨rfl, rfl⟩ := h <;> exact ⟨by decide, rfl⟩

theorem opticalMode_of_code {v : Int} {o : OpticalMode}
    (h : (v, o) ∈ [((0 : Int), OpticalMode.auto), (1, .forceOn), (2, .forceOff)]) :
    v ∈ [(0 : Int), 1, 2] ∧ OpticalMode.ofCode v.toNat = o := by
  simp only [List.mem_cons, Prod.mk.injEq, List.not_mem_nil, or_false] at h
  obtain ⟨rfl, rfl⟩ | ⟨rfl, rfl⟩ | ⟨rfl, rfl⟩ := h <;> exact ⟨by decide, rfl⟩

/-- With run demand false and no claim left there is nothing to recompute (R7). -/
theorem demandRefresh_unclaimed {s : State} (trigger : s.drs.triggerClaim = false) (host : s.drs.hostClaim = false)
    (demand : s.drs.record.runDemand = false) : demandRefresh s = s := by
  simp [demandRefresh, wantsToRun, trigger, host, demand]

/-- trigger_mode written (R3, R4). -/
theorem setTriggerMode_written {tag : Byte} {v : BitVec 32} {m : TriggerMode} {s : State} (h : Accepts s)
    (code : (v.toInt, m) ∈ [((0 : Int), TriggerMode.hold), (1, .toggle), (2, .hostOnly)]) (off : s.mdr.state = .off) :
    exec (.setTriggerMode tag v) s =
      .next (replied 0x04#8 tag .ok (.param 0x72#8 v.toInt) (writeTriggerMode m (beginTransmission s))) := by
  obtain ⟨good, rfl⟩ := triggerMode_of_code code
  exact congrArg Host.Outcome.next (setKnown_code h (.inr off) rfl good)

theorem writeTriggerMode_other {m : TriggerMode} {s : State} (other : m ≠ s.trg.mode)
    (demand : s.drs.record.runDemand = false) (host : s.drs.hostClaim = false) :
    writeTriggerMode m s = (s.setTrg { s.trg with
      mode := m, rearm := s.trg.rearm || decide (s.trg.debounced = some .pressed) }).setDrs
        { s.drs with triggerClaim := false } := by
  rw [writeTriggerMode, if_neg other]
  exact demandRefresh_unclaimed rfl host demand

/-- optical_mode written (R87). -/
theorem setOpticalMode_written {tag : Byte} {v : BitVec 32} {o : OpticalMode} {s : State} (h : Accepts s)
    (code : (v.toInt, o) ∈ [((0 : Int), OpticalMode.auto), (1, .forceOn), (2, .forceOff)]) :
    exec (.setOpticalMode tag v) s =
      .next (replied 0x04#8 tag .ok (.param 0x57#8 v.toInt) (writeOpticalMode o (beginTransmission s))) := by
  obtain ⟨good, rfl⟩ := opticalMode_of_code code
  exact congrArg Host.Outcome.next (setKnown_code h (.inl rfl) rfl good)

/-! ### What a change of optical_mode does, by the channel's state (R87) -/

section
variable {o : OpticalMode} {s : State}

theorem writeOpticalMode_same (h : o = s.dirtPar.mode) : writeOpticalMode o s = s := by
  simp [writeOpticalMode, h]

theorem writeOpticalMode_off (h : s.dirtPar.mode ≠ .forceOff) (k : s.dse.optical ≠ .killed) :
    writeOpticalMode .forceOff s = (s.setDirtPar { s.dirtPar with mode := .forceOff }).setDse
      { s.dse with optical := .off, settle := 0, kills := 0, recoveries := 0 } := by
  rw [writeOpticalMode, if_neg h.symm]
  dsimp only
  cases d : s.dse.optical <;> simp_all

theorem writeOpticalMode_killed_off (h : s.dirtPar.mode ≠ .forceOff) (k : s.dse.optical = .killed) :
    writeOpticalMode .forceOff s = reportSensor .cleared .mode
      ((s.setDirtPar { s.dirtPar with mode := .forceOff }).setDse
        { s.dse with optical := .off, settle := 0, kills := 0, recoveries := 0 }) := by
  rw [writeOpticalMode, if_neg h.symm]
  simp [k]

theorem writeOpticalMode_killed_on (h : s.dirtPar.mode ≠ .forceOn) (k : s.dse.optical = .killed) :
    writeOpticalMode .forceOn s = reportSensor .cleared .mode
      ((s.setDirtPar { s.dirtPar with mode := .forceOn }).setDse
        { s.dse with optical := .settle, settle := 0, kills := 0, rebase := true, recoveries := 0 }) := by
  rw [writeOpticalMode, if_neg h.symm]
  simp [k, enterSettle]

theorem writeOpticalMode_watching (h : o ≠ s.dirtPar.mode) (on : o ≠ .forceOff)
    (k : s.dse.optical = .settle ∨ s.dse.optical = .track) :
    writeOpticalMode o s = (s.setDirtPar { s.dirtPar with mode := o }).setDse { s.dse with kills := 0 } := by
  rw [writeOpticalMode, if_neg h]
  cases o with
  | forceOff => exact absurd rfl on
  | auto => obtain k | k := k <;> simp [k]
  | forceOn => obtain k | k := k <;> simp [k]

theorem writeOpticalMode_window (h : o ≠ s.dirtPar.mode) (on : o ≠ .forceOff) (k : s.dse.optical = .off)
    (open' : s.dse.window.isSome = true) :
    writeOpticalMode o s = (s.setDirtPar { s.dirtPar with mode := o }).setDse
      { s.dse with optical := .settle, settle := 0, kills := 0 } := by
  rw [writeOpticalMode, if_neg h]
  cases o with
  | forceOff => exact absurd rfl on
  | auto => simp [k, open', enterSettle]
  | forceOn => simp [k, open', enterSettle]

theorem writeOpticalMode_idle (h : o ≠ s.dirtPar.mode) (on : o ≠ .forceOff) (k : s.dse.optical = .off)
    (shut : s.dse.window = none) :
    writeOpticalMode o s = (s.setDirtPar { s.dirtPar with mode := o }).setDse { s.dse with optical := .idle } := by
  rw [writeOpticalMode, if_neg h]
  cases o with
  | forceOff => exact absurd rfl on
  | auto => simp [k, shut]
  | forceOn => simp [k, shut]

/-- emitter_current written to a channel that watches (R88). -/
theorem writeEmitter_watching {v : Nat} (k : s.dse.optical = .settle ∨ s.dse.optical = .track) (other : v ≠ s.dse.working) :
    writeEmitter v s = (s.setDirtPar { s.dirtPar with emitter := v }).setDse
      { s.dse with working := v, rebase := true, optical := .settle, settle := 0, kills := 0 } := by
  obtain k | k := k <;> simp [writeEmitter, k, other, enterSettle]

/-- emitter_carrier written to a channel that watches (R88). -/
theorem writeCarrier_watching {v : Nat} (k : s.dse.optical = .settle ∨ s.dse.optical = .track) (other : v ≠ s.dirtPar.carrier) :
    writeCarrier v s = (s.setDirtPar { s.dirtPar with carrier := v }).setDse
      { s.dse with rebase := true, optical := .settle, settle := 0, kills := 0 } := by
  obtain k | k := k <;> simp [writeCarrier, k, other, enterSettle]

/-- full_capacity written with another value (R121). -/
theorem writeCapacity_other {f : Nat} (other : f ≠ s.gge.f) :
    writeCapacity f s = s.setGge { s.gge with
      f := f, q := s.gge.q * f / s.gge.f, event := .capacity, eventAt := s.slc.uptime } := by
  rw [writeCapacity, if_neg other]
  rfl

end

/-- Settles O9: each write of a parameter with a command of its own, in range or clamped. -/
theorem ownParamsWritten : Obligations.OwnParamsWritten := by
  intro tag v m o s h u
  have su : u = beginTransmission s := rfl
  have number {p : Param} {id : Byte} {w : State} (may : p.motorOffOnly = false) (codes : p.codes = none) (other : p ≠ .idleSleepS)
      (low : p.depLow s = none) (high : p.depHigh s = none) (lo : p.range.1 ≤ v.toInt) (hi : v.toInt ≤ p.range.2)
      (wrote : p.write v.toInt u = w) :
      onRequest 0x04#8 tag (serveSetKnown id p v) s = replied 0x04#8 tag .ok (.param id v.toInt) w := by
    have taken := taken_of_inRange low high lo hi
    rw [setKnown_number h (.inl may) codes other, taken, if_pos rfl, ← wrote]
  refine ⟨fun code off => ⟨fun same => ?_, fun other demand host => ?_⟩, fun runs => ?_, fun two alive free => ?_,
    fun code => ?_, fun lo hi watching other => ?_, fun lo hi other watching => ?_, fun lo hi other => ?_,
    fun above => ?_, fun lo hi => ?_, fun lo hi => ?_, fun above => ?_⟩
  · have kept : writeTriggerMode m u = u := by simp [writeTriggerMode, u, same]
    rw [setTriggerMode_written h code off, ← su, kept]
  · have wrote : writeTriggerMode m u = _ := writeTriggerMode_other (by simpa [u] using other) (by simpa [u] using demand)
      (by simpa [u] using host)
    rw [setTriggerMode_written h code off, ← su, wrote]
    simp [u]
  · exact congrArg Host.Outcome.next (setKnown_wrongState h rfl runs)
  · have wrote := writeOpticalMode_off (s := u) (by simpa [u] using free) (by simpa [u] using alive)
    rw [setOpticalMode_written (o := .forceOff) h (by simp [two]), ← su, wrote, two]
    simp [u]
  · intro mode becomes
    have written (w : State) (wrote : writeOpticalMode o u = w) : becomes w :=
      (setOpticalMode_written h code).trans (by rw [← su, wrote])
    refine ⟨fun same => ?_, fun other dead shut => ?_, fun other dead on => ?_, fun other on watching => ?_,
      fun other on dark opened => ?_, fun other on dark shut => ?_⟩
    · exact written _ (writeOpticalMode_same (by simpa [u] using same))
    · subst shut
      exact written _ ((writeOpticalMode_killed_off (s := u) (by simpa [u] using other.symm) (by simpa [u] using dead)).trans (by simp [u, mode]))
    · subst on
      exact written _ ((writeOpticalMode_killed_on (s := u) (by simpa [u] using other.symm) (by simpa [u] using dead)).trans (by simp [u, mode]))
    · exact written _ ((writeOpticalMode_watching (by simpa [u] using other) on (by simpa [u] using watching)).trans (by simp [u, mode]))
    · exact written _ ((writeOpticalMode_window (by simpa [u] using other) on (by simpa [u] using dark)
        (by simpa [u] using opened)).trans (by simp [u, mode]))
    · exact written _ ((writeOpticalMode_idle (by simpa [u] using other) on (by simpa [u] using dark)
        (by simpa [u] using shut)).trans (by simp [u, mode]))
  · have wrote := writeEmitter_watching (s := u) (v := v.toNat) (by simpa [u] using watching) (by simpa [u] using other)
    refine congrArg Host.Outcome.next (number rfl rfl (by simp) rfl rfl lo hi ?_)
    simp only [Param.write, toInt_toNat_of_nonneg lo, wrote]
    simp [u]
  · have good : v.toInt ∈ [(0 : Int), 1, 2] := by simp; omega
    have wrote := writeCarrier_watching (s := u) (v := v.toNat) (by simpa [u] using watching) (by simpa [u] using other)
    refine congrArg Host.Outcome.next ((setKnown_code h (.inl rfl) rfl good).trans (congrArg _ ?_))
    simp only [Param.write, toInt_toNat_of_nonneg lo, ← su, wrote]
    simp [u]
  · have wrote := writeCapacity_other (s := u) (f := v.toNat) (by simpa [u] using other)
    refine congrArg Host.Outcome.next (number rfl rfl (by simp) rfl rfl lo hi ?_)
    simp only [Param.write, toInt_toNat_of_nonneg (by omega : 0 ≤ v.toInt), wrote]
    simp [u]
  · have taken : Param.reserve.taken v.toInt s = 2000 := taken_above rfl rfl (by decide) above
    refine congrArg Host.Outcome.next ((setKnown_number h (.inl rfl) rfl (by simp)).trans ?_)
    rw [taken, if_neg (by omega), ← su]
    simp [Param.write, u]
  · refine congrArg Host.Outcome.next (number rfl rfl (by simp) rfl rfl lo hi ?_)
    simp [Param.write, toInt_toNat_of_nonneg lo, u]
  · have taken : Param.idleSleepS.taken v.toInt s = v.toInt := taken_of_inRange rfl rfl lo hi
    rw [setIdleSleepS_written h _ taken, if_pos rfl, toInt_toNat_of_nonneg lo]
    rfl
  · have taken : Param.idleSleepS.taken v.toInt s = 3600 := taken_above rfl rfl (by decide) above
    have other : ¬ (3600 : Int) = v.toInt := by omega
    rw [setIdleSleepS_written h _ taken, if_neg other]
    exact congrArg Host.Outcome.next (if_congr (by simp) rfl rfl)

end Sys2Proof.Proofs

namespace Sys2Proof.Proofs

open Sys2Proof.Machine Sys2Proof.Safety

/-! ### Requests that write the resolver -/

/-- A request accepted that writes the resolver and nothing else. -/
theorem onRequest_of_drs {kind tag : Byte} {serve : State → Served} {s : State} {status : StatusCode}
    {body : ReplyBody} (h : Accepts s) (d : Drs)
    (served : ∀ w, w.drs = s.drs → w.pkm = s.pkm → w.blm = s.blm → w.dse = s.dse → w.mdr = s.mdr → w.packPar = s.packPar →
      serve w = answered status body (w.setDrs d)) :
    onRequest kind tag serve s = replied kind tag status body ((beginTransmission s).setDrs d) :=
  onRequest_of_offline (op := fun w => w.setDrs d) h (fun _ _ => rfl) (by simp)
    (served _ (by simp) (by simp) (by simp) (by simp) (by simp) (by simp))

/-- A request accepted whose answer rests on the resolver alone, and changes nothing. -/
theorem onRequest_of_drs_answer {kind tag : Byte} {serve : State → Served} {s : State} {status : StatusCode}
    {body : ReplyBody} (h : Accepts s) (served : ∀ w, w.drs = s.drs → serve w = answered status body w) :
    onRequest kind tag serve s = replied kind tag status body (beginTransmission s) :=
  onRequest_of_answer h (served _ (by simp))

/-- The record is evaluated from the profile in force, the step and what stands in five blocks (R19 to R21). -/
theorem runningRecord_congr {s t : State} (profile : t.drs.profile = s.drs.profile) (step : t.drs.step = s.drs.step)
    (pkm : t.pkm = s.pkm) (blm : t.blm = s.blm) (db : t.dse.db = s.dse.db) (mdr : t.mdr = s.mdr)
    (packPar : t.packPar = s.packPar) : runningRecord t = runningRecord s := by
  simp only [runningRecord, wantedSpeed, boostOf, boostAllowed, ceilingOf, allowanceTerm, causesOf, activeSettings, profile,
    step, pkm, blm, db, mdr, packPar]
  rfl

/-- The commit of an edit that passes the checks (R14). -/
theorem serveEditCommit_passed {s w : State} {e : Edit} (opened : s.drs.edit = some e)
    (passes : firstFailure e.profile = none) (drs : w.drs = s.drs) (pkm : w.pkm = s.pkm) (blm : w.blm = s.blm)
    (dse : w.dse = s.dse) (mdr : w.mdr = s.mdr) (packPar : w.packPar = s.packPar) :
    serveEditCommit w = answered .ok (.label e.label) (w.setDrs { s.drs with
      profile := e.profile, edit := none
      record := if s.drs.record.runDemand then runningRecord (s.setDrs { s.drs with profile := e.profile })
        else DemandRecord.idle }) := by
  have record : runningRecord (w.setDrs { w.drs with profile := e.profile, edit := none }) =
      runningRecord (s.setDrs { s.drs with profile := e.profile }) :=
    runningRecord_congr rfl (by simp [drs]) pkm blm (congrArg Dse.db dse) mdr packPar
  simp only [serveEditCommit, drs, opened, passes]
  rw [drs] at record
  simp only [evaluate, evaluateAs, State.setDrs_drs, record]
  rfl

/-- An identifier outside the two ranges of R10 names no field. -/
theorem fieldOfId_none {n : Nat} (h : ¬ (n ≤ 0x0B ∨ (0x10 ≤ n ∧ n ≤ 0x14))) : ProfileField.ofId n = none := by
  unfold ProfileField.ofId
  split
  case h_18 => rfl
  all_goals exact absurd (by decide) h

/-- The check of R11 that fails first, written out. -/
theorem firstFailure_eq (p : Profile) : firstFailure p =
    if ¬ (p.eco.speed ≤ p.standard.speed ∧ p.standard.speed ≤ p.max.speed) then some .c1
    else if ¬ (p.eco.limit ≤ p.standard.limit ∧ p.standard.limit ≤ p.max.limit) then some .c2
    else if ¬ (p.blockedSpeed ≤ p.eco.speed) then some .c3 else none := rfl

theorem firstFailure_failed {p : Profile}
    (h : ¬ ((p.eco.speed ≤ p.standard.speed ∧ p.standard.speed ≤ p.max.speed) ∧
      (p.eco.limit ≤ p.standard.limit ∧ p.standard.limit ≤ p.max.limit) ∧ p.blockedSpeed ≤ p.eco.speed)) :
    firstFailure p = some (if ¬ (p.eco.speed ≤ p.standard.speed ∧ p.standard.speed ≤ p.max.speed) then .c1
      else if ¬ (p.eco.limit ≤ p.standard.limit ∧ p.standard.limit ≤ p.max.limit) then .c2 else .c3) := by
  rw [firstFailure_eq]
  repeat' split
  · rfl
  · rfl
  · rfl
  · next c1 c2 c3 => exact absurd ⟨not_not.1 c1, not_not.1 c2, not_not.1 c3⟩ h

/-- A flag is 0 or 1, and either is taken as it is. -/
theorem flag_taken {f : ProfileField} (flag : f.isFlag = true) {v : BitVec 32} (h : v = 0#32 ∨ v = 1#32) :
    clampNat f.range.1.toNat f.range.2.toNat v.toInt = v.toNat ∧ ((v.toNat : Int) = v.toInt) := by
  have range : f.range = (0, 1) := by
    cases f with
    | step st g => cases g <;> simp_all [ProfileField.isFlag, ProfileField.range]
    | _ => simp [ProfileField.isFlag] at flag
  rw [range]
  obtain rfl | rfl := h <;> decide

/-- Settles O14: each edit request on the edit it finds, open or not. -/
theorem editStaged : Obligations.EditStaged := by
  intro tag label field v f e s
  refine ⟨fun h => ?_, fun h shut => ?_⟩
  · intro u taken
    refine ⟨fun shut => ?_, fun opened => ?_, fun opened named number => ?_, fun opened named flag zero one => ?_,
      fun opened named flag bit => ?_, fun opened unnamed => ?_, fun opened c1 c2 c3 runs => ?_,
      fun opened c1 c2 c3 rests => ?_, fun opened fails => ?_, fun opened => ?_⟩
    · refine congrArg Host.Outcome.next (onRequest_of_drs h _ fun w drs _ _ _ _ _ => ?_)
      simp only [serveEditBegin, drs, shut]
    · refine congrArg Host.Outcome.next (onRequest_of_drs_answer h fun w drs => ?_)
      simp only [serveEditBegin, drs, opened]
    · refine congrArg Host.Outcome.next (onRequest_of_drs h _ fun w drs _ _ _ _ _ => ?_)
      simp only [serveEditSet, drs, opened, named, number, Bool.false_eq_true, false_and, if_false]
      rfl
    · refine congrArg Host.Outcome.next (onRequest_of_drs_answer h fun w drs => ?_)
      simp [serveEditSet, drs, opened, named, flag, zero, one, refuse]
    · obtain ⟨same, nat⟩ := flag_taken flag bit
      refine congrArg Host.Outcome.next (onRequest_of_drs h _ fun w drs _ _ _ _ _ => ?_)
      have good : ¬ (f.isFlag = true ∧ v.toInt ≠ 0 ∧ v.toInt ≠ 1) := by
        obtain rfl | rfl := bit <;> simp
      simp only [serveEditSet, drs, opened, named, if_neg good, same, nat, if_true]
    · refine congrArg Host.Outcome.next (onRequest_of_drs_answer h fun w drs => ?_)
      simp only [serveEditSet, drs, opened, fieldOfId_none unnamed, refuse]
    · have passes : firstFailure e.profile = none := by rw [firstFailure_eq]; simp [c1, c2, c3]
      refine congrArg Host.Outcome.next (onRequest_of_drs h _ fun w drs pkm blm dse mdr packPar => ?_)
      rw [serveEditCommit_passed opened passes drs pkm blm dse mdr packPar, if_pos runs]
    · have passes : firstFailure e.profile = none := by rw [firstFailure_eq]; simp [c1, c2, c3]
      refine congrArg Host.Outcome.next (onRequest_of_drs h _ fun w drs pkm blm dse mdr packPar => ?_)
      rw [serveEditCommit_passed opened passes drs pkm blm dse mdr packPar, if_neg (by simp [rests])]
    · refine congrArg Host.Outcome.next (onRequest_of_drs_answer h fun w drs => ?_)
      have failed := firstFailure_failed fails
      simp only [serveEditCommit, drs, opened, failed]
    · refine congrArg Host.Outcome.next (onRequest_of_drs h _ fun w drs _ _ _ _ _ => ?_)
      simp only [serveEditAbort, drs, opened]
  · refine ⟨?_, ?_, ?_⟩
    · exact congrArg Host.Outcome.next (onRequest_of_drs_answer h fun w drs => by simp only [serveEditSet, drs, shut])
    · exact congrArg Host.Outcome.next (onRequest_of_drs_answer h fun w drs => by simp only [serveEditCommit, drs, shut])
    · exact congrArg Host.Outcome.next (onRequest_of_drs_answer h fun w drs => by simp only [serveEditAbort, drs, shut])

end Sys2Proof.Proofs

namespace Sys2Proof.Proofs

open Sys2Proof.Machine Sys2Proof.Safety

/-! ### What a change of motor state leaves alone (R23) -/

/-- QUALIFY judges nothing while the motor moves (R129). -/
theorem judgeQualify_moving {s : State} (h : motorParked s.mdr.state = false) : judgeQualify s = s := by
  simp [judgeQualify, h]

/-- Outside QUALIFY there is nothing to judge (R129). -/
theorem judgeQualify_elsewhere {s : State} (h : s.chc.state ≠ .qualify) : judgeQualify s = s := by
  simp [judgeQualify, h]

theorem deliverBlm_outside {old new : MotorState} (h : old ≠ .run) (k : new ≠ .run) (s : State) :
    deliverBlm old new s = s := by simp [deliverBlm, h, k]

theorem deliverDse_outside {old new : MotorState} (h : old ≠ .run) (k : new ≠ .run) (s : State) :
    deliverDse old new s = s := by simp [deliverDse, h, k]

/-- An operation off the host line leaves the receiver, the replies and the transmitter alone. -/
theorem Offline.port {op : State → State} (h : Offline op) (s : State) :
    (op s).mpt.tx = s.mpt.tx ∧ (op s).mpt.replies = s.mpt.replies ∧ (op s).mpt.rx = s.mpt.rx ∧
      (op s).mpt.outstanding = s.mpt.outstanding := by
  rw [h.line s]
  simp [onLine]

theorem motorTo_offline (new : MotorState) (cause : MotorCause) (pend : Bool) : Offline (motorTo new cause pend) :=
  motorTo_onLine new cause pend

theorem demandRefresh_offline : Offline demandRefresh := demandRefresh_onLine

theorem motorParked_iff (m : MotorState) : motorParked m = true ↔ m = .off ∨ m = .tripped := by simp [motorParked]

/-- A state of a motor that moves: gates driven, or the rotor turning, or a start awaited. -/
theorem moving_ne {m : MotorState} (h : motorParked m = false) : m ≠ .off ∧ m ≠ .tripped := by
  simpa [motorParked] using h

/-- What a change to a state of a moving motor leaves alone, besides what every change does. -/
theorem motorTo_moving {new : MotorState} (h : motorParked new = false) (cause : MotorCause) (pend : Bool) (s : State) :
    (motorTo new cause pend s).trg = s.trg ∧ (motorTo new cause pend s).chc = s.chc ∧
      (motorTo new cause pend s).dlk = s.dlk ∧ (motorTo new cause pend s).fmg = s.fmg ∧
      (motorTo new cause pend s).pkm = { s.pkm with interval := intervalOf s.slc.power new s.chc.state } := by
  obtain ⟨off, tripped⟩ := moving_ne h
  have judge (t : State) (k : t.mdr.state = new) : judgeQualify (deliverPkm new t) = chooseInterval t := by
    rw [judgeQualify_moving (by simp [k, h])]
    simp [deliverPkm, off]
  simp only [motorTo, deliverDrs_of_ne tripped]
  rw [judge _ (by simp)]
  simp [chooseInterval]

/-- A change of motor state outside RUN and TRIPPED leaves the resolver alone, unless QUALIFY judges. -/
theorem motorTo_moving_drs {new : MotorState} (h : motorParked new = false) (run : new ≠ .run) {s : State}
    (from' : s.mdr.state ≠ .run) (cause : MotorCause) (pend : Bool) :
    (motorTo new cause pend s).drs = s.drs := by
  obtain ⟨off, tripped⟩ := moving_ne h
  simp only [motorTo, deliverDrs_of_ne tripped, deliverBlm_outside from' run, deliverDse_outside from' run]
  rw [judgeQualify_moving (by simp [h])]
  simp

/-- A change of motor state stands the idle timer at 0 and keeps or abandons the entry awaited (R184). -/
theorem motorTo_slc_eq (new : MotorState) (cause : MotorCause) (pend : Bool) (s : State) :
    (motorTo new cause pend s).slc = { s.slc with idle := 0, entry := keptEntry new s.dlk.state s.slc.entry } := by
  simp [motorTo, deliverSlc]

/-! ### Run demand acting on the motor (R7, R22, R24) -/

@[simp] theorem firstInhibit_raise (n : Notice) (s : State) : firstInhibit (raise n s) = firstInhibit s :=
  firstInhibit_congr (by simp) (by simp) (by simp) (by simp) (by simp)

@[simp] theorem firstInhibit_setDrs (d : Drs) (s : State) : firstInhibit (s.setDrs d) = firstInhibit s := rfl

@[simp] theorem firstInhibit_setTrg (g : Trg) (s : State) : firstInhibit (s.setTrg g) = firstInhibit s := rfl

@[simp] theorem wantsToRun_raise (n : Notice) (s : State) : wantsToRun (raise n s) = wantsToRun s := by
  simp [wantsToRun]

/-- Where claims and inhibits make run demand what it is, nothing happens. -/
theorem demandRefresh_stands {s : State} (h : wantsToRun s = s.drs.record.runDemand) : demandRefresh s = s := by
  simp [demandRefresh, h]

/-- A rise of run demand starts a motor in OFF, and one that coasts without a pending start (R24, R38). -/
theorem demandRefresh_starts {s : State} (want : wantsToRun s = true) (demand : s.drs.record.runDemand = false)
    (rest : s.mdr.state = .off ∨ (s.mdr.state = .coast ∧ s.mdr.startPending = false)) :
    demandRefresh s = motorTo .precheck .demand false (evaluateAs true s) := by
  have idle : s.chc.state = .idle := by
    by_contra charging
    have free : (firstInhibit s).isNone = true := by simp [wantsToRun] at want ⊢; exact want.2
    exact inhibited_of_charge charging free
  obtain off | ⟨coast, pend⟩ := rest
  · simp [demandRefresh, want, demand, demandRise, evaluateAs, off, idle]
  · simp [demandRefresh, want, demand, demandRise, evaluateAs, coast, pend]

/-- A fall of run demand lets a running motor coast (R24). -/
theorem demandRefresh_coasts {s : State} (want : wantsToRun s = false) (demand : s.drs.record.runDemand = true)
    (runs : runningMotor s.mdr.state = true) :
    demandRefresh s = motorTo .coast .demandFall false (evaluateAs false s) := by
  cases m : s.mdr.state <;> simp [m, runningMotor, motorWatched] at runs <;>
    simp [demandRefresh, want, demand, demandFall, evaluateAs, m]

/-- A fall of run demand drops the start that a coasting motor awaits (R38). -/
theorem demandRefresh_unpends {s : State} (want : wantsToRun s = false) (demand : s.drs.record.runDemand = true)
    (coast : s.mdr.state = .coast) :
    demandRefresh s = (evaluateAs false s).setMdr { s.mdr with startPending := false } := by
  simp [demandRefresh, want, demand, demandFall, evaluateAs, coast]

/-! ### A forced stop (R8) -/

theorem wantsToRun_unclaimed {s : State} (trigger : s.drs.triggerClaim = false) (host : s.drs.hostClaim = false) :
    wantsToRun s = false := by simp [wantsToRun, trigger, host]

/-- What a fall of run demand leaves alone: it reaches the motor, and through it no more than moving does. -/
theorem demandFall_frame (s : State) :
    (demandFall s).trg = s.trg ∧ (demandFall s).chc = s.chc ∧ (demandFall s).dlk = s.dlk ∧ (demandFall s).fmg = s.fmg ∧
      (demandFall s).pkm.lastOnStart = s.pkm.lastOnStart ∧ (demandFall s).slc.wakeCause = s.slc.wakeCause := by
  unfold demandFall
  split
  · simp
  · simp
  · simp
  · obtain ⟨trg, chc, dlk, fmg, pkm⟩ := motorTo_moving (new := .coast) rfl .demandFall false s
    simp [trg, chc, dlk, fmg, pkm]

theorem demandFall_resolverKept (s : State) : ResolverKept s (demandFall s) := by
  unfold demandFall
  split
  · exact .of_drs rfl
  · exact .of_drs rfl
  · exact .of_drs rfl
  · exact motorTo_resolverKept (by simp) ..

/-- A forced stop recomputes run demand to false, wherever it stood (R8). -/
theorem forcedStop_eq (s : State) :
    forcedStop s = if s.drs.record.runDemand then demandFall (evaluateAs false (clearClaims s)) else clearClaims s := by
  have want : wantsToRun (clearClaims s) = false := rfl
  have demand : (clearClaims s).drs.record.runDemand = s.drs.record.runDemand := rfl
  cases d : s.drs.record.runDemand <;> simp [forcedStop, demandRefresh, want, demand, d]

/-- What a forced stop does outside the motor, and what it leaves alone (R8). -/
theorem forcedStop_stops (s : State) :
    (forcedStop s).trg = { s.trg with rearm := s.trg.rearm || decide (s.trg.debounced = some .pressed) } ∧
      (forcedStop s).drs.triggerClaim = false ∧ (forcedStop s).drs.hostClaim = false ∧
      (forcedStop s).drs.record.runDemand = false ∧ (forcedStop s).chc = s.chc ∧ (forcedStop s).dlk = s.dlk ∧
      (forcedStop s).fmg = s.fmg ∧ (forcedStop s).pkm.lastOnStart = s.pkm.lastOnStart ∧
      (forcedStop s).slc.wakeCause = s.slc.wakeCause := by
  rw [forcedStop_eq]
  split
  · have resolver := demandFall_resolverKept (evaluateAs false (clearClaims s))
    obtain ⟨trg, chc, dlk, fmg, pkm, woke⟩ := demandFall_frame (evaluateAs false (clearClaims s))
    exact ⟨trg, resolver.trigger, resolver.host, resolver.demand, chc, dlk, fmg, pkm, woke⟩
  · next rests => exact ⟨rfl, rfl, rfl, Bool.not_eq_true _ ▸ rests, rfl, rfl, rfl, rfl, rfl⟩

end Sys2Proof.Proofs

namespace Sys2Proof.Proofs

open Sys2Proof.Machine Sys2Proof.Safety

/-! ### A forced stop of a parked motor, and SLEEP (R8, R184) -/

/-- A motor in OFF or TRIPPED is not reached by a fall of run demand (R24). -/
theorem demandFall_parked {s : State} (h : motorParked s.mdr.state = true) : demandFall s = s := by
  unfold demandFall
  cases m : s.mdr.state <;> simp [m, motorParked] at h ⊢

/-- What a recomputation that leaves run demand false does to a parked motor: the record alone is evaluated. -/
theorem demandRefresh_parked {s : State} (h : motorParked s.mdr.state = true) (idle : wantsToRun s = false) :
    demandRefresh s = if s.drs.record.runDemand then evaluateAs false s else s := by
  have fall : demandFall (evaluateAs false s) = evaluateAs false s := demandFall_parked (s := evaluateAs false s) h
  cases d : s.drs.record.runDemand <;> simp [demandRefresh, idle, d, fall]

/-- A forced stop of a parked motor reaches the resolver and the re-arm flag alone (R8). -/
theorem forcedStop_parked {s : State} (h : motorParked s.mdr.state = true) :
    forcedStop s = if s.drs.record.runDemand then evaluateAs false (clearClaims s) else clearClaims s :=
  demandRefresh_parked (s := clearClaims s) h rfl

/-- What a forced stop of a parked motor leaves alone, besides what every forced stop does. -/
theorem forcedStop_parked_frame {s : State} (h : motorParked s.mdr.state = true) :
    (forcedStop s).mdr = s.mdr ∧ (forcedStop s).pkm = s.pkm ∧ (forcedStop s).chc = s.chc ∧ (forcedStop s).dlk = s.dlk ∧
      (forcedStop s).icn = s.icn ∧ (forcedStop s).fmg = s.fmg ∧ (forcedStop s).mpt = s.mpt ∧
      (forcedStop s).slc = s.slc := by
  rw [forcedStop_parked h]
  split <;> simp [clearClaims, evaluateAs]

/-- What an abort of the edit leaves alone on the host line and of the counters. -/
@[simp] theorem abortEdit_port (cause : AbortCause) (s : State) :
    (abortEdit cause s).mpt.tx = s.mpt.tx ∧ (abortEdit cause s).mpt.replies = s.mpt.replies ∧
      (abortEdit cause s).mpt.rx = s.mpt.rx ∧ (abortEdit cause s).icn.counters = s.icn.counters := by
  unfold abortEdit
  split <;> simp

/-- Entering SLEEP with a parked motor: claims, run demand and edit gone, WATCH scans, and all else as it stood but the
re-arm flag and what the abort of the edit raises (R8, R16, R99, R184). -/
theorem enterSleep_parked {s : State} (h : motorParked s.mdr.state = true) :
    (enterSleep s).drs.triggerClaim = false ∧ (enterSleep s).drs.hostClaim = false ∧ (enterSleep s).drs.edit = none ∧
      (enterSleep s).drs.record.runDemand = false ∧ (enterSleep s).pkm.interval = .watch ∧ (enterSleep s).mdr = s.mdr ∧
      (enterSleep s).gge = s.gge ∧ (enterSleep s).sbt = s.sbt ∧ (enterSleep s).chc = s.chc ∧
      (enterSleep s).dlk = s.dlk ∧ (enterSleep s).fmg = s.fmg ∧ (enterSleep s).mpt.tx = s.mpt.tx ∧
      (enterSleep s).mpt.replies = s.mpt.replies ∧ ParamsKept s (enterSleep s) ∧ RestKept s (enterSleep s) := by
  let t := s.setSlc { s.slc with power := .sleep, idle := 0, entry := .none }
  have parked : motorParked t.mdr.state = true := h
  obtain ⟨_, trigger, host, demand, _⟩ := forcedStop_stops t
  obtain ⟨mdr, _, chc, dlk, icn, fmg, mpt, slc⟩ := forcedStop_parked_frame parked
  have asleep : enterSleep s = chooseInterval (abortEdit .sleep (forcedStop t)) := rfl
  rw [asleep]
  simp [chooseInterval, intervalOf, ParamsKept, RestKept, trigger, host, demand, mdr, chc, dlk, icn, fmg, mpt, slc, t]

theorem beginTransmission_asleep {s : State} (h : s.slc.power ≠ .on) : beginTransmission s = s := by
  simp [beginTransmission, h]

/-! ### What a reset leaves (R187) -/

/-- The part after a reset and its start-up, by what the reset keeps. -/
def startedUp (cause : ResetCause) (sbt : Sbt) (gge : Gge) (icn : Icn) (raw : Level) (rearm contact : Bool)
    (pending : List Instr) : State :=
  { State.reset with
    trg := { Trg.reset with raw := raw, rearm := rearm }
    pkm := startedPkm, chc := startedChc contact, dlk := startedDlk contact
    sbt := sbt, gge := gge, icn := icn
    mpt := startedMpt cause contact, slc := Slc.reset cause, pending := pending }

theorem powerReset_eq (cause : ResetCause) (s : State) :
    powerReset cause s = startedUp cause Sbt.reset Gge.reset Icn.reset s.trg.raw
      (decide (s.trg.debounced = some .pressed)) s.dlk.contact s.pending :=
  startAtOnce_resetValues cause Sbt.reset Gge.reset Icn.reset s.trg.raw _ s.dlk.contact s.pending

theorem hostReset_eq (s : State) :
    hostReset s = startedUp .hostReset (hostResetSbt s.sbt) (hostResetGge s.gge)
      { counters := s.icn.counters, pending := Four.replicate false } s.trg.raw
      (decide (s.trg.debounced = some .pressed)) s.dlk.contact s.pending :=
  startAtOnce_resetValues .hostReset (hostResetSbt s.sbt) (hostResetGge s.gge) _ s.trg.raw _ s.dlk.contact s.pending

/-- What a transmission begun at start-up leaves alone: RESTARTED reports no counter (R178, R187). -/
theorem beginTransmission_startedUp_icn (cause : ResetCause) (sbt : Sbt) (gge : Gge) (icn : Icn) (raw : Level)
    (rearm contact : Bool) (pending : List Instr) :
    (beginTransmission (startedUp cause sbt gge icn raw rearm contact pending)).icn = icn := rfl

/-- Settles O11: a RESET is the start-up on the values kept, with its reply begun at once. -/
theorem resetRestarts : Obligations.ResetRestarts := by
  intro tag s powered
  refine ⟨_, rfl, ?_⟩
  have reset : whilePowered (resetRequest tag) s = beginTransmission (resetRequest tag s) := if_neg powered
  simp only [reset, resetRequest, hostReset_eq]
  refine ⟨rfl, rfl, rfl, rfl, rfl, rfl, rfl, rfl, rfl, rfl, rfl, rfl, ?_, rfl, rfl, rfl, ⟨rfl, rfl, rfl, rfl, rfl, rfl⟩, rfl⟩
  rfl

/-! ### SLEEP and SHIP (R184, R186) -/

/-- An entry asked for while the motor is parked and no dock there is kept (R184, R186). -/
theorem keptEntry_parked {m : MotorState} (h : motorParked m = true) (e : PendingEntry) : keptEntry m .absent e = e := by
  simp [keptEntry, h]

theorem keptEntry_abandoned {m : MotorState} {d : DockState} (h : motorParked m = false ∨ d ≠ .absent)
    (e : PendingEntry) : keptEntry m d e = .none := by
  unfold keptEntry
  obtain h | h := h <;> simp [h]

/-- The state in which the entry that awaited its reply is made. -/
def entering (s : State) : State :=
  s.setMpt { s.mpt with tx := none, replies := s.mpt.replies.tail, outstanding := none }

/-- The end of a reply that answered a request makes the entry that awaited it (R178, R184, R186). -/
theorem exec_transmitEnd_entry {s : State} {r : Reply} (on : s.slc.power = .on) (sends : s.mpt.tx = some (.reply r))
    (answers : r.status ≠ .overlap) : exec .transmitEnd s = .next (beginTransmission (makeEntry (entering s))) := by
  refine congrArg Host.Outcome.next ?_
  simp only [whilePowered, on, sends, replyEnded, if_neg answers, reduceCtorEq, if_false]
  rfl

/-- Settles O12: the acceptance of both requests, and the entry made at the end of their reply. -/
theorem sleepAndShip : Obligations.SleepAndShip := by
  intro tag r s
  refine ⟨fun h => ⟨?_, ?_⟩, fun on sends answers _ => ⟨fun parked undocked asked => ?_,
    fun parked undocked asked below => ?_, fun parked undocked asked above => ?_, fun left => ?_⟩⟩
  · refine congrArg Host.Outcome.next ?_
    split
    · next good =>
      exact onRequest_of_offline (op := fun w => w.setSlc { s.slc with entry := .sleep }) h (fun _ _ => rfl) rfl
        (by simp [serveSleep, motorParked, good.1, good.2])
    · next bad => exact onRequest_of_answer h (by simp [serveSleep, motorParked, bad, refuse])
  · refine congrArg Host.Outcome.next ?_
    split
    · next good =>
      exact onRequest_of_offline (op := fun w => w.setSlc { s.slc with entry := .ship }) h (fun _ _ => rfl) rfl
        (by simp [serveShip, good])
    · next bad => exact onRequest_of_answer h (by simp [serveShip, bad, refuse])
  all_goals refine ⟨_, exec_transmitEnd_entry on sends answers, ?_⟩
  · have made : makeEntry (entering s) = enterSleep (entering s) := by
      simp [makeEntry, entering, keptEntry_parked parked, undocked, asked]
    have slc := enterSleep_slc (entering s)
    obtain ⟨trigger, host, edit, demand, interval, _, _, _, _, _, _, tx, replies, params, rest⟩ :=
      enterSleep_parked (s := entering s) parked
    rw [made, beginTransmission_asleep (by rw [slc]; simp)]
    exact ⟨by rw [slc], by rw [slc], by rw [slc], interval, edit, trigger, host, demand, tx, replies, params, rest⟩
  · have made : makeEntry (entering s) = shipEntry (entering s) := by
      simp [makeEntry, entering, keptEntry_parked parked, undocked, asked]
    have lost : makeEntry (entering s) = (resetValues .shipWake ((entering s).setTrg { s.trg with debounced := none })).setSlc
        { Slc.reset .shipWake with power := .ship } := by
      rw [made]
      exact if_neg (by simp [entering, below])
    rw [lost]
    exact ⟨rfl, rfl, rfl, rfl, rfl, rfl⟩
  · have made : makeEntry (entering s) = shipEntry (entering s) := by
      simp [makeEntry, entering, keptEntry_parked parked, undocked, asked]
    have woken : makeEntry (entering s) =
        startedUp .shipWake Sbt.reset Gge.reset Icn.reset s.trg.raw false true s.pending := by
      rw [made, shipEntry, if_pos (by simp [entering, above]), powerReset_eq]
      simp [entering, above]
    rw [woken]
    exact ⟨rfl, rfl, rfl, rfl, rfl, rfl, rfl, rfl⟩
  · have made : makeEntry (entering s) = (entering s).setSlc { s.slc with entry := .none } := by
      simp [makeEntry, entering, keptEntry_abandoned left]
    rw [made]
    simp [on, entering, SuctionKept, PackKept]

end Sys2Proof.Proofs

namespace Sys2Proof.Proofs

open Sys2Proof.Machine Sys2Proof.Safety

/-! ### RUN START, RUN STOP and STEP_SELECT (R6, R7, R9) -/

theorem firstInhibit_received (kind tag : Byte) (s : State) :
    firstInhibit (received kind tag (beginTransmission s)) = firstInhibit s :=
  firstInhibit_congr (by simp) (by simp) (by simp) (by simp) (by simp)

theorem runningRecord_received (kind tag : Byte) (d : Drs) (s : State) :
    runningRecord ((received kind tag (beginTransmission s)).setDrs d) = runningRecord (s.setDrs d) :=
  runningRecord_congr rfl rfl (by simp) (by simp) (by simp) (by simp) (by simp)

/-- The claims and the edit are no part of what the record is evaluated from. -/
theorem runningRecord_setDrs {d : Drs} {s : State} (profile : d.profile = s.drs.profile) (step : d.step = s.drs.step) :
    runningRecord (s.setDrs d) = runningRecord s := runningRecord_congr profile step rfl rfl rfl rfl rfl

theorem clampNat_natCast (lo hi n : Nat) : clampNat lo hi (n : Int) = max lo (min hi n) := by
  simp only [clampNat, clampInt]
  omega

/-- The boost, by the conditions of R19. -/
theorem boostOf_eq (s : State) : boostOf s =
    if (activeSettings s).boostEnable = true ∧ s.pkm.state ≠ .low ∧ s.pkm.state ≠ .cutoff ∧ s.blm.state ≠ .blocked ∧
        s.blm.state ≠ .retrying then
      min (activeSettings s).boostMax ((s.dse.db - s.drs.profile.boostThreshold) * s.drs.profile.boostSlope)
    else 0 := by
  simp only [boostOf, boostAllowed, Bool.and_eq_true, decide_eq_true_eq, and_assoc]

section
variable {tag : Byte} {s : State}

theorem runStart_inhibited {i : Inhibit} (h : Accepts s) (inhibit : firstInhibit s = some i) :
    onRequest 0x10#8 tag serveRunStart s =
      if i = .docked then replied 0x10#8 tag .docked .empty (beginTransmission s)
      else replied 0x10#8 tag .inhibited (.cause i) (beginTransmission s) := by
  split
  · next docked =>
    subst docked
    exact onRequest_of_answer h (by simp only [serveRunStart, firstInhibit_received, inhibit, refuse])
  · next other =>
    refine onRequest_of_answer h ?_
    simp only [serveRunStart, firstInhibit_received, inhibit]

theorem wantsToRun_claimed {d : Drs} {w : State} (free : firstInhibit w = none) (host : d.hostClaim = true) :
    wantsToRun (w.setDrs d) = true := by
  have same : firstInhibit (w.setDrs d) = none := free
  simp [wantsToRun, host, same]

/-- A claim of the host with no inhibit and run demand already true (R6, R7). -/
theorem runStart_stands (h : Accepts s) (free : firstInhibit s = none) (demand : s.drs.record.runDemand = true) :
    onRequest 0x10#8 tag serveRunStart s = replied 0x10#8 tag .ok (.claims s.drs.triggerClaim true true)
      ((beginTransmission s).setDrs { s.drs with hostClaim := true }) := by
  refine onRequest_of_offline (op := fun w => w.setDrs { s.drs with hostClaim := true }) h (fun _ _ => rfl) (by simp) ?_
  have stands : demandRefresh ((received 0x10#8 tag (beginTransmission s)).setDrs { s.drs with hostClaim := true }) =
      (received 0x10#8 tag (beginTransmission s)).setDrs { s.drs with hostClaim := true } :=
    demandRefresh_stands ((wantsToRun_claimed ((firstInhibit_received ..).trans free) rfl).trans demand.symm)
  simp only [serveRunStart, firstInhibit_received, free, received_frame, beginTransmission_frame, stands, claimsBody,
    State.setDrs_drs, demand]

/-- A claim of the host with no inhibit, which starts a motor in OFF (R6, R7, R24). -/
theorem runStart_starts (h : Accepts s) (free : firstInhibit s = none) (demand : s.drs.record.runDemand = false)
    (off : s.mdr.state = .off) :
    onRequest 0x10#8 tag serveRunStart s = replied 0x10#8 tag .ok (.claims s.drs.triggerClaim true true)
      (motorTo .precheck .demand false
        ((beginTransmission s).setDrs { s.drs with hostClaim := true, record := runningRecord s })) := by
  refine onRequest_of_offline (op := fun w => motorTo .precheck .demand false
    (w.setDrs { s.drs with hostClaim := true, record := runningRecord s })) h (fun _ _ => by simp) (by simp) ?_
  have starts : demandRefresh ((received 0x10#8 tag (beginTransmission s)).setDrs { s.drs with hostClaim := true }) =
      motorTo .precheck .demand false ((received 0x10#8 tag (beginTransmission s)).setDrs
        { s.drs with hostClaim := true, record := runningRecord s }) := by
    refine (demandRefresh_starts ?_ ?_ (.inl ?_)).trans ?_
    · exact wantsToRun_claimed ((firstInhibit_received ..).trans free) rfl
    · exact demand
    · simpa using off
    · have record : runningRecord (s.setDrs { s.drs with hostClaim := true }) = runningRecord s :=
        runningRecord_setDrs rfl rfl
      rw [evaluateAs, if_pos rfl, runningRecord_received, record]
      rfl
  have drs : (motorTo .precheck .demand false ((received 0x10#8 tag (beginTransmission s)).setDrs
      { s.drs with hostClaim := true, record := runningRecord s })).drs =
        { s.drs with hostClaim := true, record := runningRecord s } := by
    rw [motorTo_moving_drs rfl (by simp) (by simp [off])]
    rfl
  simp only [serveRunStart, firstInhibit_received, free, received_frame, beginTransmission_frame, starts, claimsBody, drs]
  rfl

theorem wantsToRun_unhosted {d : Drs} {w : State} (trigger : d.triggerClaim = false) (host : d.hostClaim = false) :
    wantsToRun (w.setDrs d) = false := by simp [wantsToRun, trigger, host]

/-- RUN STOP under the trigger's claim, or with no run demand to fall (R6, R7). -/
theorem runStop_stands (h : Accepts s) (follows : DemandFollows s)
    (kept : s.drs.record.runDemand = false ∨ s.drs.triggerClaim = true) :
    onRequest 0x11#8 tag serveRunStop s = replied 0x11#8 tag .ok (.claims s.drs.triggerClaim false s.drs.record.runDemand)
      ((beginTransmission s).setDrs { s.drs with hostClaim := false }) := by
  refine onRequest_of_offline (op := fun w => w.setDrs { s.drs with hostClaim := false }) h (fun _ _ => rfl) (by simp) ?_
  have want : wantsToRun ((received 0x11#8 tag (beginTransmission s)).setDrs { s.drs with hostClaim := false }) =
      s.drs.record.runDemand := by
    have same : firstInhibit ((received 0x11#8 tag (beginTransmission s)).setDrs { s.drs with hostClaim := false }) =
        firstInhibit s := firstInhibit_received 0x11#8 tag s
    have demand : s.drs.record.runDemand = wantsToRun s := follows
    rw [demand] at kept ⊢
    simp only [wantsToRun, same, State.setDrs_drs] at kept ⊢
    obtain falls | claimed := kept
    · cases s.drs.triggerClaim <;> simp_all
    · simp [claimed]
  simp only [serveRunStop, received_frame, beginTransmission_frame, demandRefresh_stands (want.trans rfl), claimsBody,
    State.setDrs_drs]

/-- RUN STOP with no other claim: run demand falls, and what that does to the motor (R6, R24, R38). -/
theorem runStop_falls {op : State → State} (h : Accepts s) (offline : Offline op)
    (power : (op (beginTransmission s)).slc.power = s.slc.power)
    (falls : demandRefresh ((received 0x11#8 tag (beginTransmission s)).setDrs { s.drs with hostClaim := false }) =
      op (received 0x11#8 tag (beginTransmission s)))
    (resolver : ResolverKept
      ((received 0x11#8 tag (beginTransmission s)).setDrs { s.drs with hostClaim := false, record := DemandRecord.idle })
      (op (received 0x11#8 tag (beginTransmission s)))) (trigger : s.drs.triggerClaim = false) :
    onRequest 0x11#8 tag serveRunStop s = replied 0x11#8 tag .ok (.claims false false false) (op (beginTransmission s)) := by
  refine onRequest_of_offline h offline power ?_
  simp only [serveRunStop, received_frame, beginTransmission_frame, falls, claimsBody, resolver.trigger, resolver.host,
    resolver.demand]
  simp only [State.setDrs_drs, trigger]
  rfl

/-- STEP_SELECT on a code of the three (R9, R22). -/
theorem stepSelect_taken {code : Byte} {st : Step} (h : Accepts s) (known : Step.ofCode code.toNat = some st)
    {r : DemandRecord} (evaluated : r = if s.drs.record.runDemand then
      runningRecord (s.setDrs { s.drs with step := st }) else DemandRecord.idle) :
    onRequest 0x12#8 tag (serveStepSelect code) s = replied 0x12#8 tag .ok (.step st r.sReq r.iC)
      ((beginTransmission s).setDrs { s.drs with step := st, record := r }) := by
  refine onRequest_of_offline (op := fun w => w.setDrs { s.drs with step := st, record := r }) h (fun _ _ => rfl) (by simp) ?_
  have record := runningRecord_received 0x12#8 tag { s.drs with step := st } s
  simp only [serveStepSelect, known, received_frame, beginTransmission_frame, evaluate, evaluateAs, State.setDrs_drs,
    record, ← evaluated]
  rfl

end

/-- Settles O13: the claims recomputed, run demand rising, falling or standing with them. -/
theorem claimRequests : Obligations.ClaimRequests := by
  intro tag i code st s record
  have written (step : Step) : record step s = runningRecord (s.setDrs { s.drs with step := step }) := by
    simp only [runningRecord, clampNat_natCast, wantedSpeed, causesOf, boostOf_eq]
    cases step <;> rfl
  refine ⟨fun h => ⟨fun inhibit => ?_, fun free stands => ?_, fun free rests off => ?_⟩,
    fun h follows => ⟨fun kept => ?_, fun falls alone runs => ?_, fun falls alone coast => ?_⟩,
    fun h => ⟨fun _ known => ?_, fun bad => ?_⟩⟩
  · exact congrArg Host.Outcome.next (runStart_inhibited h inhibit)
  · exact congrArg Host.Outcome.next (runStart_stands h free stands)
  · rw [written]
    exact congrArg Host.Outcome.next (runStart_starts h free rests off)
  · exact congrArg Host.Outcome.next (runStop_stands h follows kept)
  · refine congrArg Host.Outcome.next (runStop_falls
      (op := fun w => motorTo .coast .demandFall false (w.setDrs { s.drs with hostClaim := false, record := DemandRecord.idle }))
      h (fun _ _ => by simp) (by simp) ?_ (motorTo_resolverKept (by simp) ..) alone)
    exact demandRefresh_coasts (wantsToRun_unhosted alone rfl) falls (by simpa using runs)
  · refine congrArg Host.Outcome.next (runStop_falls
      (op := fun w => (w.setDrs { s.drs with hostClaim := false, record := DemandRecord.idle }).setMdr
        { s.mdr with startPending := false }) h (fun _ _ => rfl) (by simp) ?_ (.of_drs rfl) alone)
    refine (demandRefresh_unpends ?_ ?_ ?_).trans ?_
    · exact wantsToRun_unhosted alone rfl
    · exact falls
    · simpa using coast
    · simp [evaluateAs]
      rfl
  · refine congrArg Host.Outcome.next (stepSelect_taken h known ?_)
    rw [written]
    rfl
  · have unknown : Step.ofCode code.toNat = none := by
      unfold Step.ofCode
      split
      · omega
      · omega
      · omega
      · rfl
    exact congrArg Host.Outcome.next (onRequest_of_answer h (by simp only [serveStepSelect, unknown, refuse]))

end Sys2Proof.Proofs

namespace Sys2Proof.Proofs

open Sys2Proof.Machine Sys2Proof.Safety

/-- Settles O4: every command in SHIP is the identity but the resets and the two pins. -/
theorem shipIgnores : Obligations.ShipIgnores := by
  intro c level s ship
  have idle (t : State) (h : t.slc.power = .ship) : whilePowered id t = t := if_pos h
  refine ⟨fun other => ?_, ?_, ?_, ?_⟩
  · cases c
    case powerOn => simp at other
    case shipWake => simp at other
    case dockContactRise => simp at other
    case contactVoltageFall => simp at other
    case triggerRawChange level => cases level <;> simp at other
    all_goals exact congrArg Host.Outcome.next (if_pos ship)
  · rintro (rfl | rfl)
    all_goals
      refine ⟨_, congrArg Host.Outcome.next (if_pos ship), ?_⟩
      rw [powerReset_eq]
      exact ⟨rfl, rfl, rfl, rfl, rfl, rfl, rfl⟩
  · exact congrArg Host.Outcome.next (idle _ ship)
  · refine congrArg Host.Outcome.next ?_
    split
    · exact idle s ship
    · exact idle _ ship

/-! ### The wakes (R185) -/

/-- The part as a wake leaves it before run demand is recomputed and the transmitter resumes (R185). -/
def awakened (cause : WakeCause) (s : State) : State :=
  chooseInterval ((s.setSlc { s.slc with power := .on, wakeCause := cause, idle := 0 }).setPkm
    { s.pkm with lastOnStart := none })

/-- With no claim a wake leaves run demand false and the motor alone. -/
theorem wakeIfAsleep_unclaimed {s : State} (asleep : s.slc.power = .sleep) (trigger : s.drs.triggerClaim = false)
    (host : s.drs.hostClaim = false) (demand : s.drs.record.runDemand = false) (cause : WakeCause) :
    wakeIfAsleep cause s = beginTransmission (awakened cause s) := by
  have stands : demandRefresh (awakened cause s) = awakened cause s := demandRefresh_unclaimed trigger host demand
  rw [wakeIfAsleep, if_pos asleep, ← stands]
  rfl

/-- A free transmitter in ON with no reply queued begins the oldest notice (R178). -/
theorem beginTransmission_notice {s : State} {e : NoticeEntry} {es : List NoticeEntry} (on : s.slc.power = .on)
    (free : s.mpt.tx = none) (replies : s.mpt.replies = []) (notices : s.mpt.notices = e :: es) :
    (beginTransmission s).mpt.tx = some (.notice e) := by
  simp only [beginTransmission, on, free, replies, notices, and_self, if_true]
  split <;> simp

/-- A transmitter that sends goes on sending. -/
theorem beginTransmission_sends {s : State} {f : TxFrame} (h : s.mpt.tx = some f) :
    (beginTransmission s).mpt.tx = some f := by
  rw [beginTransmission_of_busy s (by simp [h]), h]

/-- The part has been woken from `s` by a cause and the event handled in ON: what the wake wrote stands, and the oldest
notice is being sent (R185). -/
structure Woken (cause : WakeCause) (s t : State) : Prop where
  power : t.slc.power = .on
  cause : t.slc.wakeCause = cause
  idle : t.slc.idle = 0
  uptime : t.slc.uptime = s.slc.uptime
  restarted : t.pkm.lastOnStart = none
  sbt : t.sbt = s.sbt
  gge : t.gge = s.gge
  params : ParamsKept s t
  pending : t.pending = s.pending
  sends : ∀ e es, s.mpt.tx = none → s.mpt.replies = [] → s.mpt.notices = e :: es → t.mpt.tx = some (.notice e)

theorem Woken.of_begun (cause : WakeCause) (s : State) : Woken cause s (beginTransmission (awakened cause s)) where
  power := by simp [awakened, chooseInterval]
  cause := by simp [awakened, chooseInterval]
  idle := by simp [awakened, chooseInterval]
  uptime := by simp [awakened, chooseInterval]
  restarted := by simp [awakened, chooseInterval]
  sbt := by simp [awakened, chooseInterval]
  gge := by simp [awakened, chooseInterval]
  params := by simp [awakened, chooseInterval, ParamsKept]
  pending := by simp [awakened, chooseInterval]
  sends := fun e es free replies notices => beginTransmission_notice rfl free replies notices

/-- The pins are no part of what a wake rests on. -/
theorem Woken.of_pins {cause : WakeCause} {s t : State} {g : Trg} {d : Dlk} (h : Woken cause ((s.setTrg g).setDlk d) t) :
    Woken cause s t :=
  ⟨h.power, h.cause, h.idle, h.uptime, h.restarted, h.sbt, h.gge, h.params, h.pending, h.sends⟩

/-- What a woken part does next leaves the wake's marks, where it keeps these. -/
theorem Woken.trans {cause : WakeCause} {s t u : State} (h : Woken cause s t)
    (power : u.slc.power = t.slc.power) (woke : u.slc.wakeCause = t.slc.wakeCause) (idle : u.slc.idle = 0)
    (uptime : u.slc.uptime = t.slc.uptime) (restarted : u.pkm.lastOnStart = t.pkm.lastOnStart) (sbt : u.sbt = t.sbt)
    (gge : u.gge = t.gge) (params : ParamsKept t u) (pending : u.pending = t.pending)
    (sends : ∀ e, t.mpt.tx = some (.notice e) → u.mpt.tx = some (.notice e)) : Woken cause s u where
  power := power.trans h.power
  cause := woke.trans h.cause
  idle := idle
  uptime := uptime.trans h.uptime
  restarted := restarted.trans h.restarted
  sbt := sbt.trans h.sbt
  gge := gge.trans h.gge
  params := by
    obtain ⟨p1, p2, p3, p4, p5, p6⟩ := params
    obtain ⟨q1, q2, q3, q4, q5, q6⟩ := h.params
    exact ⟨p1.trans q1, p2.trans q2, p3.trans q3, p4.trans q4, p5.trans q5, p6.trans q6⟩
  pending := pending.trans h.pending
  sends := fun e es free replies notices => sends e (h.sends e es free replies notices)

/-- The statement's form: for the oldest notice waiting. -/
theorem Woken.marks {cause : WakeCause} {s t : State} (h : Woken cause s t) (e : NoticeEntry) (es : List NoticeEntry) :
    t.slc.power = .on ∧ t.slc.wakeCause = cause ∧ t.slc.idle = 0 ∧ t.slc.uptime = s.slc.uptime ∧
      t.pkm.lastOnStart = none ∧ t.sbt = s.sbt ∧ t.gge = s.gge ∧ ParamsKept s t ∧ t.pending = s.pending ∧
      (s.mpt.tx = none → s.mpt.replies = [] → s.mpt.notices = e :: es → t.mpt.tx = some (.notice e)) :=
  ⟨h.power, h.cause, h.idle, h.uptime, h.restarted, h.sbt, h.gge, h.params, h.pending, h.sends e es⟩

/-! ### A dock that has just arrived (R128, R143) -/

theorem grantInForce_settling {d : Dlk} (h : d.state = .settling) : grantInForce d = 0 := by simp [grantInForce, h]

/-- In SETTLING a change of charge state has nothing to say to the dock. -/
theorem changeCharge_settling {s : State} (h : s.dlk.state = .settling) (new : ChargeState) (cause : ChargeCause)
    (set : SuspendSet) : (changeCharge new cause set s).dlk = s.dlk ∧
      (changeCharge new cause set s).pkm.lastOnStart = s.pkm.lastOnStart := by
  unfold changeCharge
  dsimp only
  repeat' split
  all_goals simp [qualifyEntered, h, applyBleed, chooseInterval, releaseCutoff, changePackState]

/-- In SETTLING, with no grant, QUALIFY can only be suspended for the host's pause (R129). -/
theorem judgeQualify_settling {s : State} (h : s.dlk.state = .settling) :
    judgeQualify s = if s.chc.state = .qualify ∧ motorParked s.mdr.state = true ∧ s.chc.pause = true then
      enterSuspend false s else s := by
  unfold judgeQualify
  rw [grantInForce_settling h]
  simp only [h]
  split <;> simp_all
  split <;> simp_all

@[simp] theorem forcedStop_onLine (l : Mpt) (s : State) : forcedStop (onLine l s) = onLine l (forcedStop s) := by
  simp [forcedStop]

@[simp] theorem dockSeen_onLine (l : Mpt) (s : State) : dockSeen (onLine l s) = onLine l (dockSeen s) := by
  simp [dockSeen]

@[simp] theorem dockArrival_onLine (l : Mpt) (s : State) : dockArrival (onLine l s) = onLine l (dockArrival s) := by
  simp [dockArrival, deliverDockSlc]

/-- Around its forced stop, an arrival reaches the link, the charge controller and what hangs on it (R128, R143). -/
theorem dockArrival_arrives (s : State) :
    (dockArrival s).dlk = arrivedDlk s.dlk ∧ (dockArrival s).mdr = (forcedStop (s.setDlk (arrivedDlk s.dlk))).mdr ∧
      (dockArrival s).trg = { s.trg with rearm := s.trg.rearm || decide (s.trg.debounced = some .pressed) } ∧
      (dockArrival s).drs.triggerClaim = false ∧ (dockArrival s).drs.hostClaim = false ∧
      (dockArrival s).drs.record.runDemand = false ∧ (dockArrival s).slc.idle = 0 ∧
      (dockArrival s).pkm.lastOnStart = s.pkm.lastOnStart ∧ (dockArrival s).slc.wakeCause = s.slc.wakeCause ∧
      (dockArrival s).fmg = s.fmg := by
  let t := forcedStop (s.setDlk (arrivedDlk s.dlk))
  obtain ⟨trg, trigger, host, demand, chc, dlk, fmg, pkm, woke⟩ := forcedStop_stops (s.setDlk (arrivedDlk s.dlk))
  let u := raiseDockNotice false .absent .contact t
  have settled : u.dlk.state = .settling := by simp [u, t, arrivedDlk]
  have seen : (dockSeen u).dlk = u.dlk ∧ (dockSeen u).pkm.lastOnStart = u.pkm.lastOnStart := by
    unfold dockSeen
    split
    · exact changeCharge_settling settled ..
    · simp
  have judged : (judgeQualify (dockSeen u)).dlk = u.dlk ∧ (judgeQualify (dockSeen u)).pkm.lastOnStart = u.pkm.lastOnStart ∧
      (judgeQualify (dockSeen u)).fmg = u.fmg := by
    rw [judgeQualify_settling (by simpa using settled)]
    split
    · obtain ⟨d, p⟩ := changeCharge_settling (s := dockSeen u) (by simpa using settled) .suspend .suspended _
      exact ⟨d.trans seen.1, p.trans seen.2, by simp⟩
    · exact ⟨seen.1, seen.2, by simp⟩
  have arrival : dockArrival s = deliverDockSlc (judgeQualify (dockSeen u)) := rfl
  have claims : (dockSeen u).drs.triggerClaim = u.drs.triggerClaim ∧ (dockSeen u).drs.hostClaim = u.drs.hostClaim ∧
      (dockSeen u).drs.record.runDemand = u.drs.record.runDemand := by
    unfold dockSeen
    split <;> simp
  rw [arrival]
  simp [deliverDockSlc, deliverSlc, judged, claims, u, t, trg, trigger, host, demand, dlk, fmg, pkm, woke]
  rfl

/-! ### The power events (R184 to R187) -/

/-- The debounced level has taken a new level (R1). -/
def determined (l : Level) (s : State) : State := s.setTrg { s.trg with debounced := some l, timer := 0 }

/-- Where the debounced level differs from the raw one, the debounce is an edge (R1). -/
theorem debounced_edge {s : State} {l : Level} (was : s.trg.debounced = some l) (other : l ≠ s.trg.raw) :
    debounced s = triggerEdge s.trg.raw (determined s.trg.raw s) := by
  simp [debounced, was, other, determined]

/-- A press that is accepted: the claim by the trigger's mode, and its notice (R2, R5). -/
theorem triggerPress_accepted {s : State} (free : firstInhibit s = none) (armed : s.trg.rearm = false) :
    triggerPress s = raise (.trigger { edge := .pressed, mode := s.trg.mode
                                       claim := pressedClaim s.trg.mode s.drs.triggerClaim, inhibited := false
                                       cause := none, rearm := false })
      (s.setDrs { s.drs with triggerClaim := pressedClaim s.trg.mode s.drs.triggerClaim }) := by
  simp [triggerPress, free, armed, raiseTriggerNotice]

/-- A press that wakes the part and starts a motor at rest, with nothing inhibiting (R2, R24, R185). -/
theorem debounced_wakes {s : State} (asleep : s.slc.power = .sleep) (trigger : s.drs.triggerClaim = false)
    (host : s.drs.hostClaim = false) (demand : s.drs.record.runDemand = false)
    (was : s.trg.debounced = some .released) (press : s.trg.raw = .pressed) (armed : s.trg.rearm = false)
    (hold : s.trg.mode = .hold) (off : s.mdr.state = .off) (undocked : s.dlk.state = .absent)
    (idle : s.chc.state = .idle) (charged : s.pkm.state ≠ .cutoff) :
    ∃ n, debounced s = idleZero (motorTo .precheck .demand false (evaluateAs true (raise n
      ((beginTransmission (awakened .trigger (determined .pressed s))).setDrs { s.drs with triggerClaim := true })))) := by
  let w := beginTransmission (awakened .trigger (determined .pressed s))
  have woke : wakeIfAsleep .trigger (determined .pressed s) = w :=
    wakeIfAsleep_unclaimed (s := determined .pressed s) asleep trigger host demand .trigger
  have free : firstInhibit w = none := by
    rw [← Option.isNone_iff_eq_none, firstInhibit_isNone]
    simp [w, awakened, chooseInterval, determined, undocked, idle, charged, off]
  have mode : w.trg.mode = .hold := by simp [w, awakened, chooseInterval, determined, hold]
  have drs : w.drs = s.drs := by simp [w, awakened, chooseInterval, determined]
  have pressed := triggerPress_accepted free (show w.trg.rearm = false by simp [w, awakened, chooseInterval, determined, armed])
  rw [mode, drs] at pressed
  have claimed : wantsToRun (triggerPress w) = true := by
    rw [pressed]
    simp [wantsToRun, free, pressedClaim]
  have rests : (triggerPress w).drs.record.runDemand = false ∧ (triggerPress w).mdr.state = .off := by
    rw [pressed]
    simp [demand, w, awakened, chooseInterval, determined, off]
  have edge : debounced s = idleZero (motorTo .precheck .demand false (evaluateAs true (triggerPress w))) := by
    rw [debounced_edge was (by simp [press]), press, triggerEdge, woke, demandRefresh_starts claimed rests.1 (.inl rests.2)]
  rw [pressed] at edge
  exact ⟨_, edge⟩

/-- A woken part whose trigger starts the motor (R24, R99, R185). -/
theorem Woken.starts {cause : WakeCause} {s w : State} (h : Woken cause s w) (off : w.mdr.state = .off) (n : Notice)
    {d : Drs} (trigger : d.triggerClaim = true) :
    let t := beginTransmission (idleZero (motorTo .precheck .demand false (evaluateAs true (raise n (w.setDrs d)))))
    Woken cause s t ∧ t.drs.triggerClaim = true ∧ t.drs.record.runDemand = true ∧ t.mdr.state = .precheck ∧
      t.pkm.interval = .fast ∧ t.chc = w.chc ∧ t.dlk = w.dlk := by
  generalize hu : evaluateAs true (raise n (w.setDrs d)) = u
  have frame : u.mdr = w.mdr ∧ u.slc = w.slc ∧ u.pkm = w.pkm ∧ u.chc = w.chc ∧ u.dlk = w.dlk ∧ u.sbt = w.sbt ∧
      u.gge = w.gge ∧ ParamsKept w u ∧ u.pending = w.pending ∧ u.mpt.tx = w.mpt.tx ∧ u.drs.triggerClaim = true ∧
      u.drs.record.runDemand = true := by
    simp [← hu, evaluateAs, ParamsKept, runningRecord, trigger]
  obtain ⟨mdr, slc, pkm, chc, dlk, sbt, gge, params, pending, tx, claim, demand⟩ := frame
  obtain ⟨_, chc', dlk', _, pkm'⟩ := motorTo_moving (new := .precheck) rfl .demand false u
  have drs := motorTo_moving_drs (new := .precheck) rfl (by simp) (s := u) (by simp [mdr, off]) .demand false
  have port := ((motorTo_offline .precheck .demand false).port u).1
  refine ⟨h.trans ?_ ?_ ?_ ?_ ?_ ?_ ?_ ?_ ?_ fun e sends => beginTransmission_sends ?_, ?_⟩
  · simp [idleZero, slc]
  · simp [idleZero, slc]
  · simp [idleZero]
  · simp [idleZero, slc]
  · simp [idleZero, pkm', pkm]
  · simp [idleZero, sbt]
  · simp [idleZero, gge]
  · simpa [idleZero, ParamsKept] using params
  · simp [idleZero, pending]
  · simp [idleZero, port, tx, sends]
  · simp [idleZero, drs, claim, demand, pkm', slc, h.power, intervalOf, chc', chc, dlk', dlk]

/-- Settles O45: the start-up after each reset, the idle timer's expiry, and the three wakes. -/
theorem powerEvents : Obligations.PowerEvents := by
  intro e es byte stop s fresh
  refine ⟨congrArg Host.Outcome.next (powerReset_eq ..), fun powered => ?_, fun ship => ?_,
    fun on off undocked runs due => ?_, fun powered void => ?_, fun asleep trigger host demand => ⟨?_, ?_, ?_⟩⟩
  · exact congrArg Host.Outcome.next ((if_neg powered).trans (powerReset_eq ..))
  · exact congrArg Host.Outcome.next ((if_pos ship).trans (powerReset_eq ..))
  · have expires : exec .idleTimerExpiry s = .next (beginTransmission (enterSleep s)) := by
      refine congrArg Host.Outcome.next ?_
      simp [whilePowered, on, idleRuns, off, undocked, runs, due]
    have slc := enterSleep_slc s
    obtain ⟨trigger, host, edit, demand, interval, mdr, gge, sbt, chc, dlk, fmg, _, _, params, rest⟩ :=
      enterSleep_parked (s := s) (by simp [off, motorParked])
    refine ⟨_, expires, ?_⟩
    rw [beginTransmission_asleep (by simp [slc])]
    exact ⟨slc, trigger, host, edit, demand, interval, mdr, gge, sbt, chc, dlk, fmg, params, rest⟩
  · refine congrArg Host.Outcome.next ?_
    rw [whilePowered, if_neg powered, if_neg]
    rintro ⟨idle, runs, due⟩
    simp only [idleRuns, Bool.and_eq_true, decide_eq_true_eq] at idle
    obtain ⟨⟨on, off⟩, undocked⟩ := idle
    obtain h | h | h | h | h := void
    · exact h on
    · exact h off
    · exact h undocked
    · exact runs h
    · omega
  · intro was press armed hold off undocked idle charged
    obtain ⟨n, wakes⟩ := debounced_wakes asleep trigger host demand was press armed hold off undocked idle charged
    have powered : s.slc.power ≠ .ship := by simp [asleep]
    refine ⟨_, congrArg Host.Outcome.next ((if_neg powered).trans (congrArg beginTransmission wakes)), ?_⟩
    generalize hw : beginTransmission (awakened .trigger (determined .pressed s)) = w
    have woken : Woken .trigger s w := hw ▸ (Woken.of_begun .trigger (determined .pressed s)).of_pins (d := s.dlk)
    have stands : w.mdr = s.mdr ∧ w.chc = s.chc ∧ w.dlk = s.dlk := by
      simp [← hw, awakened, chooseInterval, determined]
    obtain ⟨mdr, chc, dlk⟩ := stands
    obtain ⟨marks, claim, run, precheck, fast, chc', dlk'⟩ := woken.starts (by simp [mdr, off]) n (d := { s.drs with triggerClaim := true }) rfl
    exact ⟨marks.marks e es, claim, run, precheck, fast, chc'.trans chc, dlk'.trans dlk⟩
  · intro undocked
    let a := s.setDlk { s.dlk with contact := true, lossTimer := none }
    have woke : wakeIfAsleep .dock a = beginTransmission (awakened .dock a) :=
      wakeIfAsleep_unclaimed (s := a) asleep trigger host demand .dock
    have risen : exec .dockContactRise s = .next (beginTransmission (dockArrival (beginTransmission (awakened .dock a)))) := by
      have powered : s.slc.power ≠ .ship := by simp [asleep]
      refine congrArg Host.Outcome.next ((if_neg powered).trans ((if_neg powered).trans (congrArg beginTransmission ?_)))
      rw [← woke]
      exact if_pos undocked
    refine ⟨_, risen, ?_⟩
    generalize hw : beginTransmission (awakened .dock a) = w
    have woken : Woken .dock s w := hw ▸ (Woken.of_begun .dock a).of_pins (g := s.trg)
    have stands : w.mdr = s.mdr ∧ w.drs = s.drs ∧ w.dlk = a.dlk := by simp [← hw, awakened, chooseInterval, a]
    obtain ⟨mdr, drs, dlk⟩ := stands
    obtain ⟨dlk', mdr', _, _, _, demand', idle', pkm', woke', _⟩ := dockArrival_arrives w
    have parked : (forcedStop (w.setDlk (arrivedDlk w.dlk))).mdr = s.mdr := by
      rw [forcedStop_eq, if_neg (by simp [drs, demand])]
      simp [clearClaims, mdr]
    have port := (Offline.port dockArrival_onLine w).1
    refine ⟨(woken.trans ?_ ?_ ?_ ?_ ?_ ?_ ?_ ?_ ?_ fun e sends => beginTransmission_sends ?_).marks e es, ?_⟩
    · simp
    · simp [woke']
    · simp [idle']
    · simp
    · simp [pkm']
    · simp
    · simp
    · simp [ParamsKept]
    · simp
    · simp [port, sends]
    · rw [parked] at mdr'
      simp [dlk', dlk, arrivedDlk, a, demand', mdr']
  · intro hunts
    generalize hw : beginTransmission (awakened .link s) = w
    have woken : Woken .link s w := hw ▸ Woken.of_begun .link s
    have stands : w.mdr = s.mdr ∧ w.drs = s.drs ∧ w.dlk = s.dlk ∧ w.chc = s.chc ∧ w.mpt.rx = .hunt := by
      simp [← hw, awakened, chooseInterval, hunts]
    obtain ⟨mdr, drs, dlk, chc, rx⟩ := stands
    have taken : exec (.linkWake byte stop) s = .next (beginTransmission (receiveByte byte stop w)) := by
      have powered : s.slc.power ≠ .ship := by simp [asleep]
      have begun : beginTransmission (wakeIfAsleep .link s) = w := by
        rw [wakeIfAsleep_unclaimed asleep trigger host demand, beginTransmission_twice, hw]
      refine congrArg Host.Outcome.next ((if_neg powered).trans (congrArg beginTransmission ?_))
      simp [begun, linkActivity, rx]
    refine ⟨_, taken, ?_⟩
    obtain ⟨m, heard, tx, rx'⟩ : ∃ m, receiveByte byte stop w = w.setMpt m ∧ m.tx = w.mpt.tx ∧
        m.rx = if stop = true ∧ byte = 0xC3#8 then .header else .hunt := by
      rw [receiveByte, rx]
      dsimp only
      split
      · exact ⟨_, rfl, rfl, rfl⟩
      · exact ⟨w.mpt, rfl, rfl, rx⟩
    rw [heard]
    refine ⟨(woken.trans ?_ ?_ ?_ ?_ ?_ ?_ ?_ ?_ ?_ fun e sends => beginTransmission_sends ?_).marks e es, ?_⟩
    · simp
    · simp
    · simp [woken.idle]
    · simp
    · simp
    · simp
    · simp
    · simp [ParamsKept]
    · simp
    · simp [tx, sends]
    · simp [rx', mdr, drs, dlk, chc]

end Sys2Proof.Proofs

namespace Sys2Proof.Proofs

open Sys2Proof.Machine Sys2Proof.Safety

/-! ### An edge of the trigger (R1, R2, R4, R5) -/

theorem whilePowered_on {f : State → State} {s : State} (on : s.slc.power = .on) :
    whilePowered f s = beginTransmission (f s) := if_neg (by simp [on])

theorem raise_enabled {n : Notice} {s : State} (h : noticeEnabled s.mpt.enables n.index = true) :
    raise n s = s.setMpt { s.mpt with notices := enqueue n s.now s.mpt.notices } := if_pos h

theorem raise_masked {n : Notice} {s : State} (h : ¬ noticeEnabled s.mpt.enables n.index = true) :
    raise n s = if n.index = 10 then clearPendingReach s else s := if_neg h

/-- A notice and a write of the resolver may come in either order. -/
theorem raise_setDrs (n : Notice) (d : Drs) (s : State) : raise n (s.setDrs d) = (raise n s).setDrs d := by
  by_cases enabled : noticeEnabled s.mpt.enables n.index = true
  · rw [raise_enabled enabled, raise_enabled (s := s.setDrs d) enabled]
    rfl
  · rw [raise_masked enabled, raise_masked (s := s.setDrs d) enabled]
    split <;> rfl

/-- The record rests on nothing that a notice touches. -/
theorem evaluateAs_raise (b : Bool) (n : Notice) (s : State) :
    evaluateAs b (raise n s) = raise n (evaluateAs b s) := by
  have record : runningRecord (raise n s) = runningRecord s :=
    runningRecord_congr (by simp) (by simp) (by simp) (by simp) (by simp) (by simp) (by simp)
  simp only [evaluateAs, record, raise_frame, raise_setDrs]

theorem setTriggerClaim_same {s : State} {b : Bool} (h : s.drs.triggerClaim = b) :
    s.setDrs { s.drs with triggerClaim := b } = s := by
  subst h
  rfl

/-- A press completed in ON (R1, R185). -/
theorem debounced_press {s : State} (on : s.slc.power = .on) (was : s.trg.debounced = some .released)
    (raw : s.trg.raw = .pressed) : debounced s = idled (demandRefresh (triggerPress (determined .pressed s))) := by
  have awake : (determined .pressed s).slc.power ≠ .sleep := by simp [determined, on]
  rw [debounced_edge was (by simp [raw]), raw, triggerEdge, wakeIfAsleep, if_neg awake]
  rfl

/-- A release completed in ON (R1). -/
theorem debounced_release {s : State} (on : s.slc.power = .on) (was : s.trg.debounced = some .pressed)
    (raw : s.trg.raw = .released) : debounced s = idled (demandRefresh (triggerRelease (determined .released s))) := by
  have awake : (determined .released s).slc.power ≠ .sleep := by simp [determined, on]
  rw [debounced_edge was (by simp [raw]), raw, triggerEdge, if_neg awake]
  rfl

/-- A press under an inhibit clears the claim and asks for a release (R4, R5). -/
theorem triggerPress_inhibited {s : State} {i : Inhibit} (inhibit : firstInhibit s = some i) :
    triggerPress s = raise (.trigger { edge := .pressed, mode := s.trg.mode, claim := false, inhibited := true
                                       cause := some i, rearm := true })
      ((s.setDrs { s.drs with triggerClaim := false }).setTrg { s.trg with rearm := true }) := by
  simp [triggerPress, inhibit, raiseTriggerNotice]

/-- A press before the release that a forced stop asked for is ignored (R4). -/
theorem triggerPress_unarmed {s : State} (free : firstInhibit s = none) (unarmed : s.trg.rearm = true) :
    triggerPress s = raise (.trigger { edge := .pressed, mode := s.trg.mode, claim := s.drs.triggerClaim
                                       inhibited := true, cause := none, rearm := true }) s := by
  simp [triggerPress, free, unarmed, raiseTriggerNotice]

/-- The claim and the re-arm flag after a release, with its notice (R2, R4, R5). -/
def releasedTrigger (s : State) : State :=
  let claim := releasedClaim s.trg.mode s.drs.triggerClaim
  raise (.trigger { edge := .released, mode := s.trg.mode, claim := claim, inhibited := false, cause := firstInhibit s
                    rearm := false })
    ((s.setDrs { s.drs with triggerClaim := claim }).setTrg { s.trg with rearm := false })

theorem triggerRelease_eq (s : State) : triggerRelease s = lenientClear (releasedTrigger s) := rfl

/-- Nothing is cleared outside TRIPPED, under STRICT, or while a temperature cause persists (R171). -/
theorem lenientClear_stands {s : State}
    (h : s.mdr.state ≠ .tripped ∨ s.fmg.strict = true ∨ inverterHot s = true ∨ packHot s = true) :
    lenientClear s = s := by
  rw [lenientClear, if_neg]
  rintro ⟨tripped, strict, inverter, pack⟩
  obtain h | h | h | h := h
  · exact h tripped
  · exact strict h
  · exact inverter h
  · exact pack h

/-! ### What an accepted edge makes of run demand (R7, R24) -/

section
variable {s : State} {n : Notice} {g : Trg} {claim : Bool}

/-- The part with a claim and a trigger as an edge leaves them, before run demand is recomputed. -/
def edged (n : Notice) (g : Trg) (claim : Bool) (s : State) : State :=
  raise n ((s.setTrg g).setDrs { s.drs with triggerClaim := claim })

theorem wantsToRun_edged : wantsToRun (edged n g claim s) =
    ((claim || s.drs.hostClaim) && (firstInhibit s).isNone) := by
  simp [edged, wantsToRun]

/-- Where the claims make of run demand what it is, an edge leaves the motor alone. -/
theorem demandRefresh_edged_stands
    (h : s.drs.record.runDemand = ((claim || s.drs.hostClaim) && (firstInhibit s).isNone)) :
    demandRefresh (edged n g claim s) = edged n g claim s :=
  demandRefresh_stands (by rw [wantsToRun_edged, ← h]; simp [edged])

/-- An edge that raises run demand with the motor at rest, or coasting with no start pending. -/
theorem demandRefresh_edged_starts (claims : claim = true) (free : firstInhibit s = none)
    (demand : s.drs.record.runDemand = false)
    (rest : s.mdr.state = .off ∨ (s.mdr.state = .coast ∧ s.mdr.startPending = false)) :
    demandRefresh (edged n g claim s) = motorTo .precheck .demand false
      (raise n ((s.setTrg g).setDrs { s.drs with triggerClaim := claim, record := runningRecord s })) := by
  have record : runningRecord ((s.setTrg g).setDrs { s.drs with triggerClaim := claim }) = runningRecord s :=
    runningRecord_congr rfl rfl rfl rfl rfl rfl rfl
  rw [demandRefresh_starts (by simp [wantsToRun_edged, claims, free]) (by simp [edged, demand]) (by simpa [edged] using rest),
    edged, evaluateAs_raise, evaluateAs, if_pos rfl, record]
  rfl

/-- An edge that lets run demand fall with the motor running. -/
theorem demandRefresh_edged_coasts (claims : claim = false) (host : s.drs.hostClaim = false)
    (demand : s.drs.record.runDemand = true) (runs : runningMotor s.mdr.state = true) :
    demandRefresh (edged n g claim s) = motorTo .coast .demandFall false
      (raise n ((s.setTrg g).setDrs { s.drs with triggerClaim := claim, record := DemandRecord.idle })) := by
  rw [demandRefresh_coasts (by simp [wantsToRun_edged, claims, host]) (by simp [edged, demand]) (by simpa [edged] using runs),
    edged, evaluateAs_raise]
  rfl

end

/-! ### The edges of a completed debounce, by mode and inhibit (R2, R4, R5) -/

section
variable {s : State} {claim : Bool}

/-- The trigger with a level taken and a re-arm flag. -/
def levelTaken (l : Level) (rearm : Bool) (g : Trg) : Trg := { g with debounced := some l, timer := 0, rearm := rearm }

/-- A TRIGGER notice (R5). -/
def triggerNotice (edge : Level) (claim inhibited : Bool) (cause : Option Inhibit) (rearm : Bool) (g : Trg) : Notice :=
  .trigger { edge := edge, mode := g.mode, claim := claim, inhibited := inhibited, cause := cause, rearm := rearm }

theorem edged_same {n : Notice} {g : Trg} (h : s.drs.triggerClaim = claim) : edged n g claim s = raise n (s.setTrg g) :=
  congrArg (raise n) (setTriggerClaim_same (s := s.setTrg g) h)

theorem determined_rearm {l : Level} {b : Bool} (h : s.trg.rearm = b) :
    determined l s = s.setTrg (levelTaken l b s.trg) := by
  subst h
  rfl

theorem press_accepted (free : firstInhibit s = none) (armed : s.trg.rearm = false)
    (h : pressedClaim s.trg.mode s.drs.triggerClaim = claim) :
    triggerPress (determined .pressed s) =
      edged (triggerNotice .pressed claim false none false s.trg) (levelTaken .pressed false s.trg) claim s := by
  subst h
  rw [determined_rearm armed]
  exact triggerPress_accepted (s := s.setTrg (levelTaken .pressed false s.trg)) free rfl

theorem press_inhibited {i : Inhibit} (inhibit : firstInhibit s = some i) :
    triggerPress (determined .pressed s) =
      edged (triggerNotice .pressed false true (some i) true s.trg) (levelTaken .pressed true s.trg) false s :=
  triggerPress_inhibited (s := determined .pressed s) inhibit

theorem press_unarmed (free : firstInhibit s = none) (unarmed : s.trg.rearm = true) :
    triggerPress (determined .pressed s) =
      edged (triggerNotice .pressed s.drs.triggerClaim true none true s.trg) (levelTaken .pressed true s.trg)
        s.drs.triggerClaim s := by
  rw [determined_rearm unarmed]
  exact triggerPress_unarmed (s := s.setTrg (levelTaken .pressed true s.trg)) free rfl

/-- A release, before what it clears under LENIENT. -/
theorem release_edged (h : releasedClaim s.trg.mode s.drs.triggerClaim = claim) :
    triggerRelease (determined .released s) = lenientClear
      (edged (triggerNotice .released claim false (firstInhibit s) false s.trg) (levelTaken .released false s.trg) claim s) := by
  subst h
  rfl

/-- A release that clears nothing. -/
theorem release_stands (h : releasedClaim s.trg.mode s.drs.triggerClaim = claim)
    (k : s.mdr.state ≠ .tripped ∨ s.fmg.strict = true ∨ inverterHot s = true ∨ packHot s = true) :
    triggerRelease (determined .released s) =
      edged (triggerNotice .released claim false (firstInhibit s) false s.trg) (levelTaken .released false s.trg) claim s := by
  rw [release_edged h]
  exact lenientClear_stands (by simpa [edged, inverterHot, packHot] using k)

end

/-! ### The clear by a release (R171, R172) -/

/-- With run demand false and an idle record an evaluation changes nothing. -/
theorem evaluate_drs_rest {s : State} (rest : s.drs.record = DemandRecord.idle) : (evaluate s).drs = s.drs := by
  have idle : s.drs.record.runDemand = false := by rw [rest]; rfl
  rw [evaluate_drs, if_neg (by simp [idle]), ← rest]

theorem releaseCutoff_drs_rest {s : State} (rest : s.drs.record = DemandRecord.idle) :
    (releaseCutoff s).drs = s.drs := by
  unfold releaseCutoff changePackState
  rw [evaluate_drs_rest (by simpa using rest)]
  simp

/-- So does a change of charge state, whose deliveries reach the resolver through an evaluation alone. -/
theorem changeCharge_drs_rest {s : State} (rest : s.drs.record = DemandRecord.idle) (new : ChargeState)
    (cause : ChargeCause) (set : SuspendSet) : (changeCharge new cause set s).drs = s.drs := by
  unfold changeCharge
  dsimp only
  repeat' split
  all_goals simp [releaseCutoff_drs_rest, applyBleed, chooseInterval, rest]

theorem judgeQualify_drs_rest {s : State} (rest : s.drs.record = DemandRecord.idle) : (judgeQualify s).drs = s.drs := by
  unfold judgeQualify enterSuspend raiseChargeStop enterChargeFault
  repeat' split
  all_goals simp [changeCharge_drs_rest, rest]

/-- The entry to OFF from a state without a Blockage Monitor or a dirt window to stop. -/
theorem motorTo_off_drs {s : State} (outside : s.mdr.state ≠ .run) (cause : MotorCause)
    (rest : s.chc.state ≠ .qualify ∨ s.drs.record = DemandRecord.idle) :
    (motorTo .off cause false s).drs = s.drs := by
  simp only [motorTo, deliverDrs_of_ne (by simp : MotorState.off ≠ .tripped),
    deliverBlm_outside outside (by simp : MotorState.off ≠ .run), deliverDse_outside outside (by simp : MotorState.off ≠ .run),
    deliverSlc_frame, deliverIcn_frame]
  obtain charge | idle := rest
  · rw [judgeQualify_elsewhere (by simpa using charge)]
    simp
  · rw [judgeQualify_drs_rest (by simpa using idle)]
    simp

/-- The entry to OFF resets the regulator and leaves no trip where none stood (R45). -/
theorem motorTo_off_clears (cause : MotorCause) (s : State) :
    (motorTo .off cause false s).srg = Srg.reset ∧ (motorTo .off cause false s).trg = s.trg ∧
      (motorTo .off cause false s).fmg.trip.isSome = s.fmg.trip.isSome := by
  simp [motorTo, deliverDrs_of_ne, deliverSrg]

/-- A trip cleared: the motor in OFF with its regulator reset, the record gone (R172). -/
theorem clearTrip_clears (way : ClearWay) (s : State) :
    (clearTrip way s).mdr = enteredMdr .off false s.mdr ∧ (clearTrip way s).fmg.trip = none ∧
      (clearTrip way s).srg = Srg.reset ∧ (clearTrip way s).slc.idle = 0 ∧
      (clearTrip way s).trg = { s.trg with rearm := s.trg.rearm || decide (s.trg.debounced = some .pressed) } := by
  obtain ⟨srg, trg, trip⟩ := motorTo_off_clears .tripClear (s.setFmg { s.fmg with trip := none })
  have none : (motorTo .off .tripClear false (s.setFmg { s.fmg with trip := none })).fmg.trip = none := by
    simpa using trip
  simp [clearTrip, srg, trg, none, motorTo_slc_eq]

theorem clearTrip_drs {s : State} (tripped : s.mdr.state = .tripped) (way : ClearWay)
    (rest : s.chc.state ≠ .qualify ∨ s.drs.record = DemandRecord.idle) : (clearTrip way s).drs = s.drs := by
  have drs := motorTo_off_drs (s := s.setFmg { s.fmg with trip := none }) (by simp [tripped]) .tripClear rest
  simp [clearTrip, drs]

/-- A release in TRIPPED with no claim leaves run demand false, whatever is cleared. -/
theorem demandRefresh_clearTrip {s : State} (trigger : s.drs.triggerClaim = false)
    (host : s.drs.hostClaim = false) (demand : s.drs.record.runDemand = false) (way : ClearWay) :
    demandRefresh (clearTrip way s) = clearTrip way s := by
  have kept := motorTo_resolverKept (new := .off) (by simp) .tripClear false (s.setFmg { s.fmg with trip := none })
  have drs : (clearTrip way s).drs = (motorTo .off .tripClear false (s.setFmg { s.fmg with trip := none })).drs := by
    simp [clearTrip]
  refine demandRefresh_unclaimed ?_ ?_ ?_
  · rw [drs, kept.trigger]
    exact trigger
  · rw [drs, kept.host]
    exact host
  · rw [drs, kept.demand]
    exact demand

/-- Settles O26: the debounce by its edge, mode, inhibit and trip, and the edit timer's expiry. -/
theorem triggerAndEditTimer : Obligations.TriggerAndEditTimer := by
  intro i level e s
  refine ⟨fun on => ?_, fun asleep was raw => ?_, fun powered => ⟨?_, fun shut => ?_, fun opened early => ?_, fun opened due => ?_⟩⟩
  · intro set notice
    have pressed (was : s.trg.debounced = some .released) (raw : s.trg.raw = .pressed) :
        exec .triggerDebounce s = .next (beginTransmission (idled (demandRefresh (triggerPress (determined .pressed s))))) :=
      congrArg Host.Outcome.next ((whilePowered_on on).trans (congrArg beginTransmission (debounced_press on was raw)))
    have released (was : s.trg.debounced = some .pressed) (raw : s.trg.raw = .released) :
        exec .triggerDebounce s = .next (beginTransmission (idled (demandRefresh (triggerRelease (determined .released s))))) :=
      congrArg Host.Outcome.next ((whilePowered_on on).trans (congrArg beginTransmission (debounced_release on was raw)))
    refine ⟨fun undetermined => ?_, fun same => ?_, fun was raw free armed mode demand rest => ?_,
      fun was raw free armed mode claim host runs demand => ?_, fun was raw free armed mode claim follows => ?_,
      fun was raw free armed host follows => ?_, fun was raw inhibit demand => ?_,
      fun was raw free unarmed follows => ?_, fun was raw mode host runs demand => ?_,
      fun was raw mode kept untripped follows => ?_, fun was raw mode untripped follows => ?_,
      fun was raw tripped claim host demand => ⟨fun strict inverter pack => ?_, fun persists => ?_⟩⟩
    · refine congrArg Host.Outcome.next ((whilePowered_on on).trans (congrArg beginTransmission ?_))
      simp [debounced, undetermined, set]
    · refine congrArg Host.Outcome.next ((whilePowered_on on).trans (congrArg beginTransmission ?_))
      simp [debounced, same]
    · have claims : pressedClaim s.trg.mode s.drs.triggerClaim = true := by
        obtain hold | ⟨toggle, claim⟩ := mode
        · simp [hold, pressedClaim]
        · simp [toggle, claim, pressedClaim]
      rw [pressed was raw, press_accepted free armed claims, demandRefresh_edged_starts rfl free demand rest]
      rfl
    · rw [pressed was raw, press_accepted free armed (claim := false) (by simp [mode, claim, pressedClaim]),
        demandRefresh_edged_coasts rfl host demand runs]
      rfl
    · rw [pressed was raw, press_accepted free armed (claim := false) (by simp [mode, pressedClaim]),
        demandRefresh_edged_stands (by rw [follows, wantsToRun, claim]), edged_same claim]
      rfl
    · have claims : pressedClaim s.trg.mode s.drs.triggerClaim =
          (decide (s.trg.mode = .hold) || (decide (s.trg.mode = .toggle) && !s.drs.triggerClaim)) := by
        cases s.trg.mode <;> simp [pressedClaim]
      rw [pressed was raw, press_accepted free armed claims,
        demandRefresh_edged_stands (by rw [follows, wantsToRun, host]; simp)]
      rfl
    · rw [pressed was raw, press_inhibited inhibit, demandRefresh_edged_stands (by rw [demand, inhibit]; simp)]
      rfl
    · rw [pressed was raw, press_unarmed free unarmed, demandRefresh_edged_stands follows, edged_same rfl]
      rfl
    · have running : s.mdr.state ≠ .tripped := by
        rintro tripped
        simp [tripped, runningMotor, motorWatched] at runs
      rw [released was raw, release_stands (claim := false) (by simp [mode, releasedClaim]) (.inl running),
        demandRefresh_edged_coasts rfl host demand runs]
      rfl
    · have stands : s.drs.record.runDemand = ((false || s.drs.hostClaim) && (firstInhibit s).isNone) := by
        have demand : s.drs.record.runDemand = wantsToRun s := follows
        rw [demand] at kept ⊢
        rw [wantsToRun] at kept ⊢
        obtain host | rests := kept
        · simp [host]
        · rw [rests, eq_comm]
          simp only [Bool.and_eq_false_iff, Bool.or_eq_false_iff] at rests ⊢
          exact rests.imp_left fun unclaimed => ⟨trivial, unclaimed.2⟩
      rw [released was raw, release_stands (claim := false) (by simp [mode, releasedClaim]) (.inl untripped),
        demandRefresh_edged_stands stands]
      rfl
    · have claims : releasedClaim s.trg.mode s.drs.triggerClaim = s.drs.triggerClaim := by
        obtain toggle | ⟨hostOnly, claim⟩ := mode
        · simp [toggle, releasedClaim]
        · simp [hostOnly, claim, releasedClaim]
      rw [released was raw, release_stands claims (.inl untripped), demandRefresh_edged_stands follows, edged_same rfl]
      rfl
    · have claims : releasedClaim s.trg.mode s.drs.triggerClaim = false := by
        rw [claim]
        cases s.trg.mode <;> rfl
      let x := edged (triggerNotice .released false false (firstInhibit s) false s.trg) (levelTaken .released false s.trg) false s
      have unlocked : triggerRelease (determined .released s) = clearTrip .release x := by
        rw [release_edged claims]
        exact if_pos (by simp [edged, tripped, strict, inverterHot, packHot] at inverter pack ⊢; exact ⟨inverter, pack⟩)
      have frame : x.mdr = s.mdr ∧ x.drs = s.drs ∧ x.chc = s.chc ∧ x.sbt = s.sbt ∧ x.trg = set .released false := by
        simp [x, edged, ← claim, set, levelTaken]
      obtain ⟨mdr, drs, chc, sbt, trg⟩ := frame
      obtain ⟨mdr', trip, srg, idle, trg'⟩ := clearTrip_clears .release x
      refine ⟨_, released was raw, ?_⟩
      rw [unlocked, demandRefresh_clearTrip (by simp [drs, claim]) (by simp [drs, host]) (by simp [drs, demand])]
      refine ⟨?_, ?_, ?_, ?_, fun sound => ?_, ?_, ?_⟩
      · simp [idled, mdr', mdr]
      · simp [idled, trip]
      · simp [idled, trg', trg, set]
      · simp [idled, srg]
      · have rest : x.chc.state ≠ .qualify ∨ x.drs.record = DemandRecord.idle := by
          rw [chc, drs]
          exact sound.imp_right fun r => by simpa [RecordSound, demand] using r
        have kept := clearTrip_drs (by rw [mdr, tripped]) .release rest
        simp [idled, kept, drs]
      · simp [idled, sbt]
      · simp [idled]
    · have claims : releasedClaim s.trg.mode s.drs.triggerClaim = false := by
        rw [claim]
        cases s.trg.mode <;> rfl
      rw [released was raw, release_stands claims (.inr persists),
        demandRefresh_edged_stands (by rw [demand, host]; simp), edged_same claim]
      rfl
  · refine congrArg Host.Outcome.next ((if_neg (by simp [asleep])).trans (congrArg beginTransmission ?_))
    have edge := debounced_edge was (by simp [raw])
    rw [raw, triggerEdge, if_pos (by simp [determined, asleep])] at edge
    exact edge
  · refine congrArg Host.Outcome.next ?_
    split
    · exact if_neg powered
    · exact if_neg powered
  · refine congrArg Host.Outcome.next ((if_neg powered).trans (congrArg beginTransmission (if_neg ?_)))
    simp [editOverdue, shut]
  · refine congrArg Host.Outcome.next ((if_neg powered).trans (congrArg beginTransmission (if_neg ?_)))
    simp [editOverdue, opened, early]
  · refine congrArg Host.Outcome.next ((if_neg powered).trans (congrArg beginTransmission ((if_pos ?_).trans ?_)))
    · simp [editOverdue, opened, due]
    · simp [abortEdit, opened]

end Sys2Proof.Proofs

namespace Sys2Proof.Proofs

open Sys2Proof.Machine Sys2Proof.Safety

/-! ### The entry to TRIPPED (R8, R23, R165 to R170) -/

/-- A trip record but for its later causes. -/
def withoutLater (r : TripRecord) : TripRecord := { r with later := KindMap.replicate false }

/-- A raise adds at most a later cause to the trip record (R170). -/
theorem noteRaise_trip (k : FaultKind) (d : Detail) (s : State) :
    (noteRaise k d s).fmg.trip.map withoutLater = s.fmg.trip.map withoutLater := by
  unfold noteRaise laterCause tableRaise
  dsimp only
  split
  · simp [Function.comp_def, withoutLater]
    rfl
  · simp

/-- A raise with the motor running notes the fault table alone (R165). -/
theorem noteRaise_running {s : State} (h : s.mdr.state ≠ .tripped) (k : FaultKind) (d : Detail) :
    noteRaise k d s = tableRaise k d s := by
  simp [noteRaise, h]

/-- QUALIFY's judgement raises CELL_OV, or no fault (R129). -/
theorem judgeQualify_fmg (s : State) :
    (judgeQualify s).fmg = s.fmg ∨ ∃ d, (judgeQualify s).fmg = (noteRaise .cellOv d s).fmg := by
  have raised (d : Detail) : (raiseChargeStop .cellOv d s).fmg = (noteRaise .cellOv d s).fmg := by
    unfold raiseChargeStop enterChargeFault
    split <;> simp
  unfold judgeQualify
  repeat' split
  all_goals simp [enterSuspend, raised]
  exact .inr ⟨_, rfl⟩

theorem noteRaise_table {k j : FaultKind} (h : k ≠ j) (d : Detail) (s : State) :
    (noteRaise k d s).fmg.table.get j = s.fmg.table.get j := by
  have put : (tableRaise k d s).fmg.table.get j = s.fmg.table.get j := by
    cases k <;> cases j <;> simp [tableRaise, KindMap.put, KindMap.get] at h ⊢
  unfold noteRaise laterCause
  dsimp only
  split
  · simpa using put
  · exact put

/-- QUALIFY's judgement leaves the trip record but for its later causes, and the table but for CELL_OV. -/
theorem judgeQualify_trip (s : State) :
    (judgeQualify s).fmg.trip.map withoutLater = s.fmg.trip.map withoutLater ∧
      ∀ j, j ≠ .cellOv → (judgeQualify s).fmg.table.get j = s.fmg.table.get j := by
  obtain same | ⟨d, raised⟩ := judgeQualify_fmg s
  · simp [same]
  · rw [raised]
    exact ⟨noteRaise_trip .cellOv d s, fun j other => noteRaise_table (Ne.symm other) d s⟩

theorem setBlockage_drs_rest {s : State} (rest : s.drs.record = DemandRecord.idle) (b : Blm) :
    (setBlockage b s).drs = s.drs := evaluate_drs_rest (s := s.setBlm b) rest

theorem blockageLeaveRun_drs_rest {s : State} (rest : s.drs.record = DemandRecord.idle) :
    (blockageLeaveRun s).drs = s.drs := by
  unfold blockageLeaveRun
  dsimp only
  split <;> simp [raiseBlockageNotice, setBlockage_drs_rest rest]

theorem dirtLeaveRun_drs_rest {s : State} (rest : s.drs.record = DemandRecord.idle) :
    (dirtLeaveRun s).drs = s.drs := by
  have evaluated : (evaluate (s.setDse (stoppedDse s.dse))).drs = s.drs :=
    evaluate_drs_rest (s := s.setDse (stoppedDse s.dse)) rest
  unfold dirtLeaveRun
  dsimp only
  repeat' split
  all_goals simp only [reportSensor_frame, raiseDirtNotice_frame, evaluated]

theorem deliverBlm_drs_rest {s : State} (rest : s.drs.record = DemandRecord.idle) (old new : MotorState) :
    (deliverBlm old new s).drs = s.drs := by
  unfold deliverBlm
  repeat' split
  · simp [blockageEnterRun]
  · exact blockageLeaveRun_drs_rest rest
  · rfl

theorem deliverDse_drs_rest {s : State} (rest : s.drs.record = DemandRecord.idle) (old new : MotorState) :
    (deliverDse old new s).drs = s.drs := by
  unfold deliverDse
  repeat' split
  · simp
  · exact dirtLeaveRun_drs_rest rest
  · rfl

/-- With an idle record the deliveries of a change of motor state leave the resolver alone. -/
theorem delivered_drs_rest {s : State} (rest : s.drs.record = DemandRecord.idle) (old new : MotorState) :
    (deliverSlc (deliverIcn new (judgeQualify (deliverPkm new (deliverDse old new (deliverBlm old new
      (deliverSrg new s))))))).drs = s.drs := by
  have supplied : (deliverSrg new s).drs = s.drs := by simp
  have blocked : (deliverBlm old new (deliverSrg new s)).drs = s.drs :=
    (deliverBlm_drs_rest (by rw [supplied, rest]) ..).trans supplied
  have dirty : (deliverDse old new (deliverBlm old new (deliverSrg new s))).drs = s.drs :=
    (deliverDse_drs_rest (by rw [blocked, rest]) ..).trans blocked
  simp only [deliverSlc_frame, deliverIcn_frame]
  rw [judgeQualify_drs_rest (by simp only [deliverPkm_frame, dirty, rest]), (deliverPkm_frame new _).2.1, dirty]

/-- The resolver after a trip: an idle record and no open edit (R8, R16, R18). -/
theorem motorTo_tripped_record (cause : MotorCause) (s : State) :
    (motorTo .tripped cause false s).drs.record = DemandRecord.idle ∧ (motorTo .tripped cause false s).drs.edit = none := by
  have delivered (x : State) : (deliverDrs .tripped x).drs.record = DemandRecord.idle ∧ (deliverDrs .tripped x).drs.edit = none := by
    simp [deliverDrs, evaluateAs]
  unfold motorTo
  dsimp only
  rw [delivered_drs_rest (delivered _).1]
  exact delivered _

/-- The trigger and the faults after a trip: a held trigger needs its release, and the record filled stands but for a
later cause that QUALIFY may bring (R8, R129, R168, R170). -/
theorem motorTo_tripped_faults (cause : MotorCause) (s : State) :
    (motorTo .tripped cause false s).trg = { s.trg with rearm := s.trg.rearm || decide (s.trg.debounced = some .pressed) } ∧
      (motorTo .tripped cause false s).fmg.trip.map withoutLater = s.fmg.trip.map withoutLater ∧
      (s.chc.state ≠ .qualify → (motorTo .tripped cause false s).fmg = s.fmg) ∧
      ∀ j, j ≠ .cellOv → (motorTo .tripped cause false s).fmg.table.get j = s.fmg.table.get j := by
  unfold motorTo
  dsimp only
  simp only [deliverSlc_frame, deliverIcn_frame]
  refine ⟨?_, ?_, fun charge => ?_, fun j other => ?_⟩
  · simp [deliverDrs, evaluateAs, clearClaims]
  · rw [(judgeQualify_trip _).1]
    simp
  · rw [judgeQualify_elsewhere (by simpa using charge)]
    simp
  · rw [(judgeQualify_trip _).2 j other]
    simp

theorem blockageLeaveRun_blm (s : State) : (blockageLeaveRun s).blm = stoppedBlm s.blm := by
  unfold blockageLeaveRun setBlockage
  dsimp only
  split <;> simp [raiseBlockageNotice]

/-- The Blockage Monitor after a trip: NORMAL where the motor was in RUN, and as it stood elsewhere (R74). -/
theorem motorTo_tripped_blm (cause : MotorCause) (s : State) :
    (motorTo .tripped cause false s).blm = if s.mdr.state = .run then stoppedBlm s.blm else s.blm := by
  unfold motorTo
  dsimp only
  simp only [deliverSlc_frame, deliverIcn_frame, judgeQualify_frame, deliverPkm_frame, deliverDse_frame]
  split
  · next run =>
    rw [deliverBlm, if_neg (by simp), if_pos run, blockageLeaveRun_blm]
    simp
  · next other => rw [deliverBlm_outside other (by simp)]; simp

/-- After a trip there is no claim for run demand to follow (R8). -/
theorem demandRefresh_tripped (cause : MotorCause) (e : TripEvent) (s : State) :
    demandRefresh (raiseTripNotice e (motorTo .tripped cause false s)) =
      raiseTripNotice e (motorTo .tripped cause false s) := by
  obtain ⟨trigger, host, demand, -⟩ := motorTo_tripped_resolver cause false s
  exact demandRefresh_unclaimed (by simp [trigger]) (by simp [host]) (by simp [demand])

/-- A STOP with the motor running: the table, the record filled, and the entry to TRIPPED (R165, R168). -/
theorem raiseStop_trips {s : State} (h : s.mdr.state ≠ .tripped) (k : FaultKind) (d : Detail) :
    raiseStop k d s = raiseTripNotice (.tripped k d) (motorTo .tripped .trip false
      ((tableRaise k d s).setFmg { (tableRaise k d s).fmg with trip := some (tripRecordOf k d s) })) := by
  have record : tripRecordOf k d (tableRaise k d s) = tripRecordOf k d s := by
    simp [tripRecordOf, State.now]
  rw [raiseStop, noteRaise_running h, applyStop, if_neg (by simpa using h), trip, record]

theorem noteRaise_counters (k : FaultKind) (d : Detail) (s : State) :
    (noteRaise k d s).icn.counters = s.icn.counters := by
  unfold noteRaise
  dsimp only
  split <;> simp [laterCause, raiseTripNotice]

/-- Settles O36: the trip, the later cause of the moment, and the comparator not watched. -/
theorem overcurrentTrips : Obligations.OvercurrentTrips := by
  intro r s on
  have taken : exec .ocHw s = .next (beginTransmission (overcurrent s)) := congrArg Host.Outcome.next (whilePowered_on on)
  refine ⟨fun watched => ?_, fun tripped record now other motor => ?_, fun unwatched alone => ?_⟩
  · refine ⟨_, taken, ?_⟩
    have running : s.mdr.state ≠ .tripped := by
      rintro tripped
      simp [tripped, motorWatched] at watched
    let g := s.setMdr { s.mdr with gates := none }
    let x := (tableRaise .ocHw (.motor s.mdr.state) g).setFmg
      { (tableRaise .ocHw (.motor s.mdr.state) g).fmg with trip := some (tripRecordOf .ocHw (.motor s.mdr.state) g) }
    have trips : overcurrent s = raiseTripNotice (.tripped .ocHw (.motor s.mdr.state)) (motorTo .tripped .trip false x) := by
      rw [overcurrent, if_pos watched, raiseStop_trips (s := g) running, demandRefresh_tripped]
    obtain ⟨trigger, host, -, -⟩ := motorTo_tripped_resolver .trip false x
    obtain ⟨idle, edit⟩ := motorTo_tripped_record .trip x
    obtain ⟨trg, trip, fmg, table⟩ := motorTo_tripped_faults .trip x
    have blm := motorTo_tripped_blm .trip x
    have ocHw := table .ocHw (by simp)
    have entered : enteredMdr .tripped false x.mdr = enteredMdr .tripped false s.mdr := by
      simp [x, g, enteredMdr, gatesOff]
    have frame : x.trg = s.trg ∧ x.chc = s.chc ∧ x.blm = s.blm ∧ x.mdr.state = s.mdr.state := by simp [x, g]
    obtain ⟨xtrg, xchc, xblm, xmdr⟩ := frame
    rw [xtrg] at trg
    rw [xchc] at fmg
    rw [xblm, xmdr] at blm
    rw [trips]
    refine ⟨?_, ?_, ?_, ?_, ?_, ?_, ?_, ?_, fun charge => ?_, ?_, ?_, ?_, ?_⟩
    · simp [entered]
    · simp [enteredMdr, gatesOff]
    · simp [idle]
    · simp [trigger]
    · simp [host]
    · simp [edit]
    · simp [trg]
    · simp only [beginTransmission_frame, raiseTripNotice_frame]
      exact trip.trans rfl
    · simp only [beginTransmission_frame, raiseTripNotice_frame, fmg charge]
      rfl
    · simp only [beginTransmission_frame, raiseTripNotice_frame]
      exact ocHw.trans rfl
    · simp only [beginTransmission_frame, raiseTripNotice_frame, blm]
      split <;> rfl
    · simp [x, g]
    · simp [ParamsKept, x, g]
  · have overtaken : overtakenOc s = some r.motor := by
      have moment : tripOfNow s = some r := (tripOfNow_some s r).2 ⟨record, tripped, now, motor⟩
      simp [overtakenOc, moment, other]
    have later : overcurrent s = noteRaise .ocHw (.motor r.motor) s := by
      have stands : (noteRaise .ocHw (.motor r.motor) s).mdr.state = .tripped := by simp [tripped]
      rw [overcurrent, if_neg (by simp [tripped, motorWatched]), overtaken]
      exact if_pos stands
    refine ⟨_, taken, ?_⟩
    rw [later]
    have noted : noteRaise .ocHw (.motor r.motor) s = laterCause .ocHw (.motor r.motor) (tableRaise .ocHw (.motor r.motor) s) :=
      if_pos ⟨by simp [tripped], by simp [responseOf]⟩
    have fmg : (noteRaise .ocHw (.motor r.motor) s).fmg = { s.fmg with
        trip := some { r with later := r.later.put .ocHw true }
        table := { s.fmg.table with ocHw := { count := min 255 (s.fmg.table.ocHw.count + 1), uptime := s.slc.uptime
                                              detail := .motor r.motor } } } := by
      rw [noted]
      simp [laterCause, tableRaise, record, KindMap.put, KindMap.get, State.now]
    simp [fmg, SuctionKept, PackKept, ParamsKept, RestKept, noteRaise_counters]
  · rw [taken, overcurrent, if_neg (by simp [unwatched])]
    have none : overtakenOc s = none := by
      rw [overtakenOc, Option.map_eq_none_iff, Option.filter_eq_none_iff]
      intro q moment
      obtain ⟨record, tripped, now, motor⟩ := (tripOfNow_some s q).1 moment
      obtain h | h | h := alone tripped q record
      · exact absurd now h
      · simp [h]
      · simp [h] at motor
    rw [none]

end Sys2Proof.Proofs

namespace Sys2Proof.Proofs

open Sys2Proof.Machine Sys2Proof.Safety

/-! ### BLOCKED (R72) -/

/-- The part in BLOCKED, before what the retry count brings (R72). -/
def enteredBlocked (s : State) : State :=
  raiseBlockageNotice .set (if s.blm.state = .retrying then .repeated else .detected)
    (countEvent .blockages (.units 1) (setBlockage (blockedBlm s.blm) s))

theorem enterBlocked_eq (s : State) : enterBlocked s =
    if s.blockPar.maxRetries ≤ min 7 (s.blm.retries + 1) then raisePersist (enteredBlocked s) else enteredBlocked s := by
  have blm : (enteredBlocked s).blm.retries = min 7 (s.blm.retries + 1) := by
    simp [enteredBlocked, setBlockage, blockedBlm]
  have par : (enteredBlocked s).blockPar = s.blockPar := by simp [enteredBlocked]
  rw [← blm, ← par]
  rfl

theorem enteredBlocked_steady (s : State) : Steady s (enteredBlocked s) :=
  (setBlockage_steady (blockedBlm s.blm) s).trans (.of_fields (by simp [enteredBlocked]))

theorem enteredBlocked_kept (s : State) : (enteredBlocked s).blm = blockedBlm s.blm ∧ (enteredBlocked s).mdr = s.mdr ∧
    (enteredBlocked s).fmg = s.fmg ∧ (enteredBlocked s).drs = (evaluate (s.setBlm (blockedBlm s.blm))).drs := by
  simp [enteredBlocked, setBlockage]

/-- An entry to BLOCKED that trips nothing, with run demand following its claims: the monitor and the record alone. -/
theorem enterBlocked_notified {s : State} (follows : DemandFollows s)
    (h : s.blm.retries + 1 < s.blockPar.maxRetries ∨ s.fmg.blockagePersist = .notify) :
    let t := demandRefresh (enterBlocked s)
    t.blm = blockedBlm s.blm ∧ t.mdr = s.mdr ∧
      t.drs = (evaluate (s.setBlm (blockedBlm s.blm))).drs := by
  obtain ⟨blm, mdr, fmg, drs⟩ := enteredBlocked_kept s
  have kept : Steady s (enterBlocked s) ∧ (enterBlocked s).blm = (enteredBlocked s).blm ∧
      (enterBlocked s).mdr = (enteredBlocked s).mdr ∧ (enterBlocked s).drs = (enteredBlocked s).drs := by
    rw [enterBlocked_eq]
    split
    · next reached =>
      have notify : s.fmg.blockagePersist = .notify := h.resolve_left (by omega)
      have persists : raisePersist (enteredBlocked s) = raiseNotified .blockagePersist _ (enteredBlocked s) :=
        if_neg (by simp [fmg, notify])
      rw [persists]
      exact ⟨(enteredBlocked_steady s).trans (raiseNotified_steady ..), by simp, by simp, by simp⟩
    · exact ⟨enteredBlocked_steady s, rfl, rfl, rfl⟩
  obtain ⟨steady, blm', mdr', drs'⟩ := kept
  have stands : demandRefresh (enterBlocked s) = enterBlocked s :=
    demandRefresh_stands (by rw [steady.wantsToRun, steady.demand, follows])
  intro t
  have same : t = enterBlocked s := stands
  rw [same]
  exact ⟨blm'.trans blm, mdr'.trans mdr, drs'.trans drs⟩

/-- An entry to BLOCKED at the retry limit under STOP trips the motor (R72, R75, R165). -/
theorem enterBlocked_trips {s : State} (run : s.mdr.state = .run)
    (limit : s.blockPar.maxRetries ≤ min 7 (s.blm.retries + 1)) (stop : s.fmg.blockagePersist = .stop) :
    let t := demandRefresh (enterBlocked s)
    t.mdr.state = .tripped ∧ t.blm.state = .normal ∧ t.blm.retries = 0 ∧
      (t.fmg.trip.map fun r => (r.first, r.detail)) = some (.blockagePersist, .count (min 7 (s.blm.retries + 1))) := by
  obtain ⟨blm, mdr, fmg, _⟩ := enteredBlocked_kept s
  have persists : enterBlocked s = raiseStop .blockagePersist (.count (min 7 (s.blm.retries + 1))) (enteredBlocked s) := by
    rw [enterBlocked_eq, if_pos limit, raisePersist, if_pos (by rw [fmg, stop]), blm]
    rfl
  rw [persists, raiseStop_trips (by simp [mdr, run]), demandRefresh_tripped]
  generalize hx : State.setFmg _ _ = x
  obtain ⟨_, trip, _, _⟩ := motorTo_tripped_faults .trip x
  have stopped := motorTo_tripped_blm .trip x
  have xmdr : x.mdr.state = .run := by simp [← hx, mdr, run]
  rw [if_pos xmdr] at stopped
  have first : (motorTo .tripped .trip false x).fmg.trip.map (fun r => (r.first, r.detail)) =
      some (.blockagePersist, .count (min 7 (s.blm.retries + 1))) := by
    have less := congrArg (Option.map fun r => (r.first, r.detail)) trip
    rw [Option.map_map, Option.map_map] at less
    rw [← hx] at less ⊢
    exact less
  refine ⟨by simp, ?_, ?_, ?_⟩
  · simp [stopped, stoppedBlm]
  · simp [stopped, stoppedBlm]
  · simpa using first

/-! ### The timers of the table and of the monitor (R69 to R75) -/

/-- A timer that stands at a length, in the statement's words. -/
theorem any_eq_reached (n : Nat) (t : Option Nat) : (t.any fun ms => decide (n ≤ ms)) = reached n t := by
  cases t <;> rfl

/-- The block timer's expiry acts in SUSPECT and RETRYING at block_time, and is void elsewhere (R71, R73, R75). -/
theorem expireBlock_due {s : State} (blocks : s.blm.state = .suspect ∨ s.blm.state = .retrying)
    (due : reached s.blockPar.blockTime s.blm.blockTimer = true) : expireBlock s = demandRefresh (enterBlocked s) := by
  obtain ⟨ms, runs, past⟩ := (reached_iff _ _).1 due
  exact if_pos (by simpa [blockTimerRuns, runs, past] using blocks)

theorem expireBlock_void {s : State} (h : ¬ ((s.blm.state = .suspect ∨ s.blm.state = .retrying) ∧
    reached s.blockPar.blockTime s.blm.blockTimer = true)) : expireBlock s = s := by
  refine if_neg fun due => h ?_
  simp only [blockTimerRuns, Bool.and_eq_true, Bool.or_eq_true, decide_eq_true_eq] at due
  exact ⟨due.1.2, due.2⟩

/-- The retry timer's expiry, due or void (R72, R75). -/
theorem expireRetry_eq (s : State) : expireRetry s =
    if s.blm.state = .blocked ∧ reached s.blockPar.retryTime s.blm.retryTimer = true then
      evaluate (s.setBlm { s.blm with state := .retrying, retryTimer := none, targetReached := false })
    else s := by
  simp only [expireRetry, Bool.and_eq_true, decide_eq_true_eq]
  rfl

/-- RETRYING ends in NORMAL (R73). -/
theorem clearBlockage_blm (r : BlockageReason) (s : State) : (clearBlockage r s).blm = returnedNormal s.blm := by
  simp [clearBlockage, setBlockage]

/-- A SET_PARAM of a number in range, written as it is (R181). -/
theorem setParam_inRange {tag id : Byte} {v : BitVec 32} {p : Param} {s : State} (h : Accepts s)
    (known : Param.ofId id.toNat = some p) (may : p.motorOffOnly = false) (number : p.codes = none)
    (other : p ≠ .idleSleepS) (low : p.depLow s = none) (high : p.depHigh s = none) (lo : p.range.1 ≤ v.toInt)
    (hi : v.toInt ≤ p.range.2) : exec (.setParam tag id v) s =
      .next (replied 0x04#8 tag .ok (.param id v.toInt) (p.write v.toInt (beginTransmission s))) := by
  have served : serveSetParam id v = serveSetKnown id p v := by
    funext w
    simp only [serveSetParam, known]
  have taken := taken_of_inRange low high lo hi
  refine congrArg Host.Outcome.next ?_
  rw [served, setKnown_number h (.inl may) number other, taken, if_pos rfl]

/-- Settles O37: each timer's expiry, due or void, and the writes of the two lengths. -/
theorem bandAndBlockageTimers : Obligations.BandAndBlockageTimers := by
  intro tag v s past blocks
  have pastEq (n : Nat) (t : Option Nat) : past n t = reached n t := any_eq_reached n t
  simp only [pastEq]
  clear pastEq
  have event (c : Instr) (f : State → State) (h : exec c s = .next (whilePowered f s)) (powered : s.slc.power ≠ .ship) :
      exec c s = .next (beginTransmission (f s)) := h.trans (congrArg Host.Outcome.next (if_neg powered))
  refine ⟨fun powered => ⟨fun void => ?_, fun void => ?_, fun void => ?_, fun void => ?_, fun void => ?_⟩,
    fun h => ⟨fun lo hi void => ?_, fun lo hi due expired run notify follows => ?_, fun lo hi => ?_⟩,
    fun powered => ⟨fun idle => ?_, fun clears => ?_⟩, fun on run follows demand => ?_⟩
  · rw [event .blockTimerExpiry expireBlock rfl powered, expireBlock_void void]
  · rw [event .retryTimerExpiry expireRetry rfl powered, expireRetry_eq, if_neg void]
  · rw [event .clearTimerExpiry _ rfl powered, if_neg (by simpa using void)]
  · rw [event .noReferenceTimerExpiry _ rfl powered, if_neg (by simpa using void)]
  · rw [event .normalTimerExpiry _ rfl powered, if_neg (by simpa using void)]
  · rw [setParam_inRange (p := .blockTime) h rfl rfl rfl (by simp) rfl rfl lo hi, Param.write,
      toInt_toNat_of_nonneg (by omega), writeBlockTime, expireBlock_void (by simpa using void)]
    simp
  · let w := (beginTransmission s).setBlockPar { s.blockPar with blockTime := v.toNat }
    have written : Param.write .blockTime v.toInt (beginTransmission s) = demandRefresh (enterBlocked w) := by
      rw [Param.write, toInt_toNat_of_nonneg (by omega), writeBlockTime]
      simp only [beginTransmission_frame]
      exact expireBlock_due (s := w) (by simpa [w] using due) (by simpa [w] using expired)
    have claims : DemandFollows w := by
      have same : firstInhibit w = firstInhibit s :=
        firstInhibit_congr (by simp [w]) (by simp [w]) (by simp [w]) (by simp [w]) (by simp [w])
      simpa [DemandFollows, wantsToRun, same, w] using follows
    obtain ⟨blm, mdr, _⟩ := enterBlocked_notified claims (.inr (by simpa [w] using notify))
    refine ⟨_, setParam_inRange (p := .blockTime) h rfl rfl rfl (by simp) rfl rfl lo hi, ?_⟩
    rw [written]
    simp [replied, idled, blm, mdr, blockedBlm, w]
  · rw [setParam_inRange (p := .retryTime) h rfl rfl rfl (by simp) rfl rfl lo hi, Param.write,
      toInt_toNat_of_nonneg (by omega), writeRetryTime, expireRetry_eq]
    simp
  · rw [event .bandClearComplete _ rfl powered, if_neg (by simp [idle])]
  · rw [event .bandClearComplete _ rfl powered, if_pos clears]
    rfl
  · have powered : s.slc.power ≠ .ship := by simp [on]
    refine ⟨fun blocks expired under => ?_, fun blocks expired limit stop => ?_, fun blocked expired => ?_,
      fun retrying expired => ?_, fun retrying expired => ?_, fun normal expired => ?_⟩
    · refine ⟨_, event .blockTimerExpiry expireBlock rfl powered, ?_⟩
      obtain ⟨blm, mdr, drs⟩ := enterBlocked_notified follows under
      rw [expireBlock_due blocks expired]
      have record : (demandRefresh (enterBlocked s)).drs.record = runningRecord (s.setBlm (blockedBlm s.blm)) := by
        rw [drs, evaluate_drs]
        exact if_pos demand
      have boost : (runningRecord (s.setBlm (blockedBlm s.blm))).boost = 0 := by
        rw [runningRecord, boostOf_eq, if_neg (by simp [blockedBlm])]
      simp only [beginTransmission_frame, blm, mdr, record, boost]
      exact ⟨rfl, trivial, trivial, trivial, rfl⟩
    · refine ⟨_, event .blockTimerExpiry expireBlock rfl powered, ?_⟩
      obtain ⟨tripped, normal, retries, trip⟩ := enterBlocked_trips run limit stop
      rw [expireBlock_due blocks expired]
      simp [tripped, normal, retries, trip]
    · rw [event .retryTimerExpiry expireRetry rfl powered, expireRetry_eq, if_pos ⟨blocked, expired⟩]
    · refine ⟨_, event .clearTimerExpiry _ rfl powered, ?_⟩
      rw [if_pos (by simpa [retrying] using expired)]
      simp [clearBlockage_blm, returnedNormal]
    · refine ⟨_, event .noReferenceTimerExpiry _ rfl powered, ?_⟩
      rw [if_pos (by simpa [retrying] using expired)]
      simp [clearBlockage_blm, returnedNormal]
    · rw [event .normalTimerExpiry _ rfl powered, if_pos (by simpa [normal] using expired)]

end Sys2Proof.Proofs

namespace Sys2Proof.Proofs

open Sys2Proof.Machine Sys2Proof.Safety

/-! ### The contacts (R128, R143) -/

/-- A rise of run demand moves the motor, and through it reaches neither the charge, nor the dock, nor the faults. -/
theorem demandRise_charge (s : State) :
    (demandRise s).chc = s.chc ∧ (demandRise s).dlk = s.dlk ∧ (demandRise s).fmg = s.fmg := by
  obtain ⟨_, chc, dlk, fmg, _⟩ := motorTo_moving (new := .precheck) rfl .demand false s
  unfold demandRise
  repeat' split
  all_goals simp [chc, dlk, fmg]

/-- Run demand recomputed reaches neither the charge, nor the dock, nor the faults. -/
theorem demandRefresh_charge (s : State) :
    (demandRefresh s).chc = s.chc ∧ (demandRefresh s).dlk = s.dlk ∧ (demandRefresh s).fmg = s.fmg := by
  unfold demandRefresh
  dsimp only
  repeat' split
  · simp
  · exact demandRise_charge (evaluateAs (wantsToRun s) s)
  · obtain ⟨_, chc, dlk, fmg, _⟩ := demandFall_frame (evaluateAs (wantsToRun s) s)
    exact ⟨chc, dlk, fmg⟩

/-- The charge controller at an arrival out of IDLE: a new cycle where it is enabled (R128). -/
theorem dockArrival_chc {s : State} (idle : s.chc.state = .idle) (pause : s.chc.pause = false) :
    (dockArrival s).chc = if s.chc.enabled then enteredChc .qualify noSuspend s.chc else s.chc := by
  obtain ⟨_, _, _, _, chc, dlk, _⟩ := forcedStop_stops (s.setDlk (arrivedDlk s.dlk))
  have arrival : dockArrival s = deliverDockSlc (judgeQualify (dockSeen
    (raiseDockNotice false .absent .contact (forcedStop (s.setDlk (arrivedDlk s.dlk)))))) := rfl
  generalize hu : raiseDockNotice false .absent .contact (forcedStop (s.setDlk (arrivedDlk s.dlk))) = u at arrival
  have uchc : u.chc = s.chc := by simp [← hu, chc]
  have settled : (dockSeen u).dlk.state = .settling := by simp [← hu, arrivedDlk]
  have seen : (dockSeen u).chc = if s.chc.enabled then enteredChc .qualify noSuspend s.chc else s.chc := by
    unfold dockSeen
    rw [uchc]
    cases s.chc.enabled <;> simp [idle, uchc]
  have unpaused : (dockSeen u).chc.pause = false := by
    rw [seen]
    split <;> simp [enteredChc, pause]
  rw [arrival, judgeQualify_settling settled, if_neg (by simp [unpaused])]
  simpa [deliverDockSlc] using seen

/-- What a loss leaves of the link, and of the charge controller (R128, R143). -/
theorem dockLoss_forgets (s : State) :
    (dockLoss s).dlk = lostContactDlk s.dlk ∧
      (dockLoss s).chc = (if s.chc.state = .idle then s.chc else enteredChc .idle noSuspend s.chc) ∧
      (dockLoss s).fmg = s.fmg := by
  generalize hu : raiseDockNotice false s.dlk.state .contactLost (s.setDlk (lostContactDlk s.dlk)) = u
  have loss : dockLoss s = demandRefresh (deliverDockSlc (dockGone u)) := by rw [← hu]; rfl
  have frame : u.dlk = lostContactDlk s.dlk ∧ u.chc = s.chc ∧ u.fmg = s.fmg := by simp [← hu]
  obtain ⟨dlk, chc, fmg⟩ := frame
  obtain ⟨chc', dlk', fmg'⟩ := demandRefresh_charge (deliverDockSlc (dockGone u))
  rw [loss, chc', dlk', fmg']
  simp only [deliverDockSlc, deliverSlc_frame]
  unfold dockGone
  rw [chc]
  split
  · exact ⟨dlk, chc, fmg⟩
  · have gone : (changeCharge .idle .undocked noSuspend u).dlk = u.dlk := by
      unfold changeCharge
      dsimp only
      repeat' split
      all_goals simp_all
    exact ⟨gone.trans dlk, by simp [chc], by simp [fmg]⟩

/-- What a forced stop makes of the motor, by its state (R8, R24, R38). -/
theorem forcedStop_mdr (s : State) :
    (s.drs.record.runDemand = true → runningMotor s.mdr.state = true →
      (forcedStop s).mdr = enteredMdr .coast false s.mdr) ∧
    (s.drs.record.runDemand = true → s.mdr.state = .coast →
      (forcedStop s).mdr = { s.mdr with startPending := false }) ∧
    (s.drs.record.runDemand = false ∨ motorParked s.mdr.state = true → (forcedStop s).mdr = s.mdr) := by
  have want : wantsToRun (clearClaims s) = false := rfl
  refine ⟨fun demand runs => ?_, fun demand coast => ?_, fun rests => ?_⟩
  · rw [forcedStop, demandRefresh_coasts (s := clearClaims s) want demand runs]
    simp [evaluateAs, clearClaims]
  · rw [forcedStop, demandRefresh_unpends (s := clearClaims s) want demand coast]
    rfl
  · obtain idle | parked := rests
    · rw [forcedStop_eq, if_neg (by simp [idle])]
      rfl
    · exact (forcedStop_parked_frame parked).1

/-- Settles O41: the rise in ABSENT and elsewhere, the fall, and the loss. -/
theorem dockContacts : Obligations.DockContacts := by
  intro s on
  have powered : s.slc.power ≠ .ship := by simp [on]
  have rise : exec .dockContactRise s = .next (beginTransmission (contactRisen s)) :=
    congrArg Host.Outcome.next ((if_neg powered).trans (whilePowered_on on))
  refine ⟨fun absent => ?_, fun present => ?_, fun present => ?_, fun present => ?_⟩
  · let a := s.setDlk { s.dlk with contact := true, lossTimer := none }
    have arrives : contactRisen s = dockArrival a := by
      have awake : wakeIfAsleep .dock a = a := if_neg (by simp [a, on])
      exact (if_pos absent).trans (congrArg dockArrival awake)
    obtain ⟨dlk, mdr, trg, trigger, host, demand, _, _, _, fmg⟩ := dockArrival_arrives a
    obtain ⟨coasts, unpends, rests⟩ := forcedStop_mdr (a.setDlk (arrivedDlk a.dlk))
    have chc := dockArrival_chc (s := a)
    rw [← mdr] at coasts unpends rests
    refine ⟨_, rise, ?_⟩
    rw [arrives]
    refine ⟨?_, by simp [trigger], by simp [host], by simp [demand], by simp [a], ?_, fun run runs => ?_,
      fun run coast => ?_, fun stands => ?_, fun idle pause => ?_, by simp [fmg, a], by simp [ParamsKept, a], by simp [a]⟩
    · simp only [beginTransmission_frame, dlk]
      rfl
    · simp only [beginTransmission_frame, trg]
      rfl
    · simp only [beginTransmission_frame, coasts run runs]
      exact ⟨rfl, rfl⟩
    · simp only [beginTransmission_frame, unpends run coast]
      rfl
    · simp only [beginTransmission_frame, rests stands]
      rfl
    · simp only [beginTransmission_frame, chc idle pause]
      have cycle : enteredChc .qualify noSuspend s.chc = { s.chc with
          state := .qualify, iSet := 0, bleedSet := Seven.replicate false, taper := none, stageCount := 0, safety := 0
          precharge := 0, balance := 0, suspend := ⟨false, false, false⟩ } := by
        simp [enteredChc, idle, isCharging, mayBleed, noSuspend]
      rw [← cycle]
      rfl
  · rw [rise, contactRisen]
    exact congrArg (fun t => Host.Outcome.next (beginTransmission t)) (if_neg present)
  · refine congrArg Host.Outcome.next ?_
    rw [if_neg present]
    exact whilePowered_on on
  · have loss : exec .dockLoss s = .next (beginTransmission (dockLoss s)) :=
      congrArg Host.Outcome.next ((whilePowered_on on).trans (congrArg beginTransmission (if_neg present)))
    obtain ⟨dlk, chc, fmg⟩ := dockLoss_forgets s
    refine ⟨_, loss, ?_⟩
    simp only [beginTransmission_frame, dlk, chc, fmg]
    refine ⟨rfl, ?_, trivial, by simp, trivial, by simp [ParamsKept], by simp⟩
    split
    · assumption
    · rfl

end Sys2Proof.Proofs

namespace Sys2Proof.Proofs

open Sys2Proof.Machine Sys2Proof.Safety

/-! ### Counting rests on the counters alone (R159, R160) -/

/-- What an operation makes of the counters rests on the counters alone. -/
def CountersAlike (op : State → State) : Prop :=
  ∀ s t, s.icn.counters = t.icn.counters → (op s).icn.counters = (op t).icn.counters

@[simp] theorem notifyReach_counters (i : Nat) (s : State) : (notifyReach i s).icn.counters = s.icn.counters := by
  unfold notifyReach
  split <;> simp

theorem startWaiting_alike {judge : Nat → State → State} (h : ∀ j, CountersAlike (judge j)) (i j : Nat) :
    CountersAlike (startWaiting judge i j) := by
  intro s t same
  unfold startWaiting
  simp only [same]
  split
  · split
    · exact h j _ _ (by simp [putCounter, same])
    · simp [putCounter, same]
  · exact same

theorem reach_alike (fuel i : Nat) : CountersAlike (reach fuel i) := by
  induction fuel generalizing i with
  | zero => exact fun _ _ same => same
  | succ n ih =>
    intro s t same
    have start (j : Nat) := startWaiting_alike ih i j
    exact start 3 _ _ (start 2 _ _ (start 1 _ _ (start 0 _ _ (by simp [putCounter, same]))))

theorem judgeReach_alike (i : Nat) : CountersAlike (judgeReach i) := by
  intro s t same
  unfold judgeReach
  rw [same]
  split
  · exact reach_alike 5 i s t same
  · exact same

theorem countEvents_alike (amounts : List (CounterSource × CountAmount)) : CountersAlike (countEvents amounts) := by
  intro s t same
  have judge (b : Bool) (i : Nat) : CountersAlike fun u => if b then judgeReach i u else u := by
    intro u v k
    cases b
    · exact k
    · exact judgeReach_alike i u v k
  unfold countEvents
  simp only [same]
  exact judge _ 3 _ _ (judge _ 2 _ _ (judge _ 1 _ _ (judge _ 0 _ _ rfl)))

/-! ### The optical channel at a window end (R82 to R86) -/

/-- The working current the AGC leaves for a baseline (R84). -/
def agcCurrent (p : DirtPar) (b w : Nat) : Nat :=
  if b < p.agcTarget * 7 / 8 ∧ w < 63 then w + 1 else if p.agcTarget * 9 / 8 < b ∧ 0 < w then w - 1 else w

theorem agcStep_eq (p : DirtPar) (d : Dse) : agcStep p d =
    if agcCurrent p d.baseline d.working = d.working then d
    else enterSettle { d with working := agcCurrent p d.baseline d.working, rebase := true } := by
  unfold agcStep agcCurrent
  split
  · rw [if_neg (by omega)]
  · split
    · rw [if_neg (by omega)]
    · rw [if_pos rfl]

theorem opticalMoved_track {p : DirtPar} {a : Nat} {d : Dse} (track : d.optical = .track) : opticalMoved p a d =
    (let b := trackedBaseline p d.baseline a
     let n := { d with baseline := b, working := agcCurrent p b d.working }
     if agcCurrent p b d.working ≠ d.working then { n with optical := .settle, settle := 0, kills := 0, rebase := true }
     else if p.mode ≠ .auto then n
     else if agcCurrent p b d.working = 63 ∧ b < p.agcTarget / 2 then
       if p.killWindows ≤ min 250 (d.kills + 1) then
         { n with optical := .killed, kills := min 250 (d.kills + 1), recoveries := 0 }
       else { n with kills := min 250 (d.kills + 1) }
     else { n with kills := 0 }) := by
  unfold opticalMoved
  rw [track]
  rfl

/-- A window end in TRACK: the channel's own move, with the attenuation of this window. -/
theorem judgeKill_moved {s : State} (a : Nat) (track : s.dse.optical = .track) (x : Nat) :
    (judgeKill (s.setDse (trackEnd s.dirtPar a { s.dse with lastA := x }))).dse =
      { opticalMoved s.dirtPar a s.dse with lastA := x, lastOpt := attenuation s.dse.baseline a } := by
  rw [opticalMoved_track track]
  unfold trackEnd
  rw [agcStep_eq]
  by_cases stands : agcCurrent s.dirtPar (trackedBaseline s.dirtPar s.dse.baseline a) s.dse.working = s.dse.working
  · simp only [stands, ne_eq, not_true_eq_false, if_false, if_true, judgeKill, State.setDse_dse, State.setDse_dirtPar,
      track, reduceCtorEq, or_false, killCondition, Bool.and_eq_true, decide_eq_true_eq]
    split
    · rfl
    · split
      · split
        · simp
        · simp
      · simp
  · simp [stands, judgeKill, enterSettle]

theorem reportSensor_fmg (e : SetEvent) (r : SensorReason) (s : State) : (reportSensor e r s).fmg = s.fmg := by
  unfold reportSensor
  split <;> simp

@[simp] theorem reportSensor_counters (e : SetEvent) (r : SensorReason) (s : State) :
    (reportSensor e r s).icn.counters = s.icn.counters := by
  unfold reportSensor
  split <;> simp

theorem raiseSensor_table (s : State) : (raiseSensor s).fmg.table.sensorBlocked =
    { count := min 255 (s.fmg.table.sensorBlocked.count + 1), uptime := s.slc.uptime
      detail := .milliamps s.dse.working } := by
  simp only [raiseSensor, reportSensor_fmg, noteRaise]
  split <;> simp [laterCause, raiseTripNotice, tableRaise, KindMap.put, KindMap.get, State.now]

/-- SENSOR_BLOCKED is raised exactly where the window end kills the channel (R85). -/
theorem judgeKill_sensor {s : State} (a : Nat) (track : s.dse.optical = .track) (x : Nat) :
    (judgeKill (s.setDse (trackEnd s.dirtPar a { s.dse with lastA := x }))).fmg.table.sensorBlocked =
      if (opticalMoved s.dirtPar a s.dse).optical = .killed then
        { count := min 255 (s.fmg.table.sensorBlocked.count + 1), uptime := s.slc.uptime
          detail := .milliamps (opticalMoved s.dirtPar a s.dse).working }
      else s.fmg.table.sensorBlocked := by
  rw [opticalMoved_track track]
  unfold trackEnd
  rw [agcStep_eq]
  by_cases stands : agcCurrent s.dirtPar (trackedBaseline s.dirtPar s.dse.baseline a) s.dse.working = s.dse.working
  · simp only [stands, ne_eq, not_true_eq_false, if_false, if_true, judgeKill, State.setDse_dse, State.setDse_dirtPar,
      track, reduceCtorEq, or_false, killCondition, Bool.and_eq_true, decide_eq_true_eq]
    split
    · simp
    · split
      · split
        · simp [raiseSensor_table]
        · simp
      · simp
  · simp [stands, judgeKill, enterSettle]

@[simp] theorem judgeKill_counters (s : State) : (judgeKill s).icn.counters = s.icn.counters := by
  unfold judgeKill
  dsimp only
  split
  · rfl
  · split
    · split
      · simp [raiseSensor, noteRaise_counters]
      · simp
    · simp

theorem opticalEnd_track {s : State} (track : s.dse.optical = .track) (amplitude : Nat) : opticalEnd amplitude s =
    (judgeKill (s.setDse (trackEnd s.dirtPar (min amplitude 4095) { s.dse with lastA := min amplitude 4095 })), true) := by
  unfold opticalEnd
  rw [track]
  rfl

@[simp] theorem killedEnd_counters (a : Nat) (s : State) : (killedEnd a s).icn.counters = s.icn.counters := by
  unfold killedEnd
  split
  · split <;> simp
  · simp

theorem killedEnd_dse (a : Nat) (s : State) : (killedEnd a s).dse =
    if a < s.dirtPar.agcTarget * 3 / 4 then { s.dse with recoveries := 0 }
    else if s.dse.recoveries < 9 then { s.dse with recoveries := s.dse.recoveries + 1 }
    else { s.dse with optical := .track, baseline := a, working := 63, kills := 0, recoveries := 0 } := by
  unfold killedEnd
  by_cases dark : a < s.dirtPar.agcTarget * 3 / 4
  · rw [if_neg (by omega), if_pos dark, State.setDse_dse]
  · rw [if_pos (by omega), if_neg dark]
    by_cases early : s.dse.recoveries < 9
    · rw [if_neg (by omega), if_pos early, State.setDse_dse]
    · rw [if_pos (by omega), if_neg early]
      simp

theorem settleEnd_eq (a : Nat) (d : Dse) : settleEnd a d =
    if d.settle < 3 then { d with settle := d.settle + 1 }
    else { d with
      optical := .track, settle := 4, baseline := if d.baseline = 0 ∨ d.rebase then a else d.baseline
      rebase := false, kills := 0, recoveries := 0 } := by
  unfold settleEnd
  by_cases early : d.settle < 3
  · rw [if_neg (by omega), if_pos early]
  · rw [if_pos (by omega), if_neg early]

theorem opticalEnd_counters (amplitude : Nat) (s : State) : (opticalEnd amplitude s).1.icn.counters = s.icn.counters := by
  unfold opticalEnd
  split <;> simp

theorem opticalEnd_usable (amplitude : Nat) (s : State) :
    (opticalEnd amplitude s).2 = decide (s.dse.optical = .track) := by
  unfold opticalEnd
  split <;> simp [*]

/-- SENSOR_BLOCKED in the fault table after a window end. -/
theorem opticalEnd_sensor (amplitude : Nat) (s : State) : (opticalEnd amplitude s).1.fmg.table.sensorBlocked =
    if s.dse.optical = .track ∧ (opticalMoved s.dirtPar (min amplitude 4095) s.dse).optical = .killed then
      { count := min 255 (s.fmg.table.sensorBlocked.count + 1), uptime := s.slc.uptime
        detail := .milliamps (opticalMoved s.dirtPar (min amplitude 4095) s.dse).working }
    else s.fmg.table.sensorBlocked := by
  by_cases track : s.dse.optical = .track
  · rw [opticalEnd_track track, judgeKill_sensor (min amplitude 4095) track]
    simp only [track, true_and]
  · rw [if_neg fun h => track h.1]
    unfold opticalEnd
    split <;> simp_all

theorem opticalMoved_settle {p : DirtPar} {a : Nat} {d : Dse} (settle : d.optical = .settle) : opticalMoved p a d =
    if d.settle < 3 then { d with settle := d.settle + 1 }
    else { d with
      optical := .track, settle := 4, baseline := if d.baseline = 0 ∨ d.rebase then a else d.baseline
      rebase := false, kills := 0, recoveries := 0 } := by
  unfold opticalMoved
  rw [settle]

theorem opticalMoved_killed {p : DirtPar} {a : Nat} {d : Dse} (killed : d.optical = .killed) : opticalMoved p a d =
    if a < p.agcTarget * 3 / 4 then { d with recoveries := 0 }
    else if d.recoveries < 9 then { d with recoveries := d.recoveries + 1 }
    else { d with optical := .track, baseline := a, working := 63, kills := 0, recoveries := 0 } := by
  unfold opticalMoved
  rw [killed]

/-- What a window end makes of the engine through the optical channel. -/
theorem opticalEnd_dse (amplitude : Nat) (s : State) : ∃ x, (opticalEnd amplitude s).1.dse =
    { opticalMoved s.dirtPar (min amplitude 4095) s.dse with
      lastA := x
      lastOpt := if s.dse.optical = .track then attenuation s.dse.baseline (min amplitude 4095) else s.dse.lastOpt } := by
  by_cases track : s.dse.optical = .track
  · exact ⟨min amplitude 4095, by rw [opticalEnd_track track, judgeKill_moved _ track, if_pos track]⟩
  · rw [if_neg track]
    unfold opticalEnd
    split
    case h_1 settle =>
      refine ⟨min amplitude 4095, ?_⟩
      rw [opticalMoved_settle settle]
      simp only [settleEnd_eq, measuredAmplitude, State.setDse_dse]
      split <;> rfl
    case h_2 h => exact absurd h track
    case h_3 killed =>
      refine ⟨min amplitude 4095, ?_⟩
      rw [opticalMoved_killed killed]
      simp only [killedEnd_dse, measuredAmplitude, State.setDse_dse, State.setDse_dirtPar]
      by_cases dark : min amplitude 4095 < s.dirtPar.agcTarget * 3 / 4
      · simp only [dark, if_true]
      · by_cases early : s.dse.recoveries < 9
        · simp only [dark, early, if_true, if_false]
        · simp only [dark, early, if_false]
    case h_4 idle => exact ⟨s.dse.lastA, by rw [opticalMoved, idle]⟩
    case h_5 off => exact ⟨s.dse.lastA, by rw [opticalMoved, off]⟩

end Sys2Proof.Proofs

namespace Sys2Proof.Proofs

open Sys2Proof.Machine Sys2Proof.Safety

/-! ### The steps of a window end (R80) -/

theorem opticalMoved_still {p : DirtPar} {a : Nat} {d : Dse} (settle : d.optical ≠ .settle)
    (killed : d.optical ≠ .killed) (track : d.optical ≠ .track) : opticalMoved p a d = d := by
  unfold opticalMoved
  split
  · contradiction
  · contradiction
  · contradiction
  · rfl

theorem opticalMoved_eq_of_track {p : DirtPar} {a : Nat} {d : Dse} (track : d.optical = .track) (q : BitVec 16) (v : Nat) :
    opticalMoved p a { d with seq := q, lastSw := v } =
      (let m := opticalMoved p a d
       { d with
         seq := q, lastSw := v, optical := m.optical, settle := m.settle, rebase := m.rebase, working := m.working
         baseline := m.baseline, kills := m.kills, recoveries := m.recoveries }) := by
  rw [opticalMoved_track track, opticalMoved_track (d := { d with seq := q, lastSw := v }) track]
  dsimp only
  by_cases stands : agcCurrent p (trackedBaseline p d.baseline a) d.working = d.working
  · simp only [stands, ne_eq, not_true_eq_false, if_false]
    by_cases auto : p.mode = .auto
    · by_cases dark : d.working = 63 ∧ trackedBaseline p d.baseline a < p.agcTarget / 2
      · by_cases last : p.killWindows ≤ min 250 (d.kills + 1)
        · simp only [auto, dark, last, not_true_eq_false, if_false, and_self, if_true]
        · simp only [auto, dark, last, not_true_eq_false, if_false, and_self, if_true]
      · simp only [auto, dark, not_true_eq_false, if_false]
    · simp only [auto, not_false_eq_true, if_true]
  · simp only [stands, ne_eq, not_false_eq_true, if_true]

/-- The channel's move leaves everything but the channel, and rests on nothing but it. -/
theorem opticalMoved_eq (p : DirtPar) (a : Nat) (d : Dse) (q : BitVec 16) (v : Nat) :
    opticalMoved p a { d with seq := q, lastSw := v } =
      (let m := opticalMoved p a d
       { d with
         seq := q, lastSw := v, optical := m.optical, settle := m.settle, rebase := m.rebase, working := m.working
         baseline := m.baseline, kills := m.kills, recoveries := m.recoveries }) := by
  by_cases settle : d.optical = .settle
  · rw [opticalMoved_settle settle, opticalMoved_settle (d := { d with seq := q, lastSw := v }) settle]
    dsimp only
    by_cases early : d.settle < 3
    · simp only [early, if_true]
    · simp only [early, if_false]
  · by_cases killed : d.optical = .killed
    · rw [opticalMoved_killed killed, opticalMoved_killed (d := { d with seq := q, lastSw := v }) killed]
      dsimp only
      by_cases dark : a < p.agcTarget * 3 / 4
      · simp only [dark, if_true]
      · by_cases early : d.recoveries < 9
        · simp only [dark, early, if_true, if_false]
        · simp only [dark, early, if_false]
    · by_cases track : d.optical = .track
      · exact opticalMoved_eq_of_track track q v
      · rw [opticalMoved_still settle killed track,
          opticalMoved_still (d := { d with seq := q, lastSw := v }) settle killed track]

/-- The acoustic channel was usable for the window (R90). -/
def acousticUsable (w : DirtWindow) (signal : List Nat) (p : DirtPar) (d : Dse) : Bool :=
  w.acousticOn && decide (noiseMeasure d.seq.toNat w signal ≤ p.noiseLimit)

theorem acousticEnd_eq (w : DirtWindow) (level : Nat) (signal : List Nat) (p : DirtPar) (d : Dse) :
    acousticEnd w level signal p d =
      ({ d with
         lastC := if w.acousticOn then impactCount w level signal else d.lastC
         lastN := if w.acousticOn then noiseMeasure d.seq.toNat w signal else d.lastN
         acoustic := if w.acousticOn then (if acousticUsable w signal p d then .usable else .noisy) else .disabled
         lastAc := if acousticUsable w signal p d then acousticValue p (impactCount w level signal) d.lastSw
           else d.lastAc },
       acousticUsable w signal p d) := by
  unfold acousticEnd acousticUsable
  cases w.acousticOn
  · simp
  · by_cases noisy : p.noiseLimit < noiseMeasure d.seq.toNat w signal
    · simp [noisy]
    · simp [noisy, Nat.le_of_not_lt noisy]

theorem indexEnd_eq (p : DirtPar) (optical acoustic : Bool) (d : Dse) : indexEnd p optical acoustic d =
    { d with
      d := if optical then (if acoustic then (p.weight * d.lastOpt + (128 - p.weight) * d.lastAc) / 128 else d.lastOpt)
        else if acoustic then d.lastAc else p.fallback
      index := if optical then (if acoustic then .both else .optical)
        else if acoustic then .acoustic else .fallback } := by
  cases optical <;> cases acoustic <;> rfl

/-- D of a window, from the channels usable for it (R91). -/
def windowDirt (w : DirtWindow) (amplitude level : Nat) (signal : List Nat) (s : State) : Nat :=
  let quiet := w.acousticOn && decide (noiseMeasure (s.dse.seq + 1).toNat w signal ≤ s.dirtPar.noiseLimit)
  let opt := attenuation s.dse.baseline (min amplitude 4095)
  let ac := acousticValue s.dirtPar (impactCount w level signal) (windowSpeed w s.mdr.speed)
  if s.dse.optical = .track then
    if quiet then (s.dirtPar.weight * opt + (128 - s.dirtPar.weight) * ac) / 128 else opt
  else if quiet then ac else s.dirtPar.fallback

@[simp] theorem reportLevel_fields (old : DirtLevel) (s : State) :
    (reportLevel old s).dse = s.dse ∧ (reportLevel old s).fmg = s.fmg ∧
      (reportLevel old s).icn.counters = s.icn.counters := by
  unfold reportLevel raiseDirtNotice
  split <;> simp

/-- The engine after the five steps of a window end. -/
theorem windowSteps_dse (w : DirtWindow) (amplitude level : Nat) (signal : List Nat) (s : State) :
    let p := s.dirtPar
    let m := opticalMoved p (min amplitude 4095) s.dse
    let n := noiseMeasure (s.dse.seq + 1).toNat w signal
    let quiet := w.acousticOn && decide (n ≤ p.noiseLimit)
    let dirt := windowDirt w amplitude level signal s
    ∃ a opt, (windowSteps w amplitude level signal s).dse = { s.dse with
      seq := s.dse.seq + 1, lastSw := windowSpeed w s.mdr.speed
      optical := m.optical, settle := m.settle, rebase := m.rebase, working := m.working
      baseline := m.baseline, kills := m.kills, recoveries := m.recoveries
      lastA := a, lastOpt := opt
      lastC := if w.acousticOn then impactCount w level signal else s.dse.lastC
      lastN := if w.acousticOn then n else s.dse.lastN
      acoustic := if w.acousticOn then (if quiet then .usable else .noisy) else .disabled
      lastAc := if quiet then acousticValue p (impactCount w level signal) (windowSpeed w s.mdr.speed)
        else s.dse.lastAc
      d := dirt
      index := if s.dse.optical = .track then (if quiet then .both else .optical)
        else if quiet then .acoustic else .fallback
      level := (movedLevel p dirt s.dse.level s.dse.hold).1
      hold := (movedLevel p dirt s.dse.level s.dse.hold).2
      db := movedBoost p.boostDecay dirt s.dse.db } := by
  intro p m n quiet dirt
  obtain ⟨a, taken⟩ := opticalEnd_dse amplitude
    (s.setDse { s.dse with seq := s.dse.seq + 1, lastSw := windowSpeed w s.mdr.speed })
  refine ⟨a, if s.dse.optical = .track then attenuation s.dse.baseline (min amplitude 4095) else s.dse.lastOpt, ?_⟩
  rw [State.setDse_dse, State.setDse_dirtPar, opticalMoved_eq] at taken
  simp only [windowSteps, reportLevel_fields, State.setDse_dse, State.setDse_dirtPar, opticalEnd_frame, opticalEnd_usable,
    taken, acousticEnd_eq, indexEnd_eq, levelAndBoost, acousticUsable]
  by_cases track : s.dse.optical = .track
  all_goals by_cases usable : (w.acousticOn && decide (noiseMeasure (s.dse.seq + 1).toNat w signal ≤ s.dirtPar.noiseLimit)) = true
  all_goals simp only [track, usable, dirt, windowDirt, quiet, n, p, m, if_true, if_false, decide_eq_true_eq,
    decide_false, Bool.false_eq_true]

theorem windowSteps_sensor (w : DirtWindow) (amplitude level : Nat) (signal : List Nat) (s : State) :
    (windowSteps w amplitude level signal s).fmg.table.sensorBlocked =
      (let m := opticalMoved s.dirtPar (min amplitude 4095) s.dse
       if s.dse.optical = .track ∧ m.optical = .killed then
         { count := min 255 (s.fmg.table.sensorBlocked.count + 1), uptime := s.slc.uptime
           detail := .milliamps m.working }
       else s.fmg.table.sensorBlocked) := by
  simp only [windowSteps, reportLevel_fields, State.setDse_fmg, opticalEnd_sensor, State.setDse_dse, State.setDse_dirtPar,
    State.setDse_slc, opticalMoved_eq]

theorem windowSteps_counters (w : DirtWindow) (amplitude level : Nat) (signal : List Nat) (s : State) :
    (windowSteps w amplitude level signal s).icn.counters = s.icn.counters := by
  simp [windowSteps, opticalEnd_counters]

/-! ### The measures in the statement's words -/

theorem noiseMeasure_eq (seq : Nat) (w : DirtWindow) (signal : List Nat) : noiseMeasure seq w signal =
    (let calm := signal.filter fun y => decide (y ≤ w.detect)
     min (if calm.length = 0 then Config.noiseInsideImpacts seq else calm.sum / calm.length) 255) := by
  unfold noiseMeasure measuredNoise outsideImpacts
  dsimp only
  by_cases empty : signal.filter (fun y => decide (y ≤ w.detect)) = []
  · rw [if_pos empty, if_pos (List.length_eq_zero_iff.2 empty)]
  · rw [if_neg empty, if_neg (mt List.length_eq_zero_iff.1 empty)]

theorem movedLevel_of_not_higher {p : DirtPar} {d : Nat} {l : DirtLevel} (h : (reachedLevel p d).rank ≤ l.rank) (hold : Nat) :
    movedLevel p d l hold =
      if l = .clean then (.clean, 0)
      else if d + p.levelHyst < l.threshold p then
        if p.holdWindows ≤ hold + 1 then (l.below, 0) else (l, hold + 1)
      else (l, 0) := if_neg (Nat.not_lt.2 h)

/-- A level that holds or falls one step (R92). -/
theorem movedLevel_falls {p : DirtPar} {d : Nat} {l : DirtLevel} (hold : Nat) (h : (reachedLevel p d).rank ≤ l.rank)
    (above : l ≠ .clean) : movedLevel p d l hold =
      if l.threshold p ≤ d + p.levelHyst then (l, 0)
      else if hold + 1 < p.holdWindows then (l, hold + 1)
      else (l.below, 0) := by
  rw [movedLevel_of_not_higher h, if_neg above]
  by_cases near : l.threshold p ≤ d + p.levelHyst
  · rw [if_neg (by omega), if_pos near]
  · rw [if_pos (by omega), if_neg near]
    by_cases early : hold + 1 < p.holdWindows
    · rw [if_neg (by omega), if_pos early]
    · rw [if_pos (by omega), if_neg early]

/-- Settles O38: the five steps of a window end, their record and their counters. -/
theorem dirtWindowEnds : Obligations.DirtWindowEnds := by
  intro amp level signal w s on open' p a b opt sw rises calm count noise ac quiet dirt top number falls
  have taken : exec (.dirtWindowEnd amp level signal) s =
      .next (beginTransmission (if windowOver w then dirtWindowEnd w amp level signal s else s)) := by
    refine congrArg Host.Outcome.next ((whilePowered_on on).trans ?_)
    rw [open']
  refine ⟨fun early => ?_, fun lasted => ?_⟩
  · rw [taken, if_neg (by simpa using early)]
  rw [if_pos ((windowOver_iff w).2 lasted)] at taken
  refine ⟨_, taken, ?_⟩
  obtain ⟨lastA, lastOpt, dse⟩ := windowSteps_dse w amp level signal s
  have isCount : impactCount w level signal = count := congrArg (min · 65535) (impacts_eq_count w.detect level signal)
  have isNoise : noiseMeasure (s.dse.seq + 1).toNat w signal = noise := noiseMeasure_eq _ w signal
  have isQuiet : (w.acousticOn && decide (noise ≤ s.dirtPar.noiseLimit)) = decide (w.acousticOn ∧ quiet) := by
    simp [quiet, p, Bool.decide_and]
  have isDirt : windowDirt w amp level signal s = dirt := by
    simp only [windowDirt, isNoise, isQuiet, isCount, decide_eq_true_eq]
    rfl
  have isRank (l : DirtLevel) : number l = l.rank := by cases l <;> rfl
  have isTop : reachedLevel s.dirtPar dirt = top := rfl
  have dseAfter : (beginTransmission (dirtWindowEnd w amp level signal s)).dse =
      { (windowSteps w amp level signal s).dse with
        carrier := p.carrier
        window := some { timer := 0, length := p.window, acousticOn := p.acousticEnable, detect := p.detectLevel
                         speedSum := 0, speedCount := 0 } } := by
    simp [dirtWindowEnd, beginWindow, p]
  have drs : (beginTransmission (dirtWindowEnd w amp level signal s)).drs =
      { s.drs with record := if s.drs.record.runDemand then
          runningRecord (s.setDse { s.dse with db := max dirt (s.dse.db - p.boostDecay) })
        else DemandRecord.idle } := by
    have record := runningRecord_congr (s := s.setDse { s.dse with db := max dirt (s.dse.db - p.boostDecay) })
      (t := windowSteps w amp level signal s) (by simp) (by simp) (by simp) (by simp)
      (by rw [dse, isDirt]; rfl) (by simp) (by simp)
    simp [dirtWindowEnd, evaluate_drs, record]
  have fmg : (beginTransmission (dirtWindowEnd w amp level signal s)).fmg = (windowSteps w amp level signal s).fmg := by
    simp [dirtWindowEnd]
  have counters : (beginTransmission (dirtWindowEnd w amp level signal s)).icn.counters =
      (countEvents ((.dirtSum, .units dirt) :: (if (windowSteps w amp level signal s).dse.level = .heavy
        then [(.heavyWindows, .units 1)] else [])) s).icn.counters := by
    have alike := countEvents_alike ((.dirtSum, .units dirt) :: (if (windowSteps w amp level signal s).dse.level = .heavy
      then [(.heavyWindows, .units 1)] else [])) (evaluate (windowSteps w amp level signal s)) s
      (by simp [windowSteps_counters])
    have isD : (windowSteps w amp level signal s).dse.d = dirt := by rw [dse, isDirt]
    rw [← alike]
    simp [dirtWindowEnd, isD]
  rw [dse, isNoise, isQuiet, isCount, isDirt] at dseAfter
  simp only [fmg, counters, drs, dseAfter, decide_eq_true_eq]
  refine ⟨?pair, rfl, ?acoustic, trivial, ?sound, trivial, rfl, trivial, rfl, ?rises, ?falls, trivial, trivial,
    ⟨rfl, rfl, rfl, rfl, rfl, rfl, rfl, windowSteps_sensor w amp level signal s⟩, ?counters, trivial,
    by simp, by simp, by simp, by simp, by simp, by simp [PackKept], by simp [ParamsKept]⟩
  case pair => split <;> rfl
  case acoustic =>
    split
    case isTrue acousticOn => simp [acousticOn]
    case isFalse => rfl
  case sound =>
    intro sound rest
    have idle : s.drs.record = DemandRecord.idle := by simpa [RecordSound, rest] using sound
    rw [if_neg (by simp [rest]), ← idle]
  case rises =>
    rw [isRank, isRank, ← isTop]
    intro higher
    simp [movedLevel, higher]
  case falls =>
    rw [isRank, isRank, ← isTop, Prod.mk.eta]
    intro within
    split
    case h_1 clean => rw [movedLevel_of_not_higher within, if_pos clean]
    case h_2 light =>
      rw [movedLevel_falls _ within (by simp [light])]
      simp [falls, light, DirtLevel.threshold, DirtLevel.below, p]
    case h_3 moderate =>
      rw [movedLevel_falls _ within (by simp [moderate])]
      simp [falls, moderate, DirtLevel.threshold, DirtLevel.below, p]
    case h_4 heavy =>
      rw [movedLevel_falls _ within (by simp [heavy])]
      simp [falls, heavy, DirtLevel.threshold, DirtLevel.below, p]
  case counters => rw [dse, isDirt]

end Sys2Proof.Proofs

namespace Sys2Proof.Proofs

open Sys2Proof.Machine Sys2Proof.Safety

/-! ### The commands whose moment has come, in the statement's words -/

theorem scanDue_eq (s : State) : scanDue s =
    (s.pkm.scan.isNone && s.pkm.lastStart.all fun t => decide
      ((match s.pkm.interval with
        | .fast => 8
        | .slow => 250
        | .watch => 4000) ≤ (s.slc.uptime - t).toNat)) := by
  have ms : s.pkm.interval.ms = (match s.pkm.interval with
        | .fast => 8
        | .slow => 250
        | .watch => 4000) := by cases s.pkm.interval <;> rfl
  unfold scanDue
  rw [ms]
  cases s.pkm.lastStart <;> rfl

theorem dueDirt_eq (s : State) : dueDirt s =
    dueIf (s.dse.window.any fun w => decide (w.length ≤ w.timer))
      (.dirtWindowEnd (Config.windowAmplitude s.slc.uptime.toNat) (Config.windowLevel s.slc.uptime.toNat)
        (Config.windowSignal s.slc.uptime.toNat)) := by
  unfold dueDirt
  cases s.dse.window <;> rfl

theorem replyOverdue_eq (d : Dlk) :
    replyOverdue d = d.exchange.any fun e => !e.sending && !e.expired && decide (50 ≤ e.wait) := by
  unfold replyOverdue
  cases d.exchange <;> rfl

theorem isCharging_eq (c : ChargeState) :
    isCharging c = decide (c = .precharge ∨ c = .cc ∨ c = .cv ∨ c = .balance) := by
  cases c <;> rfl

theorem idleRuns_eq (s : State) : (idleRuns s && decide (0 < s.idleSleepS)) =
    decide (s.slc.power = .on ∧ s.mdr.state = .off ∧ s.dlk.state = .absent ∧ 0 < s.idleSleepS) := by
  simp [idleRuns, Bool.decide_and, Bool.and_assoc]

theorem timedMotor_eq (m : MotorState) :
    timedMotor m = decide (m ∈ [MotorState.precheck, .align, .ramp, .restartWait, .coast]) := by
  cases m <;> rfl

theorem dueCommands_eq (t : State) : dueCommands t =
    dueIf (decide (t.trg.debounced ≠ some t.trg.raw) && decide (10 ≤ t.trg.timer)) .triggerDebounce ++
    dueIf (reached 2000 (t.drs.edit.map (·.timer))) .editTimeout ++ dueMotor t ++ dueBands t ++ dueDirt t ++
    dueIf (scanDue t) .scanStart ++ dueCharge t ++ dueDock t ++
    dueIf (decide (t.mpt.rx ≠ .hunt) && decide (6 ≤ t.mpt.rxGap)) .hostFrameGap ++
    dueIf (idleRuns t && decide (0 < t.idleSleepS) && decide (t.idleSleepS * 1000 ≤ t.slc.idle)) .idleTimerExpiry := by
  simp only [dueCommands, dueDemand, dueLink, debounceRuns, List.append_assoc]

/-! ### A ms -/

theorem tickExchange_eq : tickExchange = fun e => if e.sending then e else { e with wait := min 50 (e.wait + 1) } := by
  funext e
  unfold tickExchange
  split <;> rfl

/-- A scan due at the present moment starts, and nothing else of the Pack Monitor moves (R99). -/
theorem startDueScan_pkm (s : State) : (startDueScan (beginTransmission s)).pkm =
    if scanDue s then (startScan s).pkm else s.pkm := by
  have due : scanDue (beginTransmission s) = scanDue s := by simp only [scanDue_eq, beginTransmission_frame]
  have started : (startScan (beginTransmission s)).pkm = (startScan s).pkm := by
    simp [startScan, newScan, scanDt, State.now]
  unfold startDueScan
  rw [due]
  split
  · exact started
  · simp

/-- A ms with nothing seen at the contacts. -/
theorem step_idle {s : State} (empty : s.pending = []) (powered : s.slc.power ≠ .ship) (seen : contactSeen s = s) :
    step s = .next ((tickTimers (startDueScan (beginTransmission s))).setPending
      (dueCommands (tickTimers (startDueScan (beginTransmission s))))) := by
  have none : (tickTimers (startDueScan (beginTransmission s))).pending = [] := by simp [tickTimers, empty]
  simp only [step, empty, tick, powered, if_false, startAtOnce, seen, ← startDueScan_beginTransmission, none,
    List.nil_append]

/-- Settles O2: a ms with no command waiting. -/
theorem idleStep : Obligations.IdleStep := by
  intro s empty
  refine ⟨fun ship => ?_, fun powered absent contact => ?_, fun powered still => ?_⟩
  · simp [step, empty, tick, ship]
  · obtain ⟨settling, uptime, awake⟩ := contactRisen_settling s absent
    have taken : after .dockContactRise s = beginTransmission (contactRisen s) := by
      have arrives : exec .dockContactRise s = .next (beginTransmission (contactRisen s)) := by
        refine congrArg Host.Outcome.next ?_
        rw [if_neg powered, whilePowered, if_neg powered]
      simp only [after, arrives]
    rw [taken]
    refine ⟨?_, by simp [settling], by simp [uptime]⟩
    have here := awake powered
    simp [step, empty, tick, powered, here, startAtOnce, contactSeen_arrival s absent contact, settling,
      startDueScan_beginTransmission]
  · have seen : contactSeen s = s := by
      obtain present | below := still
      · exact contactSeen_present s present
      · exact contactSeen_below s below
    refine ⟨_, step_idle empty powered seen, ?_⟩
    have pkm := startDueScan_pkm s
    have mpt : (startDueScan (beginTransmission s)).mpt = (beginTransmission s).mpt := by simp
    have icn : (startDueScan (beginTransmission s)).icn = (beginTransmission s).icn := by simp
    have runs : idleRuns (startDueScan (beginTransmission s)) = idleRuns s := by simp [idleRuns]
    generalize hb : startDueScan (beginTransmission s) = b at pkm mpt icn ⊢
    refine ⟨?slc, ?trg, ?drs, ?mdr, ?sbt, ?blm, ?dse, ?chc, ?dlk, ?mpt, icn, ?srg, pkm, ?gge, ?fmg, ?params, ?due⟩
    case slc => simp [tickTimers, tickIdle, runs, ← hb]
    case trg => simp [tickTimers, tickTrg, debounceRuns, ← hb]
    case drs => simp [tickTimers, tickDrs, ← hb]
    case mdr => simp [tickTimers, tickMdr, timedMotor_eq, tickTimer, ← hb]
    case sbt => simp [tickTimers, tickSbt, tickTimer, ← hb]
    case blm => simp [tickTimers, tickBlm, tickTimer, ← hb]
    case dse => simp [tickTimers, tickDse, ← hb]
    case chc => simp [tickTimers, tickChc, ← hb]
    case dlk => simp [tickTimers, tickDlk, tickExchange_eq, tickTimer, ← hb]
    case mpt => simp [tickTimers, tickMpt, mpt]
    case srg => simp [tickTimers, ← hb]
    case gge => simp [tickTimers, ← hb]
    case fmg => simp [tickTimers, ← hb]
    case params => simp [ParamsKept, tickTimers, ← hb]
    case due =>
      have queued : ((tickTimers b).setPending (dueCommands (tickTimers b))).pending =
          dueCommands ((tickTimers b).setPending (dueCommands (tickTimers b))) := rfl
      generalize (tickTimers b).setPending (dueCommands (tickTimers b)) = t at queued ⊢
      rw [queued, dueCommands_eq, dueDirt_eq, scanDue_eq, idleRuns_eq]
      simp only [dueMotor, dueBands, dueCharge, dueDock, replyOverdue_eq, isCharging_eq, any_eq_reached,
        ← List.append_assoc]
      rfl

end Sys2Proof.Proofs

namespace Sys2Proof.Proofs

open Sys2Proof.Machine Sys2Proof.Safety

/-! ### The parameters' values (12.4, R181) -/

/-- Everything the parameters are read off. -/
structure Settings where
  motorPar : MotorPar
  blockPar : BlockPar
  packPar : PackPar
  chargePar : ChargePar
  dirtPar : DirtPar
  idleSleepS : Nat
  capacity : Nat
  mode : TriggerMode
  strict : Bool
  syncLoss : Response
  blockagePersist : Response
  sensorBlocked : Response
  linkErr : Response

/-- The parameters as a state holds them. -/
def settings (s : State) : Settings :=
  { motorPar := s.motorPar, blockPar := s.blockPar, packPar := s.packPar, chargePar := s.chargePar
    dirtPar := s.dirtPar, idleSleepS := s.idleSleepS, capacity := s.gge.f, mode := s.trg.mode
    strict := s.fmg.strict, syncLoss := s.fmg.syncLoss, blockagePersist := s.fmg.blockagePersist
    sensorBlocked := s.fmg.sensorBlocked, linkErr := s.fmg.linkErr }

/-- A parameter's value is read off the settings. -/
theorem get_of_settings {s t : State} (h : settings t = settings s) (p : Param) : p.get t = p.get s := by
  simp only [settings, Settings.mk.injEq] at h
  obtain ⟨motor, block, pack, charge, dirt, idle, capacity, mode, strict, sync, persist, sensor, link⟩ := h
  cases p <;> simp only [Param.get, motor, block, pack, charge, dirt, idle, capacity, mode, strict, sync, persist, sensor, link]

/-- The dependencies of the parameters: the first stands at least so much below the second (R44, R95, R114, R141). -/
def dependencies : List (Param × Int × Param) :=
  [(.invDerateStart, 5, .invCut), (.cellCv, 21, .cellOv), (.deepUv, 100, .cellUv), (.cellUv, 100, .uvRelease),
    (.packDerateStart, 5, .packCut), (.rechargeMv, 50, .cellCv), (.tLight, 1, .tMod), (.tMod, 1, .tHeavy)]

/-- A parameter's lower bound is the dependency it stands above in. -/
theorem depLow_eq (p : Param) (s : State) :
    p.depLow s = (dependencies.find? fun x => x.2.2 == p).map fun x => x.1.get s + x.2.1 := by
  cases p <;> rfl

/-- A parameter's upper bound is the dependency it stands below in. -/
theorem depHigh_eq (p : Param) (s : State) :
    p.depHigh s = (dependencies.find? fun x => x.1 == p).map fun x => x.2.2.get s - x.2.1 := by
  cases p <;> rfl

/-- No parameter stands above in two dependencies. -/
theorem find_dependency : ∀ x ∈ dependencies, (dependencies.find? fun y => y.2.2 == x.2.2) = some x := by decide

/-- No parameter stands below in two dependencies. -/
theorem find_dependency_below : ∀ x ∈ dependencies, (dependencies.find? fun y => y.1 == x.1) = some x := by decide

/-- The parameters are in range where each lies in its own and every dependency holds. -/
theorem paramsInRange_iff (s : State) : ParamsInRange s ↔
    (∀ p : Param, p.range.1 ≤ p.get s ∧ p.get s ≤ p.range.2) ∧
      ∀ x ∈ dependencies, x.1.get s + x.2.1 ≤ x.2.2.get s := by
  constructor
  · intro h
    refine ⟨fun p => ⟨(h p).1, (h p).2.1⟩, fun x hx => (h x.2.2).2.2.1 _ ?_⟩
    rw [depLow_eq, find_dependency x hx]
    rfl
  · rintro ⟨ranges, deps⟩ p
    refine ⟨(ranges p).1, (ranges p).2, fun l low => ?_, fun u high => ?_⟩
    · rw [depLow_eq, Option.map_eq_some_iff] at low
      obtain ⟨x, found, rfl⟩ := low
      have above : x.2.2 = p := by simpa using List.find?_some found
      exact above ▸ deps x (List.mem_of_find?_eq_some found)
    · rw [depHigh_eq, Option.map_eq_some_iff] at high
      obtain ⟨x, found, rfl⟩ := high
      have below : x.1 = p := by simpa using List.find?_some found
      have := deps x (List.mem_of_find?_eq_some found)
      rw [below] at this
      omega

theorem paramsInRange_of_settings {s t : State} (h : settings t = settings s) (k : ParamsInRange s) :
    ParamsInRange t := by
  rw [paramsInRange_iff] at k ⊢
  simpa only [get_of_settings h] using k

theorem paramsInRange_reset : ParamsInRange State.reset := by
  rw [paramsInRange_iff]
  constructor
  · intro p; cases p <;> decide
  · decide

end Sys2Proof.Proofs

namespace Sys2Proof.Proofs

open Sys2Proof.Machine Sys2Proof.Safety

@[simp] theorem settings_setTrg {s : State} {g : Trg} (h : g.mode = s.trg.mode) :
    settings (s.setTrg g) = settings s := by simp [settings, h]
@[simp] theorem settings_setDrs (s : State) (v : Drs) : settings (s.setDrs v) = settings s := rfl
@[simp] theorem settings_setMdr (s : State) (v : Mdr) : settings (s.setMdr v) = settings s := rfl
@[simp] theorem settings_setSrg (s : State) (v : Srg) : settings (s.setSrg v) = settings s := rfl
@[simp] theorem settings_setSbt (s : State) (v : Sbt) : settings (s.setSbt v) = settings s := rfl
@[simp] theorem settings_setBlm (s : State) (v : Blm) : settings (s.setBlm v) = settings s := rfl
@[simp] theorem settings_setDse (s : State) (v : Dse) : settings (s.setDse v) = settings s := rfl
@[simp] theorem settings_setPkm (s : State) (v : Pkm) : settings (s.setPkm v) = settings s := rfl
@[simp] theorem settings_setGge {s : State} {g : Gge} (h : g.f = s.gge.f) :
    settings (s.setGge g) = settings s := by simp [settings, h]
@[simp] theorem settings_setChc (s : State) (v : Chc) : settings (s.setChc v) = settings s := rfl
@[simp] theorem settings_setDlk (s : State) (v : Dlk) : settings (s.setDlk v) = settings s := rfl
@[simp] theorem settings_setIcn (s : State) (v : Icn) : settings (s.setIcn v) = settings s := rfl
@[simp] theorem settings_setFmg {s : State} {f : Fmg} (h : f.strict = s.fmg.strict) (sync : f.syncLoss = s.fmg.syncLoss)
    (persist : f.blockagePersist = s.fmg.blockagePersist) (sensor : f.sensorBlocked = s.fmg.sensorBlocked)
    (link : f.linkErr = s.fmg.linkErr) : settings (s.setFmg f) = settings s := by
  simp [settings, h, sync, persist, sensor, link]
@[simp] theorem settings_setMpt (s : State) (v : Mpt) : settings (s.setMpt v) = settings s := rfl
@[simp] theorem settings_setSlc (s : State) (v : Slc) : settings (s.setSlc v) = settings s := rfl
@[simp] theorem settings_setPending (s : State) (v : List Instr) : settings (s.setPending v) = settings s := rfl

/-- A part of a step that leaves every block a parameter is held in alone. -/
theorem settings_of_frame {s t : State} (h : t.trg = s.trg ∧ t.gge = s.gge ∧ t.fmg = s.fmg ∧ ParamsKept s t) :
    settings t = settings s := by
  obtain ⟨trg, gge, fmg, motor, block, pack, charge, dirt, idle⟩ := h
  simp only [settings, trg, gge, fmg, motor, block, pack, charge, dirt, idle]

/-! ### A write (R181) -/

/-- The value taken lies in the range and within the dependencies, where the parameters do (R181). -/
theorem taken_inRange {s : State} (h : ParamsInRange s) (p : Param) (v : Int) :
    p.range.1 ≤ p.taken v s ∧ p.taken v s ≤ p.range.2 ∧ (∀ l, p.depLow s = some l → l ≤ p.taken v s) ∧
      ∀ u, p.depHigh s = some u → p.taken v s ≤ u := by
  obtain ⟨least, greatest, low, high⟩ := h p
  unfold Param.taken clampInt
  cases l : p.depLow s <;> cases u : p.depHigh s <;> simp only [l, u, Option.some.injEq, forall_eq'] at low high ⊢ <;>
    refine ⟨?_, ?_, ?_, ?_⟩ <;> simp <;> omega

/-- The codes of an enumeration lie in its range, and no dependency names one. -/
theorem codes_inRange {p : Param} {cs : List Int} (h : p.codes = some cs) (s : State) :
    (∀ v ∈ cs, p.range.1 ≤ v ∧ v ≤ p.range.2) ∧ p.depLow s = none ∧ p.depHigh s = none := by
  cases p <;> cases h <;> exact ⟨by decide, rfl, rfl⟩

end Sys2Proof.Proofs

namespace Sys2Proof.Proofs

open Sys2Proof.Machine Sys2Proof.Safety

/-! ### What leaves the parameters alone -/

@[simp] theorem raise_settings (n : Notice) (s : State) :
    settings (raise n s) = settings s := settings_of_frame (by simp [ParamsKept])
@[simp] theorem beginTransmission_settings (s : State) :
    settings (beginTransmission s) = settings s := settings_of_frame (by simp [ParamsKept])
@[simp] theorem queueReply_settings (r : Reply) (s : State) :
    settings (queueReply r s) = settings s := settings_of_frame (by simp [ParamsKept])
@[simp] theorem countEvents_settings (amounts : List (CounterSource × CountAmount)) (s : State) :
    settings (countEvents amounts s) = settings s := settings_of_frame (by simp [ParamsKept])
@[simp] theorem countEvent_settings (source : CounterSource) (a : CountAmount) (s : State) :
    settings (countEvent source a s) = settings s := settings_of_frame (by simp [ParamsKept])
@[simp] theorem judgeReach_settings (i : Nat) (s : State) :
    settings (judgeReach i s) = settings s := settings_of_frame (by simp [ParamsKept])
@[simp] theorem putCounter_settings (i : Nat) (c : Counter) (s : State) :
    settings (putCounter i c s) = settings s := settings_of_frame (by simp [ParamsKept])
@[simp] theorem clearOnEvacuation_settings (s : State) :
    settings (clearOnEvacuation s) = settings s := settings_of_frame (by simp [ParamsKept])
@[simp] theorem evaluateAs_settings (runDemand : Bool) (s : State) :
    settings (evaluateAs runDemand s) = settings s := settings_of_frame (by simp [ParamsKept])
@[simp] theorem evaluate_settings (s : State) :
    settings (evaluate s) = settings s := settings_of_frame (by simp [ParamsKept])
@[simp] theorem abortEdit_settings (cause : AbortCause) (s : State) :
    settings (abortEdit cause s) = settings s := settings_of_frame (by simp [ParamsKept])
@[simp] theorem raiseTripNotice_settings (e : TripEvent) (s : State) :
    settings (raiseTripNotice e s) = settings s := settings_of_frame (by simp [ParamsKept])
@[simp] theorem clearClaims_settings (s : State) :
    settings (clearClaims s) = settings s := rfl
@[simp] theorem tableRaise_settings (k : FaultKind) (d : Detail) (s : State) :
    settings (tableRaise k d s) = settings s := by simp [tableRaise]
@[simp] theorem laterCause_settings (k : FaultKind) (d : Detail) (s : State) :
    settings (laterCause k d s) = settings s := by simp [laterCause]
@[simp] theorem noteRaise_settings (k : FaultKind) (d : Detail) (s : State) :
    settings (noteRaise k d s) = settings s := by
  unfold noteRaise
  dsimp only
  repeat' split
  all_goals simp
@[simp] theorem raiseNotified_settings (k : FaultKind) (d : Detail) (s : State) :
    settings (raiseNotified k d s) = settings s := by
  unfold raiseNotified
  dsimp only
  repeat' split
  all_goals simp
@[simp] theorem reportSensor_settings (e : SetEvent) (r : SensorReason) (s : State) :
    settings (reportSensor e r s) = settings s := settings_of_frame (by simp [ParamsKept])
@[simp] theorem raiseDirtNotice_settings (old : DirtLevel) (cause : DirtCause) (s : State) :
    settings (raiseDirtNotice old cause s) = settings s := settings_of_frame (by simp [ParamsKept])
@[simp] theorem raiseSensor_settings (s : State) :
    settings (raiseSensor s) = settings s := by simp [raiseSensor]
@[simp] theorem beginWindow_settings (s : State) :
    settings (beginWindow s) = settings s := settings_of_frame (by simp [ParamsKept])
@[simp] theorem dirtEnterRun_settings (s : State) :
    settings (dirtEnterRun s) = settings s := settings_of_frame (by simp [ParamsKept])
@[simp] theorem dirtLeaveRun_settings (s : State) :
    settings (dirtLeaveRun s) = settings s := settings_of_frame (by simp [ParamsKept])
@[simp] theorem reportLevel_settings (old : DirtLevel) (s : State) :
    settings (reportLevel old s) = settings s := settings_of_frame (by simp [ParamsKept])
@[simp] theorem chooseInterval_settings (s : State) :
    settings (chooseInterval s) = settings s := settings_of_frame (by simp [ParamsKept])
@[simp] theorem raisePackNotice_settings (cellOv : Bool) (cause : PackCause) (cell : Nat) (old : PackState) (s : State) :
    settings (raisePackNotice cellOv cause cell old s) = settings s := settings_of_frame (by simp [ParamsKept])
@[simp] theorem changePackState_settings (new : PackState) (cause : PackCause) (cell : Nat) (s : State) :
    settings (changePackState new cause cell s) = settings s := settings_of_frame (by simp [ParamsKept])
@[simp] theorem releaseCutoff_settings (s : State) :
    settings (releaseCutoff s) = settings s := settings_of_frame (by simp [ParamsKept])
@[simp] theorem applyBleed_settings (set : Seven Bool) (s : State) :
    settings (applyBleed set s) = settings s := settings_of_frame (by simp [ParamsKept])
@[simp] theorem raiseDockNotice_settings (grantEvent : Bool) (old : DockState) (cause : DockCause) (s : State) :
    settings (raiseDockNotice grantEvent old cause s) = settings s := settings_of_frame (by simp [ParamsKept])
@[simp] theorem startExchange_settings (m : DockMsg) (s : State) :
    settings (startExchange m s) = settings s := settings_of_frame (by simp [ParamsKept])
@[simp] theorem sendRequest_settings (r : DueRequest) (s : State) :
    settings (sendRequest r s) = settings s := settings_of_frame (by simp [ParamsKept])
@[simp] theorem sendDue_settings (s : State) :
    settings (sendDue s) = settings s := settings_of_frame (by simp [ParamsKept])
@[simp] theorem requestDue_settings (forKeep : Bool) (s : State) :
    settings (requestDue forKeep s) = settings s := settings_of_frame (by simp [ParamsKept])
@[simp] theorem handRelease_settings (r : ReleaseReason) (s : State) :
    settings (handRelease r s) = settings s := settings_of_frame (by simp [ParamsKept])
@[simp] theorem qualifyEntered_settings (s : State) :
    settings (qualifyEntered s) = settings s := settings_of_frame (by simp [ParamsKept])
@[simp] theorem changeCharge_settings (new : ChargeState) (cause : ChargeCause) (suspend : SuspendSet) (s : State) :
    settings (changeCharge new cause suspend s) = settings s := settings_of_frame (by simp [ParamsKept])
@[simp] theorem enterSuspend_settings (temp : Bool) (s : State) :
    settings (enterSuspend temp s) = settings s := settings_of_frame (by simp [ParamsKept])
@[simp] theorem enterChargeFault_settings (k : FaultKind) (s : State) :
    settings (enterChargeFault k s) = settings s := settings_of_frame (by simp [ParamsKept])
@[simp] theorem setCharge_settings (q : Nat) (e : GaugeEvent) (s : State) :
    settings (setCharge q e s) = settings s := by simp [setCharge]
@[simp] theorem raiseChargeStop_settings (k : FaultKind) (d : Detail) (s : State) :
    settings (raiseChargeStop k d s) = settings s := by simp [raiseChargeStop]
@[simp] theorem enterDone_settings (cause : ChargeCause) (s : State) :
    settings (enterDone cause s) = settings s := by simp [enterDone]
@[simp] theorem judgeQualify_settings (s : State) :
    settings (judgeQualify s) = settings s := by
  unfold judgeQualify
  repeat' split
  all_goals simp
@[simp] theorem capSetpoint_settings (s : State) :
    settings (capSetpoint s) = settings s := settings_of_frame (by simp [ParamsKept])
@[simp] theorem resumeIfClear_settings (s : State) :
    settings (resumeIfClear s) = settings s := settings_of_frame (by simp [ParamsKept])
@[simp] theorem dockGone_settings (s : State) :
    settings (dockGone s) = settings s := settings_of_frame (by simp [ParamsKept])
@[simp] theorem dockSeen_settings (s : State) :
    settings (dockSeen s) = settings s := settings_of_frame (by simp [ParamsKept])
@[simp] theorem grantDelivered_settings (s : State) :
    settings (grantDelivered s) = settings s := by
  unfold grantDelivered
  dsimp only
  repeat' split
  all_goals simp
@[simp] theorem cvStep_settings (measured : Int) (s : State) :
    settings (cvStep measured s) = settings s := by
  unfold cvStep
  dsimp only
  repeat' split
  all_goals simp
@[simp] theorem balanceStep_settings (s : State) :
    settings (balanceStep s) = settings s := by
  unfold balanceStep
  dsimp only
  repeat' split
  all_goals simp
@[simp] theorem stateStep_settings (measured : Int) (s : State) :
    settings (stateStep measured s) = settings s := by
  unfold stateStep
  repeat' split
  all_goals simp
@[simp] theorem suspendStep_settings (s : State) :
    settings (suspendStep s) = settings s := settings_of_frame (by simp [ParamsKept])
@[simp] theorem handBleed_settings (set : Seven Bool) (s : State) :
    settings (handBleed set s) = settings s := settings_of_frame (by simp [ParamsKept])
@[simp] theorem stageTest_settings (measured : Int) (s : State) :
    settings (stageTest measured s) = settings s := by
  unfold stageTest
  dsimp only
  repeat' split
  all_goals simp
@[simp] theorem chargeScan_settings (s : State) :
    settings (chargeScan s) = settings s := by
  unfold chargeScan
  dsimp only
  repeat' split
  all_goals simp
@[simp] theorem setBlockage_settings (b : Blm) (s : State) :
    settings (setBlockage b s) = settings s := settings_of_frame (by simp [ParamsKept])
@[simp] theorem raiseBlockageNotice_settings (e : SetEvent) (r : BlockageReason) (s : State) :
    settings (raiseBlockageNotice e r s) = settings s := settings_of_frame (by simp [ParamsKept])
@[simp] theorem clearBlockage_settings (r : BlockageReason) (s : State) :
    settings (clearBlockage r s) = settings s := settings_of_frame (by simp [ParamsKept])
@[simp] theorem commutate_settings (period : Nat) (im : Int) (s : State) :
    settings (commutate period im s) = settings s := settings_of_frame (by simp [ParamsKept])
@[simp] theorem scheduleCrossing_settings (t d : Nat) (s : State) :
    settings (scheduleCrossing t d s) = settings s := settings_of_frame (by simp [ParamsKept])
@[simp] theorem refreshDerate_settings (s : State) :
    settings (refreshDerate s) = settings s := settings_of_frame (by simp [ParamsKept])
@[simp] theorem deliverSrg_settings (new : MotorState) (s : State) :
    settings (deliverSrg new s) = settings s := settings_of_frame (by simp [ParamsKept])
@[simp] theorem deliverBlm_settings (old new : MotorState) (s : State) :
    settings (deliverBlm old new s) = settings s := settings_of_frame (by simp [ParamsKept])
@[simp] theorem deliverDse_settings (old new : MotorState) (s : State) :
    settings (deliverDse old new s) = settings s := settings_of_frame (by simp [ParamsKept])
@[simp] theorem deliverPkm_settings (new : MotorState) (s : State) :
    settings (deliverPkm new s) = settings s := settings_of_frame (by simp [ParamsKept])
@[simp] theorem deliverIcn_settings (new : MotorState) (s : State) :
    settings (deliverIcn new s) = settings s := settings_of_frame (by simp [ParamsKept])
@[simp] theorem deliverSlc_settings (s : State) :
    settings (deliverSlc s) = settings s := settings_of_frame (by simp [ParamsKept])
@[simp] theorem deliverDrs_settings (new : MotorState) (s : State) :
    settings (deliverDrs new s) = settings s := by
  unfold deliverDrs
  repeat' split
  all_goals simp
@[simp] theorem motorTo_settings (new : MotorState) (cause : MotorCause) (startPending : Bool) (s : State) :
    settings (motorTo new cause startPending s) = settings s := by simp [motorTo]
@[simp] theorem demandRise_settings (s : State) :
    settings (demandRise s) = settings s := by
  unfold demandRise
  repeat' split
  all_goals simp
@[simp] theorem demandFall_settings (s : State) :
    settings (demandFall s) = settings s := by
  unfold demandFall
  repeat' split
  all_goals simp
@[simp] theorem demandRefresh_settings (s : State) :
    settings (demandRefresh s) = settings s := by
  unfold demandRefresh
  dsimp only
  repeat' split
  all_goals simp
@[simp] theorem forcedStop_settings (s : State) :
    settings (forcedStop s) = settings s := by simp [forcedStop]
@[simp] theorem coastEnd_settings (cause : MotorCause) (s : State) :
    settings (coastEnd cause s) = settings s := by
  unfold coastEnd
  repeat' split
  all_goals simp
@[simp] theorem trip_settings (k : FaultKind) (d : Detail) (s : State) :
    settings (trip k d s) = settings s := by simp [trip]
@[simp] theorem applyStop_settings (k : FaultKind) (d : Detail) (s : State) :
    settings (applyStop k d s) = settings s := by
  unfold applyStop
  repeat' split
  all_goals simp
@[simp] theorem raiseStop_settings (k : FaultKind) (d : Detail) (s : State) :
    settings (raiseStop k d s) = settings s := by simp [raiseStop]
@[simp] theorem startFail_settings (cause : MotorCause) (s : State) :
    settings (startFail cause s) = settings s := by
  unfold startFail
  dsimp only
  repeat' split
  all_goals simp
@[simp] theorem restartDecision_settings (d : Detail) (s : State) :
    settings (restartDecision d s) = settings s := by
  unfold restartDecision
  dsimp only
  repeat' split
  all_goals simp
@[simp] theorem raiseSyncLoss_settings (s : State) :
    settings (raiseSyncLoss s) = settings s := by
  unfold raiseSyncLoss
  dsimp only
  repeat' split
  all_goals simp
@[simp] theorem precheckDecide_settings (tInv : Int) (s : State) :
    settings (precheckDecide tInv s) = settings s := by
  unfold precheckDecide
  repeat' split
  all_goals simp
@[simp] theorem enterRun_settings (s : State) :
    settings (enterRun s) = settings s := by simp [enterRun]
@[simp] theorem enterHandover_settings (t d : Nat) (s : State) :
    settings (enterHandover t d s) = settings s := by simp [enterHandover]
@[simp] theorem enterRunCaught_settings (s : State) :
    settings (enterRunCaught s) = settings s := by simp [enterRunCaught]
@[simp] theorem clearTrip_settings (way : ClearWay) (s : State) :
    settings (clearTrip way s) = settings s := by simp [clearTrip]
@[simp] theorem raisePersist_settings (s : State) :
    settings (raisePersist s) = settings s := by
  unfold raisePersist
  repeat' split
  all_goals simp
@[simp] theorem enterBlocked_settings (s : State) :
    settings (enterBlocked s) = settings s := by
  unfold enterBlocked
  dsimp only
  repeat' split
  all_goals simp
@[simp] theorem expireBlock_settings (s : State) :
    settings (expireBlock s) = settings s := by
  unfold expireBlock
  repeat' split
  all_goals simp
@[simp] theorem expireRetry_settings (s : State) :
    settings (expireRetry s) = settings s := settings_of_frame (by simp [ParamsKept])
@[simp] theorem deliverDockSlc_settings (s : State) :
    settings (deliverDockSlc s) = settings s := settings_of_frame (by simp [ParamsKept])
@[simp] theorem dockChanged_settings (old : DockState) (cause : DockCause) (s : State) :
    settings (dockChanged old cause s) = settings s := by simp [dockChanged]
@[simp] theorem grantChanged_settings (before : Nat) (cause : DockCause) (s : State) :
    settings (grantChanged before cause s) = settings s := by
  unfold grantChanged
  repeat' split
  all_goals simp
@[simp] theorem dockArrival_settings (s : State) :
    settings (dockArrival s) = settings s := by simp [dockArrival]
@[simp] theorem dockLoss_settings (s : State) :
    settings (dockLoss s) = settings s := by simp [dockLoss]
@[simp] theorem enterGreeting_settings (cause : DockCause) (s : State) :
    settings (enterGreeting cause s) = settings s := by simp [enterGreeting]
@[simp] theorem enterLost_settings (s : State) :
    settings (enterLost s) = settings s := by simp [enterLost]
@[simp] theorem enterActive_settings (grant : Nat) (released : Bool) (cause : DockCause) (s : State) :
    settings (enterActive grant released cause s) = settings s := by simp [enterActive]
@[simp] theorem takeEvacuation_settings (flag : Bool) (s : State) :
    settings (takeEvacuation flag s) = settings s := settings_of_frame (by simp [ParamsKept])
@[simp] theorem takeAck_settings (status : AckStatus) (flag : Bool) (s : State) :
    settings (takeAck status flag s) = settings s := by simp [takeAck]
@[simp] theorem actOnReply_settings (r : DockReply) (s : State) :
    settings (actOnReply r s) = settings s := by
  unfold actOnReply
  repeat' split
  all_goals simp
@[simp] theorem answerExchange_settings (r : DockReply) (s : State) :
    settings (answerExchange r s) = settings s := by simp [answerExchange]
@[simp] theorem endUnanswered_settings (s : State) :
    settings (endUnanswered s) = settings s := by
  unfold endUnanswered
  dsimp only
  repeat' split
  all_goals simp
@[simp] theorem attemptUnanswered_settings (e : Exchange) (s : State) :
    settings (attemptUnanswered e s) = settings s := by
  unfold attemptUnanswered
  repeat' split
  all_goals simp
@[simp] theorem receptionEnded_settings (s : State) :
    settings (receptionEnded s) = settings s := by
  unfold receptionEnded
  repeat' split
  all_goals simp
@[simp] theorem dockFrameTaken_settings (bytes : List Byte) (s : State) :
    settings (dockFrameTaken bytes s) = settings s := by
  unfold dockFrameTaken
  dsimp only
  repeat' split
  all_goals simp
@[simp] theorem abandonReception_settings (s : State) :
    settings (abandonReception s) = settings s := by simp [abandonReception]
@[simp] theorem receptionBegun_settings (s : State) :
    settings (receptionBegun s) = settings s := by
  unfold receptionBegun
  dsimp only
  repeat' split
  all_goals simp
@[simp] theorem replyTimeout_settings (s : State) :
    settings (replyTimeout s) = settings s := by
  unfold replyTimeout
  repeat' split
  all_goals simp
@[simp] theorem firstMessage_settings (s : State) :
    settings (firstMessage s) = settings s := settings_of_frame (by simp [ParamsKept])
@[simp] theorem dockScan_settings (s : State) :
    settings (dockScan s) = settings s := settings_of_frame (by simp [ParamsKept])
@[simp] theorem keepDue_settings (s : State) :
    settings (keepDue s) = settings s := settings_of_frame (by simp [ParamsKept])
@[simp] theorem enterSleep_settings (s : State) :
    settings (enterSleep s) = settings s := by simp [enterSleep]
@[simp] theorem wake_settings (cause : WakeCause) (s : State) :
    settings (wake cause s) = settings s := by simp [wake]
@[simp] theorem wakeIfAsleep_settings (cause : WakeCause) (s : State) :
    settings (wakeIfAsleep cause s) = settings s := by
  unfold wakeIfAsleep
  repeat' split
  all_goals simp
@[simp] theorem idleZero_settings (s : State) :
    settings (idleZero s) = settings s := settings_of_frame (by simp [ParamsKept])
@[simp] theorem startScan_settings (s : State) :
    settings (startScan s) = settings s := settings_of_frame (by simp [ParamsKept])
@[simp] theorem startDueScan_settings (s : State) :
    settings (startDueScan s) = settings s := settings_of_frame (by simp [ParamsKept])
@[simp] theorem contactRisen_settings (s : State) :
    settings (contactRisen s) = settings s := by
  unfold contactRisen
  dsimp only
  repeat' split
  all_goals simp
@[simp] theorem contactSeen_settings (s : State) :
    settings (contactSeen s) = settings s := by
  unfold contactSeen
  repeat' split
  all_goals simp
@[simp] theorem startAtOnce_settings (s : State) :
    settings (startAtOnce s) = settings s := by simp [startAtOnce]
@[simp] theorem seventhCell_settings (sc : Scan) (s : State) :
    settings (seventhCell sc s) = settings s := settings_of_frame (by simp [ParamsKept])
@[simp] theorem recordCells_settings (r : ScanReading) (s : State) :
    settings (recordCells r s) = settings s := settings_of_frame (by simp [ParamsKept])
@[simp] theorem recordOthers_settings (r : ScanReading) (s : State) :
    settings (recordOthers r s) = settings s := settings_of_frame (by simp [ParamsKept])
@[simp] theorem judgeRelease_settings (s : State) :
    settings (judgeRelease s) = settings s := settings_of_frame (by simp [ParamsKept])
@[simp] theorem judgePackState_settings (s : State) :
    settings (judgePackState s) = settings s := settings_of_frame (by simp [ParamsKept])
@[simp] theorem moveAllowances_settings (sc : Scan) (s : State) :
    settings (moveAllowances sc s) = settings s := settings_of_frame (by simp [ParamsKept])
@[simp] theorem judgePackHot_settings (s : State) :
    settings (judgePackHot s) = settings s := by
  unfold judgePackHot
  repeat' split
  all_goals simp
@[simp] theorem enterCutoff_settings (s : State) :
    settings (enterCutoff s) = settings s := by simp [enterCutoff]
@[simp] theorem ovEvent_settings (cell : Nat) (s : State) :
    settings (ovEvent cell s) = settings s := by
  unfold ovEvent
  dsimp only
  repeat' split
  all_goals simp
@[simp] theorem gaugeScan_settings (i : Int) (dt : Nat) (cutoffNow : Bool) (s : State) :
    settings (gaugeScan i dt cutoffNow s) = settings s := by
  unfold gaugeScan
  dsimp only
  repeat' split
  all_goals rfl
@[simp] theorem chargeIn_settings (i : Int) (dt : Nat) (s : State) :
    settings (chargeIn i dt s) = settings s := by
  simp [settings, chargeIn, chargeEvents_frame]
@[simp] theorem gaugeStep_settings (sc : Scan) (cutoffNow : Bool) (s : State) :
    settings (gaugeStep sc cutoffNow s) = settings s := by
  unfold gaugeStep
  dsimp only
  repeat' split
  all_goals simp
@[simp] theorem deliverTInv_settings (t : Int) (s : State) :
    settings (deliverTInv t s) = settings s := by
  unfold deliverTInv
  dsimp only
  repeat' split
  all_goals simp
@[simp] theorem deliverScan_settings (s : State) :
    settings (deliverScan s) = settings s := by simp [deliverScan]
@[simp] theorem expirePrecharge_settings (s : State) :
    settings (expirePrecharge s) = settings s := by
  unfold expirePrecharge
  repeat' split
  all_goals simp
@[simp] theorem expireCharge_settings (s : State) :
    settings (expireCharge s) = settings s := by
  unfold expireCharge
  repeat' split
  all_goals simp
@[simp] theorem expireBalance_settings (s : State) :
    settings (expireBalance s) = settings s := by
  unfold expireBalance
  repeat' split
  all_goals simp
@[simp] theorem toHunt_settings (s : State) :
    settings (toHunt s) = settings s := settings_of_frame (by simp [ParamsKept])
@[simp] theorem discardFrame_settings (reason : DiscardReason) (s : State) :
    settings (discardFrame reason s) = settings s := by simp [discardFrame]

end Sys2Proof.Proofs

namespace Sys2Proof.Proofs

open Sys2Proof.Machine Sys2Proof.Safety

/-- A part of a step that keeps the parameters in range. -/
def KeepsRange (s t : State) : Prop := ParamsInRange s → ParamsInRange t

theorem KeepsRange.of_settings {s t : State} (h : settings t = settings s) : KeepsRange s t :=
  paramsInRange_of_settings h

theorem KeepsRange.of_reset {s t : State} (h : settings t = settings State.reset) : KeepsRange s t :=
  fun _ => paramsInRange_of_settings h paramsInRange_reset

theorem KeepsRange.trans {s t u : State} (h : KeepsRange s t) (k : KeepsRange t u) : KeepsRange s u := k ∘ h

/-- The settings of either branch. -/
@[simp] theorem settings_ite (c : Prop) {_ : Decidable c} (s t : State) :
    settings (if c then s else t) = if c then settings s else settings t := apply_ite _ _ _ _

/-! ### A scan's end and the resets -/

@[simp] theorem ovEvents_settings (l : List Nat) (s : State) :
    settings (l.foldl (fun s i => ovEvent i s) s) = settings s := by
  induction l generalizing s with
  | nil => rfl
  | cons _ l ih => simp [ih]

@[simp] theorem judgeDeepUv_settings (s : State) : settings (judgeDeepUv s).1 = settings s :=
  settings_of_frame (by simp [ParamsKept])

@[simp] theorem protectCells_settings (before : Pkm) (s : State) : settings (protectCells before s).1 = settings s := by
  unfold protectCells
  dsimp only
  split <;> simp

/-- The values of every reset but HOST_RESET leave the parameters at their defaults (R187). -/
theorem resetValues_settings (cause : ResetCause) (s : State) :
    settings (resetValues cause s) = settings State.reset := rfl

@[simp] theorem powerReset_settings (cause : ResetCause) (s : State) :
    settings (powerReset cause s) = settings State.reset := by
  rw [powerReset, startAtOnce_settings, resetValues_settings]

@[simp] theorem shipEntry_settings (s : State) : settings (shipEntry s) = settings State.reset := by
  unfold shipEntry
  dsimp only
  split
  · simp
  · rw [settings_setSlc, resetValues_settings]

@[simp] theorem resetRequest_settings (tag : Byte) (s : State) :
    settings (resetRequest tag s) = settings State.reset := by
  rw [resetRequest, settings_setMpt, hostReset, startAtOnce_settings]
  rfl

theorem makeEntry_keepsRange (s : State) : KeepsRange s (makeEntry s) := by
  unfold makeEntry
  split
  · exact .of_settings (by simp)
  · exact .of_settings (by simp)
  · exact .of_reset (by simp)

theorem watchScanEnd_keepsRange (r : ScanReading) (s : State) : KeepsRange s (watchScanEnd r s) := by
  unfold watchScanEnd
  dsimp only
  split
  · exact .of_reset (by simp)
  · exact .of_settings (by simp)

theorem onScanEnd_keepsRange (sc : Scan) (r : ScanReading) (s : State) : KeepsRange s (onScanEnd sc r s) := by
  unfold onScanEnd
  dsimp only
  split
  · exact .of_reset (by simp)
  · exact .of_settings (by simp)

/-- A scan's end is the end of one of the two kinds, taken in a state with the same parameters. -/
theorem scanEnd_kinds (r : ScanReading) (s : State) : ∃ sc t, settings t = settings s ∧
    scanEnd r s = demandRefresh (if sc.watch then watchScanEnd r t else onScanEnd sc r t) := by
  refine ⟨_, _, ?_, rfl⟩
  rw [settings_setPkm]
  split <;> simp

theorem scanEnd_keepsRange (r : ScanReading) (s : State) : KeepsRange s (scanEnd r s) := by
  obtain ⟨sc, t, same, ended⟩ := scanEnd_kinds r s
  rw [ended]
  refine (KeepsRange.of_settings same).trans (.trans ?_ (.of_settings (demandRefresh_settings _)))
  split
  · exact watchScanEnd_keepsRange r t
  · exact onScanEnd_keepsRange sc r t

/-! ### The motor's events and the trigger -/

@[simp] theorem coastCrossing_settings (sector t : Nat) (s : State) :
    settings (coastCrossing sector t s) = settings s := by
  unfold coastCrossing
  dsimp only
  repeat' split
  all_goals simp
@[simp] theorem catchCrossing_settings (sector t : Nat) (s : State) :
    settings (catchCrossing sector t s) = settings s := by
  unfold catchCrossing
  repeat' split
  all_goals simp
@[simp] theorem rampCrossing_settings (t d : Nat) (s : State) :
    settings (rampCrossing t d s) = settings s := by
  unfold rampCrossing
  dsimp only
  repeat' split
  all_goals simp
@[simp] theorem handoverCrossing_settings (t d : Nat) (s : State) :
    settings (handoverCrossing t d s) = settings s := by
  unfold handoverCrossing
  dsimp only
  repeat' split
  all_goals simp
@[simp] theorem crossing_settings (phase : Phase) (rising : Bool) (t d : Nat) (s : State) :
    settings (crossing phase rising t d s) = settings s := by
  unfold crossing
  repeat' split
  all_goals simp
@[simp] theorem precheckEnd_settings (s : State) :
    settings (precheckEnd s) = settings s := by
  unfold precheckEnd
  repeat' split
  all_goals simp
@[simp] theorem rampAccelerated_settings (s : State) :
    settings (rampAccelerated s) = settings s := by
  unfold rampAccelerated
  dsimp only
  repeat' split
  all_goals simp
@[simp] theorem scheduledCommutation_settings (im : Int) (s : State) :
    settings (scheduledCommutation im s) = settings s := by
  unfold scheduledCommutation
  repeat' split
  all_goals simp
@[simp] theorem missedCrossing_settings (im : Int) (s : State) :
    settings (missedCrossing im s) = settings s := by
  unfold missedCrossing
  dsimp only
  repeat' split
  all_goals simp
@[simp] theorem windowClosed_settings (im : Int) (s : State) :
    settings (windowClosed im s) = settings s := by
  unfold windowClosed
  repeat' split
  all_goals simp
@[simp] theorem rotorStopped_settings (s : State) :
    settings (rotorStopped s) = settings s := by
  unfold rotorStopped
  dsimp only
  repeat' split
  all_goals simp
@[simp] theorem overcurrent_settings (s : State) :
    settings (overcurrent s) = settings s := by
  unfold overcurrent
  repeat' split
  all_goals simp

@[simp] theorem raiseTriggerNotice_settings (edge : Level) (inhibited : Bool) (cause : Option Inhibit) (s : State) :
    settings (raiseTriggerNotice edge inhibited cause s) = settings s := by simp [raiseTriggerNotice]
@[simp] theorem triggerPress_settings (s : State) : settings (triggerPress s) = settings s := by
  unfold triggerPress
  split
  · rw [raiseTriggerNotice_settings]; rfl
  · simp

@[simp] theorem lenientClear_settings (s : State) : settings (lenientClear s) = settings s := by simp [lenientClear]

@[simp] theorem triggerRelease_settings (s : State) : settings (triggerRelease s) = settings s := by
  rw [triggerRelease, lenientClear_settings, raiseTriggerNotice_settings]
  rfl

@[simp] theorem triggerEdge_settings (level : Level) (s : State) :
    settings (triggerEdge level s) = settings s := by
  unfold triggerEdge
  dsimp only
  repeat' split
  all_goals simp
@[simp] theorem debounced_settings (s : State) :
    settings (debounced s) = settings s := by
  unfold debounced
  repeat' split
  all_goals simp

/-! ### A dirt window's end -/

@[simp] theorem judgeKill_settings (s : State) : settings (judgeKill s) = settings s := by
  unfold judgeKill
  dsimp only
  repeat' split
  all_goals simp

@[simp] theorem killedEnd_settings (a : Nat) (s : State) : settings (killedEnd a s) = settings s := by
  unfold killedEnd
  repeat' split
  all_goals simp

@[simp] theorem opticalEnd_settings (amplitude : Nat) (s : State) : settings (opticalEnd amplitude s).1 = settings s := by
  unfold opticalEnd
  dsimp only
  split <;> simp

@[simp] theorem dirtWindowEnd_settings (w : DirtWindow) (amplitude level : Nat) (signal : List Nat) (s : State) :
    settings (dirtWindowEnd w amplitude level signal s) = settings s := by
  simp [dirtWindowEnd, windowSteps]

/-! ### Requests -/

@[simp] theorem answered_state (status : StatusCode) (body : ReplyBody) (s : State) :
    (answered status body s).state = s := rfl
@[simp] theorem refuse_state (status : StatusCode) (s : State) : (refuse status s).state = s := rfl
@[simp] theorem chargeAnswered_state (s : State) : (chargeAnswered s).state = s := rfl
@[simp] theorem settings_served_ite (c : Prop) {_ : Decidable c} (a b : Served) :
    settings (if c then a else b).state = if c then settings a.state else settings b.state := by split <;> rfl

@[simp] theorem serveStatus_settings (s : State) : settings (serveStatus s).state = settings s := rfl
@[simp] theorem serveGetParam_settings (id : Byte) (s : State) : settings (serveGetParam id s).state = settings s := by
  unfold serveGetParam; split <;> simp
@[simp] theorem serveNoticeMask_settings (enables : BitVec 16) (s : State) :
    settings (serveNoticeMask enables s).state = settings s := by
  simp [serveNoticeMask, clearPendingReach]
@[simp] theorem serveSleep_settings (s : State) : settings (serveSleep s).state = settings s := by simp [serveSleep]
@[simp] theorem serveShip_settings (s : State) : settings (serveShip s).state = settings s := by simp [serveShip]
@[simp] theorem serveCellResetMinmax_settings (s : State) : settings (serveCellResetMinmax s).state = settings s := rfl
@[simp] theorem serveGaugeAdjust_settings (delta : BitVec 16) (s : State) :
    settings (serveGaugeAdjust delta s).state = settings s := by simp [serveGaugeAdjust]
@[simp] theorem serveChargeEnable_settings (s : State) : settings (serveChargeEnable s).state = settings s := by
  simp only [serveChargeEnable, chargeAnswered_state, settings_ite]
  simp
@[simp] theorem serveChargeDisable_settings (s : State) : settings (serveChargeDisable s).state = settings s := by
  simp only [serveChargeDisable, chargeAnswered_state, settings_ite]
  simp
@[simp] theorem serveChargePause_settings (s : State) : settings (serveChargePause s).state = settings s := by
  unfold serveChargePause
  split
  · rfl
  · rw [chargeAnswered_state]
    repeat' split
    all_goals simp
@[simp] theorem serveChargeResume_settings (s : State) : settings (serveChargeResume s).state = settings s := by
  simp only [serveChargeResume, chargeAnswered_state, settings_served_ite, settings_ite]
  simp
@[simp] theorem serveChargeClear_settings (s : State) : settings (serveChargeClear s).state = settings s := by
  simp [serveChargeClear]
@[simp] theorem serveChargeControl_settings (action : Byte) (s : State) :
    settings (serveChargeControl action s).state = settings s := by
  unfold serveChargeControl; split <;> simp
@[simp] theorem serveCounterSetup_settings (k source : Byte) (threshold : BitVec 32) (options start : Byte) (s : State) :
    settings (serveCounterSetup k source threshold options start s).state = settings s := by
  unfold serveCounterSetup
  dsimp only
  repeat' split
  all_goals simp
@[simp] theorem serveCounterAdjust_settings (k : Byte) (delta : BitVec 32) (s : State) :
    settings (serveCounterAdjust k delta s).state = settings s := by simp [serveCounterAdjust]
@[simp] theorem serveRunStart_settings (s : State) : settings (serveRunStart s).state = settings s := by
  unfold serveRunStart; split <;> simp
@[simp] theorem serveRunStop_settings (s : State) : settings (serveRunStop s).state = settings s := by simp [serveRunStop]
@[simp] theorem serveStepSelect_settings (step : Byte) (s : State) : settings (serveStepSelect step s).state = settings s := by
  unfold serveStepSelect; split <;> simp
@[simp] theorem serveEditBegin_settings (label : Byte) (s : State) : settings (serveEditBegin label s).state = settings s := by
  unfold serveEditBegin; split <;> simp
@[simp] theorem serveEditSet_settings (field : Byte) (value : BitVec 32) (s : State) :
    settings (serveEditSet field value s).state = settings s := by
  unfold serveEditSet
  repeat' split
  all_goals simp
@[simp] theorem serveEditCommit_settings (s : State) : settings (serveEditCommit s).state = settings s := by
  unfold serveEditCommit
  repeat' split
  all_goals simp
@[simp] theorem serveEditAbort_settings (s : State) : settings (serveEditAbort s).state = settings s := by
  unfold serveEditAbort; split <;> simp
@[simp] theorem serveTripClear_settings (s : State) : settings (serveTripClear s).state = settings s := by
  simp [serveTripClear]
@[simp] theorem serveFaultRead_settings (clearCounts : Byte) (s : State) :
    settings (serveFaultRead clearCounts s).state = settings s := by simp [serveFaultRead]
@[simp] theorem serveBandMode_settings (mode : Byte) (s : State) : settings (serveBandMode mode s).state = settings s := by
  unfold serveBandMode; split <;> simp
@[simp] theorem serveBandClear_settings (s : State) : settings (serveBandClear s).state = settings s := by
  simp [serveBandClear]
@[simp] theorem serveBandRead_settings (index : Byte) (s : State) : settings (serveBandRead index s).state = settings s := by
  simp [serveBandRead]
@[simp] theorem serveBandWrite_settings (index advance : Byte) (loadRef : BitVec 16) (flags : Byte) (s : State) :
    settings (serveBandWrite index advance loadRef flags s).state = settings s := by simp [serveBandWrite]

end Sys2Proof.Proofs

namespace Sys2Proof.Proofs

open Sys2Proof.Machine Sys2Proof.Safety

/-! ### A write moves one parameter (R181) -/

@[simp] theorem get_refreshDerate (p : Param) (s : State) : p.get (refreshDerate s) = p.get s :=
  get_of_settings (refreshDerate_settings s) p
@[simp] theorem get_evaluate (p : Param) (s : State) : p.get (evaluate s) = p.get s :=
  get_of_settings (evaluate_settings s) p
@[simp] theorem get_writeBlockTime (p : Param) (v : Nat) (s : State) :
    p.get (writeBlockTime v s) = p.get (s.setBlockPar { s.blockPar with blockTime := v }) :=
  get_of_settings (expireBlock_settings _) p
@[simp] theorem get_writeRetryTime (p : Param) (v : Nat) (s : State) :
    p.get (writeRetryTime v s) = p.get (s.setBlockPar { s.blockPar with retryTime := v }) :=
  get_of_settings (expireRetry_settings _) p
@[simp] theorem get_writeChargeCurrent (p : Param) (v : Nat) (s : State) :
    p.get (writeChargeCurrent v s) = p.get (s.setChargePar { s.chargePar with current := v }) :=
  get_of_settings (capSetpoint_settings _) p
@[simp] theorem get_writePrechargeTimeout (p : Param) (v : Nat) (s : State) :
    p.get (writePrechargeTimeout v s) = p.get (s.setChargePar { s.chargePar with prechargeTimeout := v }) :=
  get_of_settings (expirePrecharge_settings _) p
@[simp] theorem get_writeChargeTimeout (p : Param) (v : Nat) (s : State) :
    p.get (writeChargeTimeout v s) = p.get (s.setChargePar { s.chargePar with chargeTimeout := v }) :=
  get_of_settings (expireCharge_settings _) p
@[simp] theorem get_writeBalanceTimeout (p : Param) (v : Nat) (s : State) :
    p.get (writeBalanceTimeout v s) = p.get (s.setChargePar { s.chargePar with balanceTimeout := v }) :=
  get_of_settings (expireBalance_settings _) p

@[simp] theorem get_writeCarrier (p : Param) (v : Nat) (s : State) :
    p.get (writeCarrier v s) = p.get (s.setDirtPar { s.dirtPar with carrier := v }) := by
  refine get_of_settings ?_ p
  unfold writeCarrier
  split
  · next h => rw [h]; rfl
  · dsimp only; split <;> rfl

@[simp] theorem get_writeEmitter (p : Param) (v : Nat) (s : State) :
    p.get (writeEmitter v s) = p.get (s.setDirtPar { s.dirtPar with emitter := v }) := by
  refine get_of_settings ?_ p
  unfold writeEmitter
  dsimp only
  repeat' split
  all_goals rfl

@[simp] theorem get_writeOpticalMode (p : Param) (m : OpticalMode) (s : State) :
    p.get (writeOpticalMode m s) = p.get (s.setDirtPar { s.dirtPar with mode := m }) := by
  refine get_of_settings ?_ p
  unfold writeOpticalMode
  split
  · next h => rw [h]; rfl
  · dsimp only
    repeat' split
    all_goals simp

@[simp] theorem get_writeCapacity (p : Param) (f : Nat) (s : State) :
    p.get (writeCapacity f s) = p.get (s.setGge { s.gge with f := f }) := by
  refine get_of_settings ?_ p
  unfold writeCapacity
  split
  · next h => rw [h]; rfl
  · rfl

@[simp] theorem get_writeTriggerMode (p : Param) (m : TriggerMode) (s : State) :
    p.get (writeTriggerMode m s) = p.get (s.setTrg { s.trg with mode := m }) := by
  refine get_of_settings ?_ p
  unfold writeTriggerMode
  split
  · next h => rw [h]; rfl
  · dsimp only
    rw [demandRefresh_settings]
    rfl

/-- A write leaves every other parameter alone (R181). -/
theorem get_write_of_ne {p q : Param} (h : q ≠ p) (v : Int) (s : State) : q.get (p.write v s) = q.get s := by
  suffices q = p ∨ q.get (p.write v s) = q.get s from this.resolve_left h
  cases p
  all_goals
    simp only [Param.write, get_refreshDerate, get_evaluate, get_writeBlockTime, get_writeRetryTime,
      get_writeChargeCurrent, get_writePrechargeTimeout, get_writeChargeTimeout, get_writeBalanceTimeout,
      get_writeCarrier, get_writeEmitter, get_writeOpticalMode, get_writeCapacity, get_writeTriggerMode]
    cases q
    any_goals exact .inr rfl
    exact .inl rfl

/-- The values of an enumeration that are codes: each reads back as it was written. -/
theorem get_write_code {p : Param} {codes : List Int} (h : p.codes = some codes) {v : Int} (mem : v ∈ codes)
    (s : State) : p.get (p.write v s) = v := by
  cases p <;> cases h <;> simp only [List.mem_cons, List.not_mem_nil, or_false] at mem
  case emitterCarrier | opticalMode | triggerMode => obtain rfl | rfl | rfl := mem <;> simp [Param.write] <;> rfl
  all_goals obtain rfl | rfl := mem <;> rfl

/-- A value written reads back (R181). -/
theorem get_write_self {p : Param} {v : Int} (s : State) (range : p.range.1 ≤ v ∧ v ≤ p.range.2)
    (codes : ∀ cs, p.codes = some cs → v ∈ cs) : p.get (p.write v s) = v := by
  obtain ⟨least, greatest⟩ := range
  cases enum : p.codes with
  | some cs => exact get_write_code enum (codes cs enum) s
  | none =>
    cases p
    case invDerateStart | invCut => simp [Param.write]; rfl
    case packDerateStart | packCut | chargeTLow | chargeTHigh => rfl
    case emitterCarrier | opticalMode | acousticEnable | strict | triggerMode | syncLossResponse |
        blockagePersistResponse | sensorBlockedResponse | linkErrResponse => nomatch enum
    all_goals
      have nonneg : ((v.toNat : Nat) : Int) = v := Int.toNat_of_nonneg (Int.le_trans (by decide) least)
      rw [← nonneg]
      simp only [Param.write, get_evaluate, get_writeBlockTime, get_writeRetryTime, get_writeChargeCurrent,
        get_writePrechargeTimeout, get_writeChargeTimeout, get_writeBalanceTimeout, get_writeEmitter, get_writeCapacity]
      rfl

end Sys2Proof.Proofs

namespace Sys2Proof.Proofs

open Sys2Proof.Machine Sys2Proof.Safety

/-! ### SET_PARAM keeps the ranges and the dependencies (R181) -/

/-- A value in its range, within its dependencies and, for an enumeration, one of its codes, may be written. -/
theorem write_keepsRange {p : Param} {v : Int} {s : State} (range : p.range.1 ≤ v ∧ v ≤ p.range.2)
    (codes : ∀ cs, p.codes = some cs → v ∈ cs) (low : ∀ l, p.depLow s = some l → l ≤ v)
    (high : ∀ u, p.depHigh s = some u → v ≤ u) : KeepsRange s (p.write v s) := by
  intro h
  have self := get_write_self s range codes
  rw [paramsInRange_iff] at h ⊢
  obtain ⟨ranges, deps⟩ := h
  refine ⟨fun q => ?_, fun x mem => ?_⟩
  · by_cases same : q = p
    · rwa [same, self]
    · rw [get_write_of_ne same]
      exact ranges q
  · have apart : x.1 ≠ x.2.2 := (by decide : ∀ y ∈ dependencies, y.1 ≠ y.2.2) x mem
    by_cases below : x.1 = p
    · have bound := high (x.2.2.get s - x.2.1) (by rw [depHigh_eq, ← below, find_dependency_below x mem]; rfl)
      rw [get_write_of_ne fun above => apart (below.trans above.symm), below, self]
      omega
    · rw [get_write_of_ne below]
      by_cases above : x.2.2 = p
      · rw [above, self]
        exact low _ (by rw [depLow_eq, ← above, find_dependency x mem]; rfl)
      · rw [get_write_of_ne above]
        exact deps x mem

/-- What is done before and after a step that keeps the ranges may leave the parameters alone. -/
theorem KeepsRange.around {s t u v : State} (before : settings t = settings s) (h : KeepsRange t u)
    (after : settings v = settings u) : KeepsRange s v :=
  ((KeepsRange.of_settings before).trans h).trans (.of_settings after)

/-- A block that serves a request and leaves the parameters in their ranges. -/
def ServesInRange (serve : State → Served) : Prop := ∀ s, KeepsRange s (serve s).state

theorem servesInRange_of_settings {serve : State → Served} (h : ∀ s, settings (serve s).state = settings s) :
    ServesInRange serve := fun s => .of_settings (h s)

theorem serveSetKnown_inRange (id : Byte) (p : Param) (value : BitVec 32) : ServesInRange (serveSetKnown id p value) := by
  intro s h
  unfold serveSetKnown
  split
  · exact h
  · split
    · next cs enum =>
      obtain ⟨range, low, high⟩ := codes_inRange enum s
      split
      · next mem =>
        refine write_keepsRange (range _ mem) (fun cs' k => ?_) (by simp [low]) (by simp [high]) h
        rw [enum] at k
        exact Option.some.inj k ▸ mem
      · exact h
    · next number =>
      obtain ⟨least, greatest, low, high⟩ := taken_inRange h p value.toInt
      exact write_keepsRange ⟨least, greatest⟩ (by simp [number]) low high h

theorem serveSetParam_inRange (id : Byte) (value : BitVec 32) : ServesInRange (serveSetParam id value) := by
  intro s
  unfold serveSetParam
  split
  · exact serveSetKnown_inRange id _ value s
  · exact .of_settings rfl

/-! ### Requests and frames -/

theorem whilePowered_keepsRange {f : State → State} (h : ∀ s, KeepsRange s (f s)) (s : State) :
    KeepsRange s (whilePowered f s) := by
  unfold whilePowered
  split
  · exact .of_settings rfl
  · exact (h s).trans (.of_settings (by simp))

theorem judgeRequest_keepsRange (kind tag : Byte) {serve : State → Served} (h : ServesInRange serve) (s : State) :
    KeepsRange s (judgeRequest kind tag serve s) := by
  have served (m : Mpt) (r : Reply) : KeepsRange s (queueReply r (serve (s.setMpt m)).state) :=
    KeepsRange.around (settings_setMpt ..) (h _) (queueReply_settings ..)
  unfold judgeRequest takeRequest
  dsimp only
  split
  · exact .of_settings (by simp)
  · split
    · exact .of_settings (by simp)
    · split
      · exact (served _ _).trans (.of_settings (enterSleep_settings _))
      · exact served _ _

theorem onHostFrame_keepsRange {f : State → State} (h : ∀ s, KeepsRange s (f s)) (s : State) :
    KeepsRange s (onHostFrame f s) :=
  whilePowered_keepsRange (fun t => KeepsRange.around (t := beginTransmission (wakeIfAsleep .link t)) (by simp) (h _) (by simp)) s

theorem onRequest_keepsRange (kind tag : Byte) {serve : State → Served} (h : ServesInRange serve) (s : State) :
    KeepsRange s (onRequest kind tag serve s) :=
  onHostFrame_keepsRange (fun t => (KeepsRange.of_settings (t := toHunt t) (by simp [toHunt])).trans (judgeRequest_keepsRange kind tag h _)) s

/-- Every request of the catalogue but SET_PARAM leaves the parameters alone (12.6). -/
theorem requestServed_inRange {kind : Nat} {payload : List Byte} (known : knownKind kind = true)
    {serve : State → Served} (h : requestServed kind payload = some serve) : ServesInRange serve := by
  have bound : kind ≤ 0x32 := by simp [knownKind] at known; omega
  interval_cases kind
  all_goals
    rcases payload with
      _ | ⟨a, _ | ⟨b, _ | ⟨c, _ | ⟨d, _ | ⟨e, _ | ⟨f, _ | ⟨g, _ | ⟨i, _ | l⟩⟩⟩⟩⟩⟩⟩⟩
  all_goals cases h
  · exact servesInRange_of_settings fun _ => rfl
  · exact servesInRange_of_settings serveStatus_settings
  · exact servesInRange_of_settings (serveGetParam_settings _)
  · exact serveSetParam_inRange _ _
  any_goals exact servesInRange_of_settings fun _ => rfl
  all_goals exact servesInRange_of_settings fun _ => by simp

theorem serveFrame_inRange (kind : Byte) (payload : List Byte) : ServesInRange (serveFrame kind payload) := by
  intro s
  unfold serveFrame
  repeat' split
  · next known _ _ served => exact requestServed_inRange known served s
  · exact .of_settings rfl
  · exact .of_settings rfl

theorem resetRequest_keepsRange (tag : Byte) (s : State) : KeepsRange s (resetRequest tag s) :=
  .of_reset (by simp)

theorem powerReset_keepsRange (cause : ResetCause) (s : State) : KeepsRange s (powerReset cause s) :=
  .of_reset (by simp)

theorem dispatchFrame_keepsRange (kind tag : Byte) (payload : List Byte) (s : State) :
    KeepsRange s (dispatchFrame kind tag payload s) := by
  unfold dispatchFrame
  split
  · exact resetRequest_keepsRange tag s
  · exact judgeRequest_keepsRange kind tag (serveFrame_inRange kind payload) s

theorem completeFrame_keepsRange (bytes : List Byte) (s : State) : KeepsRange s (completeFrame bytes s) := by
  unfold completeFrame
  dsimp only
  repeat' split
  · exact (KeepsRange.of_settings (settings_setMpt ..)).trans (dispatchFrame_keepsRange _ _ _ _)
  · exact .of_settings (by simp)
  · exact .of_settings rfl

theorem frameByte_keepsRange (bytes : List Byte) (s : State) : KeepsRange s (frameByte bytes s) := by
  unfold frameByte
  split
  · exact .of_settings (by simp only [settings_ite, settings_setMpt, discardFrame_settings, ite_self])
  · exact .of_settings (by simp only [settings_ite, settings_setMpt, discardFrame_settings, ite_self])
  · exact .of_settings (settings_setMpt ..)
  · split
    · exact completeFrame_keepsRange _ s
    · exact .of_settings (settings_setMpt ..)
  · exact .of_settings rfl

theorem receiveByte_keepsRange (byte : Byte) (stopBit : Bool) (s : State) : KeepsRange s (receiveByte byte stopBit s) := by
  unfold receiveByte
  repeat' split
  · exact .of_settings (settings_setMpt ..)
  · exact .of_settings rfl
  · exact frameByte_keepsRange _ s
  · exact .of_settings (discardFrame_settings ..)

theorem linkActivity_settings (before after : State) : settings (linkActivity before after) = settings after := by
  unfold linkActivity
  split <;> simp

theorem replyEnded_keepsRange (r : Reply) (s : State) : KeepsRange s (replyEnded r s) := by
  unfold replyEnded
  dsimp only
  split
  · exact .of_settings (by simp)
  · exact (KeepsRange.of_settings ((settings_setMpt ..).trans (settings_setMpt ..))).trans (makeEntry_keepsRange _)

end Sys2Proof.Proofs

namespace Sys2Proof.Proofs

open Sys2Proof.Machine Sys2Proof.Safety

/-! ### A step (R181) -/

/-- An event that acts where its moment has come, and is void otherwise. -/
theorem settings_when {s t : State} (c : Prop) {_ : Decidable c} (h : settings t = settings s) :
    settings (if c then t else s) = settings s := by
  split
  · exact h
  · rfl

/-- An event of a part that is not in SHIP. -/
theorem event_keepsRange {f : State → State} (h : ∀ s, KeepsRange s (f s)) (s : State) :
    Yields (.next (whilePowered f s)) (KeepsRange s) := ⟨_, rfl, whilePowered_keepsRange h s⟩

/-- An event that leaves the parameters alone. -/
theorem event_settings {f : State → State} (h : ∀ s, settings (f s) = settings s) (s : State) :
    Yields (.next (whilePowered f s)) (KeepsRange s) := event_keepsRange (fun t => .of_settings (h t)) s

theorem request_keepsRange (kind tag : Byte) {serve : State → Served} (h : ServesInRange serve) (s : State) :
    Yields (.next (onRequest kind tag serve s)) (KeepsRange s) := ⟨_, rfl, onRequest_keepsRange kind tag h s⟩

/-- A request whose block leaves the parameters alone. -/
theorem request_settings (kind tag : Byte) {serve : State → Served} (h : ∀ s, settings (serve s).state = settings s)
    (s : State) : Yields (.next (onRequest kind tag serve s)) (KeepsRange s) :=
  request_keepsRange kind tag (servesInRange_of_settings h) s

/-- A SET_PARAM of one parameter. -/
theorem setKnown_keepsRange (tag id : Byte) (p : Param) (value : BitVec 32) (s : State) :
    Yields (.next (onRequest 0x04#8 tag (serveSetKnown id p value) s)) (KeepsRange s) :=
  request_keepsRange _ tag (serveSetKnown_inRange id p value) s

theorem execHostFrameReceived_keepsRange (kind tag : Byte) (payload : List Byte) (s : State) :
    Yields (execHostFrameReceived kind tag payload s) (KeepsRange s) := by
  refine ⟨_, rfl, ?_⟩
  repeat' split
  · exact .of_settings rfl
  · exact whilePowered_keepsRange (resetRequest_keepsRange tag) s
  · exact onHostFrame_keepsRange (fun t => .of_settings (discardFrame_settings _ t)) s
  · exact onHostFrame_keepsRange (fun t => .of_settings (discardFrame_settings _ t)) s
  · exact onRequest_keepsRange kind tag (serveFrame_inRange kind payload) s

theorem execTransmitEnd_keepsRange (s : State) : Yields (execTransmitEnd s) (KeepsRange s) := by
  refine event_keepsRange (fun t => ?_) s
  split
  · exact replyEnded_keepsRange _ t
  · exact .of_settings (settings_setMpt ..)
  · exact .of_settings rfl

theorem execDirtWindowEnd_keepsRange (amplitude level : Nat) (signal : List Nat) (s : State) :
    Yields (execDirtWindowEnd amplitude level signal s) (KeepsRange s) := by
  refine event_settings (fun t => ?_) s
  split
  · exact settings_when _ (by simp)
  · rfl

theorem execDockContactRise_keepsRange (s : State) : Yields (execDockContactRise s) (KeepsRange s) := by
  refine ⟨_, rfl, ?_⟩
  split
  · exact .of_reset (by simp)
  · exact whilePowered_keepsRange (fun t => .of_settings (contactRisen_settings t)) s

theorem execDockLoss_keepsRange (s : State) : Yields (execDockLoss s) (KeepsRange s) := by
  refine event_settings (fun t => ?_) s
  simp only [settings_ite, settings_setDlk, dockLoss_settings, ite_self]

theorem execContactVoltageFall_keepsRange (s : State) : Yields (execContactVoltageFall s) (KeepsRange s) :=
  ⟨_, rfl, (KeepsRange.of_settings (settings_setDlk ..)).trans (whilePowered_keepsRange (fun _ => .of_settings rfl) _)⟩

theorem execTriggerRawChange_keepsRange (l : Level) (s : State) :
    Yields (execTriggerRawChange l s) (KeepsRange s) := by
  refine ⟨_, rfl, ?_⟩
  split
  · exact whilePowered_keepsRange (fun _ => .of_settings rfl) s
  · have raw : settings (s.setTrg { s.trg with raw := l, timer := 0 }) = settings s := rfl
    exact (KeepsRange.of_settings raw).trans (whilePowered_keepsRange (fun _ => .of_settings rfl) _)

theorem execSeventhCellMeasured_keepsRange (s : State) : Yields (execSeventhCellMeasured s) (KeepsRange s) := by
  refine event_settings (fun t => ?_) s
  split
  · simp [settings_ite]
  · rfl

theorem execShipWake_keepsRange (s : State) : Yields (execShipWake s) (KeepsRange s) := by
  refine ⟨_, rfl, ?_⟩
  split
  · exact .of_reset (by simp)
  · exact .of_settings rfl

theorem execBrownout_keepsRange (s : State) : Yields (execBrownout s) (KeepsRange s) := by
  refine ⟨_, rfl, ?_⟩
  split
  · exact .of_settings rfl
  · exact .of_reset (by simp)

theorem execLinkWake_keepsRange (byte : Byte) (stopBit : Bool) (s : State) :
    Yields (execLinkWake byte stopBit s) (KeepsRange s) :=
  event_keepsRange (fun t => KeepsRange.around (t := beginTransmission (wakeIfAsleep .link t)) (by simp)
    (receiveByte_keepsRange byte stopBit _) (linkActivity_settings ..)) s

/-- Every command keeps the parameters in their ranges and within their dependencies. -/
theorem exec_keepsRange (c : Instr) (s : State) : Yields (exec c s) (KeepsRange s) := by
  cases c with
  | identify tag => exact request_settings _ tag (fun _ => rfl) s
  | status tag => exact request_settings _ tag serveStatus_settings s
  | getParam tag id => exact request_settings _ tag (serveGetParam_settings id) s
  | setParam tag id value => exact request_keepsRange _ tag (serveSetParam_inRange id value) s
  | setTriggerMode tag value => exact setKnown_keepsRange tag _ _ value s
  | setOpticalMode tag value => exact setKnown_keepsRange tag _ _ value s
  | setEmitterCurrent tag value => exact setKnown_keepsRange tag _ _ value s
  | setEmitterCarrier tag value => exact setKnown_keepsRange tag _ _ value s
  | setFullCapacity tag value => exact setKnown_keepsRange tag _ _ value s
  | setIdleSleepS tag value => exact setKnown_keepsRange tag _ _ value s
  | setReserve tag value => exact setKnown_keepsRange tag _ _ value s
  | noticeMask tag enables => exact request_settings _ tag (serveNoticeMask_settings enables) s
  | reset tag => exact event_keepsRange (resetRequest_keepsRange tag) s
  | sleep tag => exact request_settings _ tag serveSleep_settings s
  | ship tag => exact request_settings _ tag serveShip_settings s
  | runStart tag => exact request_settings _ tag serveRunStart_settings s
  | runStop tag => exact request_settings _ tag serveRunStop_settings s
  | stepSelect tag st => exact request_settings _ tag (serveStepSelect_settings st) s
  | editBegin tag label => exact request_settings _ tag (serveEditBegin_settings label) s
  | editSet tag field value => exact request_settings _ tag (serveEditSet_settings field value) s
  | editCommit tag => exact request_settings _ tag serveEditCommit_settings s
  | editAbort tag => exact request_settings _ tag serveEditAbort_settings s
  | profileRead tag => exact request_settings _ tag (fun _ => rfl) s
  | tripClear tag => exact request_settings _ tag serveTripClear_settings s
  | faultRead tag clearCounts => exact request_settings _ tag (serveFaultRead_settings clearCounts) s
  | bandMode tag mode => exact request_settings _ tag (serveBandMode_settings mode) s
  | bandClear tag => exact request_settings _ tag serveBandClear_settings s
  | bandRead tag index => exact request_settings _ tag (serveBandRead_settings index) s
  | bandWrite tag index advance loadRef flags =>
    exact request_settings _ tag (serveBandWrite_settings index advance loadRef flags) s
  | dirtRead tag => exact request_settings _ tag (fun _ => rfl) s
  | cellRead tag => exact request_settings _ tag (fun _ => rfl) s
  | cellResetMinmax tag => exact request_settings _ tag serveCellResetMinmax_settings s
  | gaugeRead tag => exact request_settings _ tag (fun _ => rfl) s
  | gaugeAdjust tag delta => exact request_settings _ tag (serveGaugeAdjust_settings delta) s
  | chargeEnable tag => exact request_settings _ tag serveChargeEnable_settings s
  | chargeDisable tag => exact request_settings _ tag serveChargeDisable_settings s
  | chargePause tag => exact request_settings _ tag serveChargePause_settings s
  | chargeResume tag => exact request_settings _ tag serveChargeResume_settings s
  | chargeClear tag => exact request_settings _ tag serveChargeClear_settings s
  | chargeRead tag => exact request_settings _ tag (fun _ => rfl) s
  | dockRead tag => exact request_settings _ tag (fun _ => rfl) s
  | counterSetup tag k source threshold options start =>
    exact request_settings _ tag (serveCounterSetup_settings k source threshold options start) s
  | counterRead tag => exact request_settings _ tag (fun _ => rfl) s
  | counterAdjust tag k delta => exact request_settings _ tag (serveCounterAdjust_settings k delta) s
  | hostFrameReceived kind tag payload => exact execHostFrameReceived_keepsRange kind tag payload s
  | hostFrameDiscard reason =>
    exact ⟨_, rfl, onHostFrame_keepsRange (fun t => .of_settings (discardFrame_settings reason t)) s⟩
  | hostFrameGap => exact event_settings (fun t => by simp) s
  | linkWake byte stopBit => exact execLinkWake_keepsRange byte stopBit s
  | transmitEnd => exact execTransmitEnd_keepsRange s
  | triggerDebounce => exact event_settings (fun t => by simp) s
  | editTimeout => exact event_settings (fun t => settings_when _ (by simp)) s
  | precheckEnd => exact event_settings (fun t => by simp) s
  | alignEnd => exact event_settings (fun t => settings_when _ (by simp)) s
  | rampTick => exact event_settings (fun t => settings_when _ (by simp)) s
  | rampAccelTick => exact event_settings (fun t => settings_when _ (by simp)) s
  | rampTimeout => exact event_settings (fun t => settings_when _ (by simp)) s
  | restartWaitEnd => exact event_settings (fun t => settings_when _ (by simp)) s
  | bemfCrossing phase rising t d => exact event_settings (fun t => by simp) s
  | commutation im => exact event_settings (fun t => by simp) s
  | windowClose im => exact event_settings (fun t => by simp) s
  | catchLimitExpiry => exact event_settings (fun t => settings_when _ (by simp)) s
  | rotorStopTimeout => exact event_settings (fun t => by simp) s
  | coastTimeout => exact event_settings (fun t => settings_when _ (by simp)) s
  | ocHw => exact event_settings (fun t => by simp) s
  | bandClearComplete => exact event_settings (fun t => settings_when _ (by simp)) s
  | blockTimerExpiry => exact event_settings (fun t => by simp) s
  | retryTimerExpiry => exact event_settings (fun t => by simp) s
  | clearTimerExpiry => exact event_settings (fun t => settings_when _ (by simp)) s
  | noReferenceTimerExpiry => exact event_settings (fun t => settings_when _ (by simp)) s
  | normalTimerExpiry => exact event_settings (fun t => settings_when _ (by simp)) s
  | dirtWindowEnd amplitude level signal => exact execDirtWindowEnd_keepsRange amplitude level signal s
  | scanStart => exact event_settings (fun t => by simp) s
  | scanEnd reading => exact event_keepsRange (scanEnd_keepsRange reading) s
  | prechargeTimeout => exact event_settings (fun t => by simp) s
  | chargeTimeout => exact event_settings (fun t => by simp) s
  | balanceTimeout => exact event_settings (fun t => by simp) s
  | dockContactRise => exact execDockContactRise_keepsRange s
  | dockLoss => exact execDockLoss_keepsRange s
  | settleTimerExpiry => exact event_settings (fun t => settings_when _ (by simp)) s
  | dockFrameSent => exact event_settings (fun t => by simp) s
  | dockFrameReceived bytes => exact event_settings (fun t => settings_when _ (by simp)) s
  | dockFrameAbandon => exact event_settings (fun t => settings_when _ (by simp)) s
  | dockReplyTimeout => exact event_settings (fun t => by simp) s
  | keepTimerExpiry => exact event_settings (fun t => settings_when _ (by simp)) s
  | dockRetryExpiry => exact event_settings (fun t => settings_when _ (by simp)) s
  | idleTimerExpiry => exact event_settings (fun t => settings_when _ (by simp)) s
  | powerOn => exact ⟨_, rfl, powerReset_keepsRange .powerOn s⟩
  | brownout => exact execBrownout_keepsRange s
  | shipWake => exact execShipWake_keepsRange s
  | triggerRawChange l => exact execTriggerRawChange_keepsRange l s
  | contactVoltageFall => exact execContactVoltageFall_keepsRange s
  | dockReceptionBegin => exact event_settings (fun t => settings_when _ (by simp)) s
  | seventhCellMeasured => exact execSeventhCellMeasured_keepsRange s
  | catchCrossingTimeout => exact event_settings (fun t => settings_when _ (by simp)) s

theorem tick_keepsRange (s : State) : KeepsRange s (tick s) := by
  unfold tick
  split
  · exact .of_settings rfl
  · exact .of_settings (((settings_setPending ..).trans rfl).trans
      ((beginTransmission_settings _).trans (startAtOnce_settings s)))

/-- Every step keeps the parameters in their ranges and within their dependencies (log 2, 7). -/
theorem step_keepsRange (s : State) : Yields (step s) (KeepsRange s) := by
  unfold step
  split
  · exact ⟨_, rfl, tick_keepsRange s⟩
  · next c rest _ =>
    obtain ⟨t, answer, kept⟩ := exec_keepsRange c (s.setPending rest)
    exact ⟨t, answer, KeepsRange.trans (.of_settings (settings_setPending ..)) kept⟩

/-- Settles O59: what a step keeps of the parameters (R44, R95, R114, R141, R181). -/
theorem parametersKept : Obligations.ParametersKept := by
  intro s range
  obtain ⟨t, answer, kept⟩ := step_keepsRange s
  exact ⟨t, answer, kept range⟩

end Sys2Proof.Proofs

namespace Sys2Proof.Proofs

open Sys2Proof.Machine Sys2Proof.Safety

/-! ### A change between the states outside OFF, RUN and TRIPPED (R23) -/

/-- A notice and a write of the Pack Monitor may come in either order. -/
theorem raise_setPkm (n : Notice) (p : Pkm) (s : State) : raise n (s.setPkm p) = (raise n s).setPkm p := by
  by_cases enabled : noticeEnabled s.mpt.enables n.index = true
  · rw [raise_enabled enabled, raise_enabled (s := s.setPkm p) enabled]
    rfl
  · rw [raise_masked enabled, raise_masked (s := s.setPkm p) enabled]
    split <;> rfl

/-- A notice and a write of the power block but the uptime may come in either order. -/
theorem raise_setSlc {v : Slc} {s : State} (h : v.uptime = s.slc.uptime) (n : Notice) :
    raise n (s.setSlc v) = (raise n s).setSlc v := by
  have now : (s.setSlc v).now = s.now := h
  by_cases enabled : noticeEnabled s.mpt.enables n.index = true
  · rw [raise_enabled enabled, raise_enabled (s := s.setSlc v) enabled, now]
    rfl
  · rw [raise_masked enabled, raise_masked (s := s.setSlc v) enabled]
    split <;> rfl

/-- The MOTOR_STATE notice of a change (R23). -/
def motorNotice (new : MotorState) (cause : MotorCause) (m : Mdr) : Notice :=
  .motorState { new := new, old := m.state, cause := cause, speed := m.speed, attempts := m.attempts }

/-- The states between which a change delivers nothing but the interval and the idle timer. -/
def betweenStates (m : MotorState) : Bool := !motorParked m && decide (m ≠ .run)

theorem betweenStates_iff (m : MotorState) : betweenStates m = true ↔ m ≠ .off ∧ m ≠ .tripped ∧ m ≠ .run := by
  cases m <;> decide

/-- The entry to such a state counts no attempt off. -/
theorem enteredMdr_attempts {new : MotorState} (h : betweenStates new = true) (start : Bool) (m : Mdr) :
    (enteredMdr new start m).attempts = m.attempts := by
  cases new <;> simp [betweenStates, motorParked] at h <;> rfl

theorem deliverSrg_between {new : MotorState} (h : betweenStates new = true) (s : State) : deliverSrg new s = s := by
  cases new <;> simp [betweenStates, motorParked] at h <;> rfl

theorem deliverIcn_between {new : MotorState} (h : betweenStates new = true) (s : State) : deliverIcn new s = s := by
  cases new <;> simp [betweenStates, motorParked] at h <;> rfl

/-- A change of motor state to a state of a moving motor but RUN, from a state but RUN. -/
theorem motorTo_between {new : MotorState} (h : betweenStates new = true) {s : State} (from' : s.mdr.state ≠ .run)
    (cause : MotorCause) (start : Bool) : motorTo new cause start s =
      raise (motorNotice new cause s.mdr)
        (((s.setMdr (enteredMdr new start s.mdr)).setPkm
          { s.pkm with interval := intervalOf s.slc.power new s.chc.state }).setSlc
          { s.slc with idle := 0, entry := .none }) := by
  obtain ⟨off, tripped, run⟩ := (betweenStates_iff new).1 h
  have moving : motorParked new = false := by simp [motorParked, off, tripped]
  have judge (t : State) (k : t.mdr.state = new) : judgeQualify (deliverPkm new t) = chooseInterval t := by
    rw [judgeQualify_moving (by simp [k, moving])]
    simp [deliverPkm, off]
  have notice : Notice.motorState { new := new, old := s.mdr.state, cause := cause, speed := s.mdr.speed
                                    attempts := (enteredMdr new start s.mdr).attempts } =
      motorNotice new cause s.mdr := by rw [enteredMdr_attempts h]; rfl
  simp only [motorTo, State.setMdr_mdr, notice, deliverDrs_of_ne tripped, deliverSrg_between h,
    deliverBlm_outside from' run, deliverDse_outside from' run, deliverIcn_between h]
  rw [judge _ (by simp), raise_setSlc (by rfl), raise_setPkm]
  simp [chooseInterval, deliverSlc, keptEntry, moving]

/-- Settles O27: the change is its entry, the notice, the interval, the idle timer and the entry abandoned. -/
theorem motorChange : Obligations.MotorChange := by
  intro new cause start s on off run tripped from'
  rw [motorTo_between ((betweenStates_iff new).2 ⟨off, tripped, run⟩) from', intervalOf, if_neg (by simp [on]),
    if_pos ⟨off, tripped⟩]
  rfl

end Sys2Proof.Proofs

namespace Sys2Proof.Proofs

open Sys2Proof.Machine Sys2Proof.Safety

/-! ### A trip, by what it leaves (R8, R168) -/

/-- The part after an entry to TRIPPED by a fault raised in `s`: the motor, the resolver, the record, and the table but
for CELL_OV, which QUALIFY may raise at the entry. -/
structure TrippedBy (k : FaultKind) (d : Detail) (s t : State) : Prop where
  mdr : t.mdr = enteredMdr .tripped false s.mdr
  record : t.drs.record = DemandRecord.idle
  trigger : t.drs.triggerClaim = false
  host : t.drs.hostClaim = false
  trip : t.fmg.trip.map withoutLater = some (tripRecordOf k d s)
  table : ∀ j, j ≠ .cellOv → t.fmg.table.get j = s.fmg.table.get j

theorem trip_enters (k : FaultKind) (d : Detail) (s : State) : TrippedBy k d s (trip k d s) := by
  let x := s.setFmg { s.fmg with trip := some (tripRecordOf k d s) }
  have tripped : trip k d s = raiseTripNotice (.tripped k d) (motorTo .tripped .trip false x) := rfl
  obtain ⟨trigger, host, -, -⟩ := motorTo_tripped_resolver .trip false x
  obtain ⟨record, -⟩ := motorTo_tripped_record .trip x
  obtain ⟨-, noted, -, table⟩ := motorTo_tripped_faults .trip x
  rw [tripped]
  constructor
  · simp [x]
  · simp [record]
  · simp [trigger]
  · simp [host]
  · simp only [raiseTripNotice_frame]
    exact noted
  · simp only [raiseTripNotice_frame]
    exact table

/-- No claim is left, so run demand stands as the trip left it. -/
theorem TrippedBy.rests {k : FaultKind} {d : Detail} {s t : State} (h : TrippedBy k d s t) : demandRefresh t = t :=
  demandRefresh_unclaimed h.trigger h.host (by rw [h.record]; rfl)

/-- The first cause recorded, whatever is read of it but the later causes. -/
theorem TrippedBy.first {α : Type} {k : FaultKind} {d : Detail} {s t : State} (h : TrippedBy k d s t)
    (read : TripRecord → α) (plain : ∀ r, read (withoutLater r) = read r) :
    t.fmg.trip.map read = some (read (tripRecordOf k d s)) := by
  have less := congrArg (Option.map read) h.trip
  simpa only [Option.map_map, Function.comp_def, plain, Option.map_some] using less

theorem tripRecordOf_congr {s t : State} (h : t.slc.uptime = s.slc.uptime) (mdr : t.mdr = s.mdr) (srg : t.srg = s.srg)
    (pkm : t.pkm = s.pkm) (k : FaultKind) (d : Detail) : tripRecordOf k d t = tripRecordOf k d s := by
  simp only [tripRecordOf, State.now, h, mdr, srg, pkm]

/-- A STOP with the motor running trips it (R165). -/
theorem raiseStop_enters {s : State} (h : s.mdr.state ≠ .tripped) (k : FaultKind) (d : Detail) :
    TrippedBy k d (tableRaise k d s) (raiseStop k d s) := by
  rw [raiseStop, noteRaise_running h, applyStop, if_neg (by simpa using h)]
  exact trip_enters k d _

theorem tripRecordOf_tableRaise (k : FaultKind) (d : Detail) (s : State) :
    tripRecordOf k d (tableRaise k d s) = tripRecordOf k d s :=
  tripRecordOf_congr (by simp) (by simp) (by simp) (by simp) k d

/-! ### PRECHECK (R29) -/

theorem precheckEnd_decides {s : State} (h : s.mdr.state = .precheck) {t : Int} (measured : s.mdr.tInv = some t) :
    precheckEnd s = precheckDecide t s := by
  simp only [precheckEnd, h, measured, if_true]

/-- Settles O28: the four ends of PRECHECK in R29's order, and the decision held. -/
theorem precheckDecides : Obligations.PrecheckDecides := by
  intro t s on precheck
  have ends : exec .precheckEnd s = .next (beginTransmission (precheckEnd s)) :=
    congrArg Host.Outcome.next (whilePowered_on on)
  have decides (measured : s.mdr.tInv = some t) :
      exec .precheckEnd s = .next (beginTransmission (precheckDecide t s)) := by
    rw [ends, precheckEnd_decides precheck measured]
  refine ⟨fun unmeasured => ?_, fun measured cool fast => ?_, fun measured cool slow rest => ?_,
    fun measured cool slow turning => ?_, fun measured hot => ?_⟩
  · rw [ends, precheckEnd, if_pos precheck, unmeasured]
  · rw [decides measured, precheckDecide, if_neg (by omega), if_pos fast]
  · rw [decides measured, precheckDecide, if_neg (by omega), if_neg (by omega), if_pos rest]
  · rw [decides measured, precheckDecide, if_neg (by omega), if_neg (by omega), if_neg (by simp [turning])]
  · refine ⟨_, decides measured, ?_⟩
    have tripped := raiseStop_enters (s := s) (by simp [precheck]) .invHot (.celsius t)
    rw [precheckDecide, if_pos hot]
    obtain ⟨r, record, plain⟩ := Option.map_eq_some_iff.1 tripped.trip
    rw [tripRecordOf_tableRaise] at plain
    simp only [beginTransmission_frame, tripped.mdr]
    refine ⟨rfl, rfl, r, record, congrArg TripRecord.first plain, congrArg TripRecord.detail plain, ?_⟩
    rw [← precheck]
    exact congrArg TripRecord.motor plain

/-! ### ALIGN, RAMP and RESTART_WAIT (R30, R31, R32, R36) -/

/-- What a change between such states leaves alone: everything but the motor, the notices, the scan interval, the idle
timer and the entry awaited. -/
theorem motorTo_between_frame {new : MotorState} (h : betweenStates new = true) {s : State}
    (from' : s.mdr.state ≠ .run) (cause : MotorCause) (start : Bool) :
    let t := motorTo new cause start s
    t.trg = s.trg ∧ t.drs = s.drs ∧ t.srg = s.srg ∧ t.sbt = s.sbt ∧ t.blm = s.blm ∧ t.dse = s.dse ∧ t.gge = s.gge ∧
      t.chc = s.chc ∧ t.dlk = s.dlk ∧ t.fmg = s.fmg ∧ ParamsKept s t ∧ RestKept s t := by
  intro t
  have same : t = _ := motorTo_between h from' cause start
  rw [same]
  simp [ParamsKept, RestKept]

/-- Settles O29: each end is a change between the states outside RUN, and a tick moves the field alone. -/
theorem startTurns : Obligations.StartTurns := by
  intro s
  refine ⟨fun on => ⟨fun align => ?_, fun wait => ?_⟩, fun on ramp => ⟨?_, fun slow => ?_⟩⟩
  · refine ⟨_, congrArg Host.Outcome.next (whilePowered_on on), ?_⟩
    rw [if_pos align]
    have frame := motorTo_between_frame (new := .ramp) rfl (s := s) (by simp [align]) .aligned false
    simp only [beginTransmission_frame, beginTransmission_port, motorTo_mdr, ParamsKept, RestKept] at frame ⊢
    exact ⟨rfl, frame⟩
  · refine ⟨_, congrArg Host.Outcome.next (whilePowered_on on), ?_⟩
    rw [if_pos wait]
    have frame := motorTo_between_frame (new := .align) rfl (s := s) (by simp [wait]) .aligned false
    simp only [beginTransmission_frame, beginTransmission_port, motorTo_mdr, ParamsKept, RestKept] at frame ⊢
    exact ⟨rfl, frame⟩
  · refine congrArg Host.Outcome.next ((whilePowered_on on).trans (congrArg beginTransmission ((if_pos ramp).trans ?_)))
    rfl
  · refine congrArg Host.Outcome.next ((whilePowered_on on).trans (congrArg beginTransmission ((if_pos ramp).trans ?_)))
    exact if_neg (by simpa [rampSpeed] using slow)

end Sys2Proof.Proofs

namespace Sys2Proof.Proofs

open Sys2Proof.Machine Sys2Proof.Safety

/-! ### A failed start (R33, R35, R36) -/

/-- The part when an attempt is counted, before what follows from it. -/
def attemptCounted (s : State) : State := s.setMdr { gatesOff s.mdr with attempts := s.mdr.attempts + 1 }

/-- A failed start with attempts left waits for the next, with nothing but the motor moved. -/
theorem startFail_waits {s : State} (few : s.mdr.attempts < 2) (starting : s.mdr.state ≠ .run) (cause : MotorCause) :
    let t := startFail cause s
    t.mdr = enteredMdr .restartWait false (attemptCounted s).mdr ∧ t.drs = s.drs ∧ t.fmg = s.fmg ∧ t.srg = s.srg ∧
      t.chc = s.chc ∧ t.dlk = s.dlk := by
  have waits : startFail cause s = motorTo .restartWait cause false (attemptCounted s) :=
    if_pos (Nat.add_lt_add_right few 1)
  obtain ⟨-, drs, srg, -, -, -, -, chc, dlk, fmg, -, -⟩ :=
    motorTo_between_frame (new := .restartWait) rfl (s := attemptCounted s) starting cause false
  rw [waits]
  exact ⟨motorTo_mdr .., drs, fmg, srg, chc, dlk⟩

/-- The third failed start trips. -/
theorem startFail_trips {s : State} (many : 2 ≤ s.mdr.attempts) (running : s.mdr.state ≠ .tripped) (cause : MotorCause) :
    TrippedBy .startFail (.cause cause) (tableRaise .startFail (.cause cause) (attemptCounted s)) (startFail cause s) := by
  have stops : startFail cause s = raiseStop .startFail (.cause cause) (attemptCounted s) :=
    if_neg (by simp [gatesOff]; omega)
  rw [stops]
  exact raiseStop_enters (s := attemptCounted s) running ..

/-- Run demand stands as it stood after a failed start, or is false with no claim left: there is nothing to recompute. -/
theorem startFail_rests {s : State} (follows : DemandFollows s) (running : s.mdr.state ≠ .tripped)
    (cause : MotorCause) : demandRefresh (startFail cause s) = startFail cause s := by
  by_cases few : s.mdr.attempts < 2
  · have waits : startFail cause s = motorTo .restartWait cause false (attemptCounted s) :=
      if_pos (Nat.add_lt_add_right few 1)
    have claims : DemandFollows (attemptCounted s) := follows
    rw [waits]
    exact demandRefresh_stands (motorTo_demandFollows (by simp) cause false (s := attemptCounted s) running claims).symm
  · exact (startFail_trips (by omega) running cause).rests

/-- What O30 says of the first two failures of a start, and of the third. -/
def StartFailed (cause : MotorCause) (s t : State) : Prop :=
  (s.mdr.attempts < 2 → t.mdr.state = .restartWait ∧ t.mdr.attempts = s.mdr.attempts + 1 ∧ t.mdr.gates = none ∧
    t.mdr.speed = 0 ∧ t.drs = s.drs ∧ t.fmg = s.fmg ∧ t.srg = s.srg ∧ t.chc = s.chc ∧ t.dlk = s.dlk) ∧
  (2 ≤ s.mdr.attempts → t.mdr.state = .tripped ∧ t.mdr.attempts = 0 ∧ t.mdr.gates = none ∧
    t.drs.record.runDemand = false ∧
    (t.fmg.trip.map fun r => (r.first, r.detail, r.motor)) = some (.startFail, .cause cause, s.mdr.state))

theorem startFail_failed {s : State} (starting : s.mdr.state ≠ .run) (running : s.mdr.state ≠ .tripped)
    (cause : MotorCause) : StartFailed cause s (beginTransmission (startFail cause s)) := by
  refine ⟨fun few => ?_, fun many => ?_⟩
  · obtain ⟨mdr, frame⟩ := startFail_waits few starting cause
    simp only [beginTransmission_frame, mdr]
    exact ⟨rfl, rfl, rfl, rfl, frame⟩
  · have tripped := startFail_trips many running cause
    simp only [beginTransmission_frame, tripped.mdr, tripped.record,
      tripped.first (fun r => (r.first, r.detail, r.motor)) fun _ => rfl, tripRecordOf_tableRaise]
    exact ⟨rfl, rfl, rfl, rfl, rfl⟩

/-- Settles O30: the failed start by each of its ways, waiting or tripping. -/
theorem startFails : Obligations.StartFails := by
  intro im s on _ follows
  have taken {o : Host.Outcome State Fault Refusal} {cause : MotorCause} {t : State} (h : o = .next t)
      (failed : StartFailed cause s t) :
      (s.mdr.attempts < 2 → Yields o fun t => t.mdr.state = .restartWait ∧ t.mdr.attempts = s.mdr.attempts + 1 ∧
        t.mdr.gates = none ∧ t.mdr.speed = 0 ∧ t.drs = s.drs ∧ t.fmg = s.fmg ∧ t.srg = s.srg ∧ t.chc = s.chc ∧
        t.dlk = s.dlk) ∧
      (2 ≤ s.mdr.attempts → Yields o fun t => t.mdr.state = .tripped ∧ t.mdr.attempts = 0 ∧ t.mdr.gates = none ∧
        t.drs.record.runDemand = false ∧
        (t.fmg.trip.map fun r => (r.first, r.detail, r.motor)) = some (.startFail, .cause cause, s.mdr.state)) :=
    ⟨fun few => ⟨t, h, failed.1 few⟩, fun many => ⟨t, h, failed.2 many⟩⟩
  refine ⟨fun ramp => ?_, fun ramp fast => ?_, fun handover missed => ?_⟩
  · refine taken (congrArg Host.Outcome.next ((whilePowered_on on).trans (congrArg beginTransmission ((if_pos ramp).trans ?_))))
      (startFail_failed (by simp [ramp]) (by simp [ramp]) .rampTimeout)
    exact startFail_rests follows (by simp [ramp]) _
  · let grown := s.mdr.rampInc + BitVec.ofNat 16 s.motorPar.rampAccel
    let u := s.setMdr { s.mdr with rampInc := grown, speed := rampSpeed grown }
    have accelerated : rampAccelerated s = startFail .rampOverspeed u := if_pos fast
    have failed : StartFailed .rampOverspeed u (beginTransmission (startFail .rampOverspeed u)) :=
      startFail_failed (by simp [u, ramp]) (by simp [u, ramp]) .rampOverspeed
    exact taken (congrArg Host.Outcome.next ((whilePowered_on on).trans
      (congrArg beginTransmission ((if_pos ramp).trans accelerated)))) failed
  · have closed : windowClosed im s = startFail .handoverMiss s := by
      simp only [windowClosed, missed, handover, Bool.false_eq_true, if_false]
      exact startFail_rests follows (by simp [handover]) _
    exact taken (congrArg Host.Outcome.next ((whilePowered_on on).trans (congrArg beginTransmission closed)))
      (startFail_failed (by simp [handover]) (by simp [handover]) .handoverMiss)

/-! ### A missed crossing in RUN (R27, R39) -/

/-- A commutation leaves the counts of misses and restarts, and the state. -/
theorem commutate_mdr (period : Nat) (im : Int) (s : State) :
    (commutate period im s).mdr.state = s.mdr.state ∧ (commutate period im s).mdr.misses = s.mdr.misses ∧
      (commutate period im s).mdr.restarts = s.mdr.restarts := by
  unfold commutate revolutionEnd deliverSample
  dsimp only
  repeat' split
  all_goals simp [commutated]

/-- A commutation of RUN before the sixth. -/
theorem commutate_within {s : State} (run : s.mdr.state = .run) (few : s.mdr.revCount < 5) (period : Nat) (im : Int) :
    commutate period im s = s.setMdr
      { commutated s.motorPar.blankFrac period s.mdr with revCount := s.mdr.revCount + 1 } := by
  have sixth : ¬ 6 ≤ s.mdr.revCount + 1 := by omega
  exact (if_pos run).trans (if_neg sixth)

/-- A commutation in RUN leaves the speed to the revolution end (R26). -/
theorem commutated_run {m : Mdr} (run : m.state = .run) (blankFrac period : Nat) : commutated blankFrac period m =
    { m with sector := (m.sector + 1) % 6, gates := some ((m.sector + 1) % 6), ts := period, blankFrac := blankFrac
             periods := appendPeriod period m.periods, seen := false, windowShut := false, schedule := none } := by
  simp [commutated, listReported, run]

/-- The part when a window of RUN has closed without a crossing, before what the sixth miss brings. -/
def missedState (im : Int) (s : State) : State :=
  (commutate (windowCloseTime s.mdr.ts) im s).setMdr
    { (commutate (windowCloseTime s.mdr.ts) im s).mdr with
      misses := (commutate (windowCloseTime s.mdr.ts) im s).mdr.misses + 1 }

theorem missedCrossing_eq (im : Int) (s : State) : missedCrossing im s =
    if 5 ≤ s.mdr.misses then demandRefresh (raiseSyncLoss (missedState im s)) else missedState im s := by
  obtain ⟨-, misses, -⟩ := commutate_mdr (windowCloseTime s.mdr.ts) im s
  have sixth : 6 ≤ (missedState im s).mdr.misses ↔ 5 ≤ s.mdr.misses := by
    simp only [missedState, State.setMdr_mdr, misses]
    omega
  have closed : missedCrossing im s =
      if 6 ≤ (missedState im s).mdr.misses then demandRefresh (raiseSyncLoss (missedState im s))
      else missedState im s := rfl
  simp only [closed, sixth]

theorem missedState_kept (im : Int) (s : State) : (missedState im s).mdr.state = s.mdr.state ∧
    (missedState im s).mdr.restarts = s.mdr.restarts ∧ (missedState im s).fmg = s.fmg ∧
    (missedState im s).slc = s.slc ∧ Steady s (missedState im s) := by
  obtain ⟨state, -, restarts⟩ := commutate_mdr (windowCloseTime s.mdr.ts) im s
  have counted (m : Nat) (t : State) : Steady t (t.setMdr { t.mdr with misses := m }) := setMdr_steady rfl rfl
  refine ⟨state, restarts, ?_, ?_, (commutate_steady _ im s).trans (counted _ _)⟩
  · simp [missedState]
  · simp [missedState]

/-- The part when SYNC_LOSS is noted, with the gates off, before its response. -/
def syncLost (s : State) : State :=
  tableRaise .syncLoss (.rpm s.mdr.speed) (s.setMdr { gatesOff s.mdr with misses := 0 })

theorem raiseSyncLoss_eq {s : State} (run : s.mdr.state = .run) : raiseSyncLoss s =
    if s.fmg.syncLoss = .stop then trip .syncLoss (.rpm s.mdr.speed) (syncLost s)
    else restartDecision (.rpm s.mdr.speed) (syncLost s) := by
  have noted := noteRaise_running (s := s.setMdr { gatesOff s.mdr with misses := 0 }) (by simp [gatesOff, run])
    .syncLoss (.rpm s.mdr.speed)
  have stop : applyStop .syncLoss (.rpm s.mdr.speed) (syncLost s) = trip .syncLoss (.rpm s.mdr.speed) (syncLost s) :=
    if_neg (by simp [syncLost, gatesOff, run])
  rw [← stop]
  simp only [raiseSyncLoss, noted]
  rfl

theorem syncLost_steady (s : State) : Steady s (syncLost s) := .of_fields (by simp [syncLost, gatesOff])

/-- A restart: COAST, and at once PRECHECK with run demand true (R39). -/
theorem restartDecision_restarts {s : State} (few : (agedRestarts s.now s.mdr.restarts).length < 2)
    (demand : s.drs.record.runDemand = true) (d : Detail) : restartDecision d s =
      motorTo .precheck .demand false (motorTo .coast .syncLoss false
        (s.setMdr { s.mdr with restarts := agedRestarts s.now s.mdr.restarts ++ [s.now] })) := by
  have kept := motorTo_resolverKept (new := .coast) (by simp) .syncLoss false
    (s.setMdr { s.mdr with restarts := agedRestarts s.now s.mdr.restarts ++ [s.now] })
  unfold restartDecision
  rw [if_neg (by omega)]
  exact if_pos (kept.demand.trans demand)

/-- The third loss within 2,000 ms trips (R39). -/
theorem restartDecision_trips {s : State} (many : 2 ≤ (agedRestarts s.now s.mdr.restarts).length)
    (running : s.mdr.state ≠ .tripped) (d : Detail) : restartDecision d s =
      trip .syncLoss d (s.setMdr { s.mdr with restarts := agedRestarts s.now s.mdr.restarts }) := by
  unfold restartDecision
  rw [if_pos many]
  exact if_neg running

/-- The part at a restart, with the uptime in the history (R39). -/
def restartNoted (im : Int) (s : State) : State :=
  let l := syncLost (missedState im s)
  l.setMdr { l.mdr with restarts := agedRestarts s.now s.mdr.restarts ++ [s.now] }

theorem syncLost_history (im : Int) (s : State) : (syncLost (missedState im s)).now = s.now ∧
    (syncLost (missedState im s)).mdr.restarts = s.mdr.restarts := by
  obtain ⟨-, restarts, -, slc, -⟩ := missedState_kept im s
  exact ⟨by simp [syncLost, State.now, slc], by simp [syncLost, gatesOff, restarts]⟩

theorem restartNoted_steady (im : Int) (s : State) : Steady s (restartNoted im s) := by
  obtain ⟨-, -, -, -, missed⟩ := missedState_kept im s
  exact missed.trans ((syncLost_steady _).trans (setMdr_steady rfl rfl))

/-- The sixth miss under RESTART with fewer than two losses left: the motor starts anew (R39). -/
theorem missedCrossing_restarts {im : Int} {s : State} (run : s.mdr.state = .run) (sixth : 5 ≤ s.mdr.misses)
    (follows : DemandFollows s) (demand : s.drs.record.runDemand = true) (restart : s.fmg.syncLoss = .restart)
    (few : (agedRestarts s.now s.mdr.restarts).length < 2) : missedCrossing im s =
      motorTo .precheck .demand false (motorTo .coast .syncLoss false (restartNoted im s)) := by
  obtain ⟨state, -, fmg, -, missed⟩ := missedState_kept im s
  obtain ⟨now, history⟩ := syncLost_history im s
  have lost : raiseSyncLoss (missedState im s) =
      motorTo .precheck .demand false (motorTo .coast .syncLoss false (restartNoted im s)) := by
    rw [raiseSyncLoss_eq (state.trans run), if_neg (by simp [fmg, restart]), restartDecision_restarts
      (by rw [now, history]; exact few) ((missed.trans (syncLost_steady _)).demand.trans demand), now, history]
    rfl
  have noted := restartNoted_steady im s
  have claims : DemandFollows (restartNoted im s) := by
    rw [DemandFollows, noted.demand, noted.wantsToRun]
    exact follows
  have coasts : DemandFollows (motorTo .coast .syncLoss false (restartNoted im s)) :=
    motorTo_demandFollows (by simp) .syncLoss false (by simp [noted.motor, run]) claims
  have checks := motorTo_demandFollows (new := .precheck) (by simp) .demand false (by simp) coasts
  rw [missedCrossing_eq, if_pos sixth, lost, demandRefresh_stands checks.symm]

/-- A missed crossing that trips the motor, by what the trip leaves. -/
theorem missedCrossing_trips {im : Int} {s u : State} (sixth : 5 ≤ s.mdr.misses)
    (trips : raiseSyncLoss (missedState im s) = trip .syncLoss (.rpm (missedState im s).mdr.speed) u) :
    TrippedBy .syncLoss (.rpm (missedState im s).mdr.speed) u (missedCrossing im s) := by
  have entered := trip_enters .syncLoss (.rpm (missedState im s).mdr.speed) u
  rw [missedCrossing_eq, if_pos sixth, trips, entered.rests]
  exact entered

/-- Settles O35: a window that closes, by what was seen, by the misses, and by the response. -/
theorem windowsClose : Obligations.WindowsClose := by
  intro im s on young
  have closes : exec (.windowClose im) s = .next (beginTransmission (windowClosed im s)) :=
    congrArg Host.Outcome.next (whilePowered_on on)
  have misses (unseen : s.mdr.seen = false) (run : s.mdr.state = .run) :
      exec (.windowClose im) s = .next (beginTransmission (missedCrossing im s)) := by
    simp only [closes, windowClosed, unseen, run, Bool.false_eq_true, if_false]
  obtain ⟨state, -, fmg, -, -⟩ := missedState_kept im s
  obtain ⟨now, history⟩ := syncLost_history im s
  have lost (run : s.mdr.state = .run) := raiseSyncLoss_eq (s := missedState im s) (state.trans run)
  have counted : (syncLost (missedState im s)).fmg.table.syncLoss.count = min 255 (s.fmg.table.syncLoss.count + 1) := by
    simp [syncLost, tableRaise, KindMap.put, KindMap.get, fmg]
  refine ⟨fun seen => ?_, fun unseen ramp => ?_, fun unseen run few rev => ?_,
    fun unseen run sixth follows demand restart few => ?_, fun unseen run sixth restart many => ?_,
    fun unseen run sixth stop => ?_⟩
  · rw [closes, windowClosed, if_pos seen]
  · simp only [closes, windowClosed, unseen, ramp, Bool.false_eq_true, if_false]
  · rw [misses unseen run, missedCrossing_eq, if_neg (by omega), missedState, commutate_within run rev,
      commutated_run run]
    simp only [unseen]
    rfl
  · refine ⟨_, misses unseen run, ?_⟩
    rw [missedCrossing_restarts run sixth follows demand restart few]
    obtain ⟨-, -, -, coasts, -⟩ := motorTo_moving (new := .coast) rfl .syncLoss false (restartNoted im s)
    obtain ⟨-, -, -, checks, -⟩ :=
      motorTo_moving (new := .precheck) rfl .demand false (motorTo .coast .syncLoss false (restartNoted im s))
    have demands := ((motorTo_resolverKept (new := .precheck) (by simp) .demand false _).demand.trans
      (motorTo_resolverKept (new := .coast) (by simp) .syncLoss false _).demand).trans
        ((restartNoted_steady im s).demand.trans demand)
    have noted : (restartNoted im s).fmg = (syncLost (missedState im s)).fmg := rfl
    have stood : (syncLost (missedState im s)).fmg.trip = s.fmg.trip := by simp [syncLost, tableRaise, fmg]
    simp only [beginTransmission_frame, motorTo_mdr, checks, coasts, demands, noted, stood, counted]
    exact ⟨rfl, rfl, rfl, trivial, trivial, trivial⟩
  · refine ⟨_, misses unseen run, ?_⟩
    have trips := missedCrossing_trips sixth (by
      rw [lost run, if_neg (by simp [fmg, restart]), restartDecision_trips (by rw [now, history]; exact many)
        (by simp [syncLost, gatesOff, state, run])])
    simp only [beginTransmission_frame, trips.mdr, trips.record, trips.first (fun r => (r.first, r.motor)) fun _ => rfl]
    refine ⟨rfl, rfl, rfl, rfl, ?_, ?_⟩
    · have entry := congrArg FaultEntry.count (trips.table .syncLoss (by simp))
      simp only [KindMap.get, State.setMdr_fmg, counted] at entry
      exact entry
    · simp [tripRecordOf, syncLost, gatesOff, state, run]
  · refine ⟨_, misses unseen run, ?_⟩
    have trips := missedCrossing_trips sixth (by rw [lost run, if_pos (by rw [fmg, stop])])
    simp only [beginTransmission_frame, trips.mdr, trips.first (·.first) fun _ => rfl]
    exact ⟨rfl, rfl, rfl⟩

end Sys2Proof.Proofs

namespace Sys2Proof.Proofs

open Sys2Proof.Machine Sys2Proof.Safety

/-! ### What the Pack Monitor measures, under the deliveries (R98 to R101, R110) -/

/-- The Pack Monitor but for what the deliveries of a motor or charge state move: the interval, the pack state and the
bleeding of the cells. -/
def measured (p : Pkm) : Pkm :=
  { p with cells := p.cells.map fun c => { c with bleeding := false }, interval := .slow, state := .normal
           bleedSet := Seven.replicate false, switches := Seven.replicate false }

@[simp] theorem measured_interval (p : Pkm) (i : ScanInterval) : measured { p with interval := i } = measured p := rfl

@[simp] theorem measured_state (p : Pkm) (x : PackState) : measured { p with state := x } = measured p := rfl

@[simp] theorem measured_chooseInterval (s : State) : measured (chooseInterval s).pkm = measured s.pkm := rfl

@[simp] theorem measured_applyBleed (set : Seven Bool) (s : State) :
    measured (applyBleed set s).pkm = measured s.pkm := rfl

@[simp] theorem measured_changePackState (new : PackState) (cause : PackCause) (cell : Nat) (s : State) :
    measured (changePackState new cause cell s).pkm = measured s.pkm := by simp [changePackState, raisePackNotice]

@[simp] theorem measured_releaseCutoff (s : State) : measured (releaseCutoff s).pkm = measured s.pkm := by
  simp [releaseCutoff]

@[simp] theorem measured_changeCharge (new : ChargeState) (cause : ChargeCause) (set : SuspendSet) (s : State) :
    measured (changeCharge new cause set s).pkm = measured s.pkm := by
  unfold changeCharge
  dsimp only
  repeat' split
  all_goals simp

@[simp] theorem measured_enterChargeFault (k : FaultKind) (s : State) :
    measured (enterChargeFault k s).pkm = measured s.pkm := by
  unfold enterChargeFault
  split <;> simp

@[simp] theorem measured_raiseChargeStop (k : FaultKind) (d : Detail) (s : State) :
    measured (raiseChargeStop k d s).pkm = measured s.pkm := by simp [raiseChargeStop]

@[simp] theorem measured_judgeQualify (s : State) : measured (judgeQualify s).pkm = measured s.pkm := by
  unfold judgeQualify
  repeat' split
  all_goals simp [enterSuspend]

/-- A change of motor state measures nothing; at the entry to OFF the sag limit is full again (R110). -/
theorem measured_motorTo (new : MotorState) (cause : MotorCause) (pend : Bool) (s : State) :
    measured (motorTo new cause pend s).pkm =
      if new = .off then { measured s.pkm with iSag := s.packPar.iMax } else measured s.pkm := by
  unfold motorTo
  simp only [deliverSlc_frame, deliverIcn_frame, measured_judgeQualify, deliverPkm]
  split
  · simp only [State.setPkm_pkm, chooseInterval, State.setPkm_packPar]
    simp [measured]
  · simp

/-! ### The Dock Link under the charge (R128, R148, R155) -/

/-- A RELEASE due is sent where no exchange is in progress, and held otherwise (R148). -/
theorem sendDue_release {s : State} {r : ReleaseReason} (due : s.dlk.dueRelease = some r)
    (linked : s.dlk.state = .negotiating ∨ s.dlk.state = .active) : (sendDue s).dlk =
      if s.dlk.exchange = none then { sentDlk (.release r) s.dlk with dueRelease := none, firstSent := true }
      else s.dlk := by
  unfold sendDue
  split
  · next free =>
    rw [if_pos free.1]
    simp only [due]
    rfl
  · next busy => rw [if_neg fun free => busy ⟨free, linked⟩]

theorem releaseDue_eq (r : ReleaseReason) (d : Dlk) : releaseDue r d =
    { d with dueRelease := some r, dueRequest := none, dueKeep := d.dueKeep || heldForKeep d } := by
  unfold releaseDue heldForKeep
  cases d.dueRequest <;> rfl

/-- The link with a RELEASE due, before it is sent. -/
def releaseMarked (r : ReleaseReason) (grant : Option Nat) (d : Dlk) : Dlk :=
  { d with dueRelease := some r, dueRequest := none, dueKeep := d.dueKeep || heldForKeep d, released := true
           grant := grant }

theorem sendDue_marked {u : State} {r : ReleaseReason} {grant : Option Nat} {d : Dlk} (h : u.dlk = releaseMarked r grant d)
    (linked : d.state = .negotiating ∨ d.state = .active) : (sendDue u).dlk =
      if d.exchange = none then
        { sentDlk (.release r) (releaseMarked r grant d) with dueRelease := none, firstSent := true }
      else releaseMarked r grant d := by
  rw [sendDue_release (r := r) (by rw [h]; rfl) (by rw [h]; exact linked), h]
  rfl

/-- What the hand-over of a RELEASE makes of the link. -/
theorem handRelease_dlk (r : ReleaseReason) (s : State) : (handRelease r s).dlk = releasedDlk r s.dlk := by
  unfold handRelease releasedDlk
  split
  · next active =>
    rw [releaseDue_eq, if_pos (.inl active), if_pos active,
      sendDue_marked (r := r) (grant := some 0) ?_ (.inr active)]
    · rfl
    · have quiet (t : State) : (raiseDockNotice true .active .released t).dlk = t.dlk := by simp
      rw [apply_ite State.dlk, quiet, ite_self]
      rfl
  · next negotiating =>
    split
    · next first =>
      have stands : (if s.dlk.state = .active then some 0 else s.dlk.grant) = s.dlk.grant := if_neg (by simp [negotiating])
      rw [releaseDue_eq, if_pos (.inr ⟨negotiating, first⟩), stands,
        sendDue_marked (r := r) (grant := s.dlk.grant) rfl (.inl negotiating)]
      rfl
    · next unsent => rw [if_neg (by simp [negotiating, unsent])]
  · next active negotiating => rw [if_neg fun h => h.elim active fun k => negotiating k.1]

theorem changeCharge_dlk {new : ChargeState} (h : new ≠ .qualify) (cause : ChargeCause) (set : SuspendSet) (s : State) :
    (changeCharge new cause set s).dlk = s.dlk := by
  unfold changeCharge
  simp only [h, if_false]
  repeat' split
  all_goals simp

theorem enterSuspend_charge (temp : Bool) (s : State) :
    (enterSuspend temp s).chc = enteredChc .suspend ⟨temp, decide (grantInForce s.dlk = 0), s.chc.pause⟩ s.chc ∧
      (enterSuspend temp s).dlk = s.dlk := by
  simp [enterSuspend, changeCharge_dlk]

/-- A CHARGE_STOP from a state that can fault: FAULT with its kind as the cause, and a RELEASE handed (R136, R165). -/
theorem raiseChargeStop_charge {s : State} (h : s.chc.state ≠ .idle ∧ s.chc.state ≠ .fault) (k : FaultKind) (d : Detail) :
    (raiseChargeStop k d s).chc = enteredChc .fault noSuspend { s.chc with faultCause := some k } ∧
      (raiseChargeStop k d s).dlk = releasedDlk .fault s.dlk := by
  obtain ⟨idle, fault⟩ := h
  rw [raiseChargeStop, enterChargeFault, if_neg (by simp [idle, fault])]
  simp [handRelease_dlk, changeCharge_dlk]

/-- QUALIFY's judgement, with the motor parked: the charge by its five checks, and a RELEASE at a fault (R129, R155). -/
theorem judgeQualify_judges {s : State} (qualify : s.chc.state = .qualify) (parked : motorParked s.mdr.state = true) :
    (judgeQualify s).chc = judgedIn s s.chc ∧
      (judgeQualify s).dlk = if (judgeQualify s).chc.state = .fault then releasedDlk .fault s.dlk else s.dlk := by
  have passed (new : ChargeState) (other : new ≠ .fault ∧ new ≠ .qualify) :
      (changeCharge new .qualified noSuspend s).chc = enteredChc new noSuspend s.chc ∧
        (changeCharge new .qualified noSuspend s).dlk =
          if (changeCharge new .qualified noSuspend s).chc.state = .fault then releasedDlk .fault s.dlk else s.dlk := by
    rw [changeCharge_chc, enteredChc_state, if_neg other.1]
    exact ⟨rfl, changeCharge_dlk other.2 ..⟩
  unfold judgeQualify judgedIn qualifyJudged
  simp only [qualify, parked, ne_eq, not_true_eq_false, Bool.true_eq_false, if_false]
  split
  · next paused =>
    obtain ⟨chc, dlk⟩ := enterSuspend_charge false s
    rw [chc, dlk, enteredChc_state, if_neg (by simp), paused]
    exact ⟨rfl, rfl⟩
  · next unpaused =>
    split
    · next noGrant =>
      split
      · obtain ⟨chc, dlk⟩ := enterSuspend_charge false s
        rw [chc, dlk, enteredChc_state, if_neg (by simp)]
        simp [noGrant, unpaused]
      · simp [qualify]
    · next granted =>
      split
      · obtain ⟨chc, dlk⟩ := enterSuspend_charge true s
        rw [chc, dlk, enteredChc_state, if_neg (by simp)]
        simp [granted, unpaused]
      · split
        · obtain ⟨chc, dlk⟩ := raiseChargeStop_charge (s := s) (by simp [qualify]) .cellOv (.cell (lowestCell (·.ov) s.pkm))
          rw [chc, dlk, enteredChc_state, if_pos rfl]
          exact ⟨rfl, rfl⟩
        · cases low : vmin s.pkm with
          | none => simpa using passed .cc (by simp)
          | some v =>
            simp only [Option.getD_some]
            split
            · exact passed .precharge (by simp)
            · exact passed .cc (by simp)

end Sys2Proof.Proofs

namespace Sys2Proof.Proofs

open Sys2Proof.Machine Sys2Proof.Safety

/-! ### The off-gates detector (R25) -/

/-- A crossing is the successor of the one before it. -/
def InTurn (sector : Nat) (m : Mdr) : Prop := ∃ p ∈ m.lastNamed, sector = (p + 1) % 6

theorem sequenceKind_first {sector : Nat} {m : Mdr} (h : m.lastNamed = none) : sequenceKind sector m = .first := by
  simp [sequenceKind, h]

theorem sequenceKind_next {sector : Nat} {m : Mdr} (h : InTurn sector m) : sequenceKind sector m = .next := by
  obtain ⟨p, named, turn⟩ := h
  simp [sequenceKind, Option.mem_def.1 named, turn]

theorem sequenceKind_broken {sector : Nat} {m : Mdr} (h : ∃ p ∈ m.lastNamed, ¬ sector = (p + 1) % 6) :
    sequenceKind sector m = .broken := by
  obtain ⟨p, named, turn⟩ := h
  simp [sequenceKind, Option.mem_def.1 named, turn]

theorem InTurn.placed {sector : Nat} {m : Mdr} (h : InTurn sector m) : sequenceKind sector m ≠ .broken := by
  simp [sequenceKind_next h]

/-- The first crossing of a sequence follows none, and breaks none. -/
theorem unnamed_starts {sector : Nat} {m : Mdr} (h : m.lastNamed = none) :
    sequenceKind sector m ≠ .next ∧ sequenceKind sector m ≠ .broken := by simp [sequenceKind_first h]

theorem broken_starts {sector : Nat} {m : Mdr} (h : ∃ p ∈ m.lastNamed, ¬ sector = (p + 1) % 6) :
    sequenceKind sector m ≠ .next := by simp [sequenceKind_broken h]

theorem observeCrossing_starts {sector : Nat} {m : Mdr} (h : sequenceKind sector m ≠ .next) (t : Nat) :
    observeCrossing sector t m = startSequence sector m := by
  cases kind : sequenceKind sector m <;> simp [observeCrossing, kind] at h ⊢

/-- The speed of a rotor whose last interval counts: 0 below stop speed (R25). -/
theorem offGatesSpeed_interval {m : Mdr} {t : Nat} (moving : m.quiet = false) (several : 2 ≤ m.crossings)
    (last : m.lastInterval = some t) (later : 1 ≤ t) :
    offGatesSpeed m = if t ≤ 26666 then 80000000 / t else 0 := by
  have few : ¬ m.crossings < 2 := by omega
  have timed : t ≠ 0 := by omega
  have below : belowStop m = !decide (t ≤ 26666) := by
    simp only [belowStop, moving, few, last, stopInterval, Bool.false_or, decide_false, ← decide_not,
      Nat.not_le]
    exact decide_eq_decide.2 Iff.rfl
  by_cases near : t ≤ 26666 <;> simp [offGatesSpeed, below, near, last, intervalSpeed, timed]

/-- A crossing in sequence after the first: its interval gives the speed, down to stop speed (R25). -/
theorem observeCrossing_counts {sector t : Nat} {m : Mdr} (h : InTurn sector m) (after : 1 ≤ m.crossings)
    (later : 1 ≤ t) : observeCrossing sector t m =
      { m with crossings := min 12 (m.crossings + 1), lastNamed := some sector, lastInterval := some t, quiet := false
               periods := appendPeriod t m.periods, speed := if t ≤ 26666 then 80000000 / t else 0 } := by
  have several : 2 ≤ min 12 (m.crossings + 1) := by omega
  simp only [observeCrossing, sequenceKind_next h, inSequence]
  rw [offGatesSpeed_interval rfl several rfl later]

/-! ### The ends of COAST and of CATCH (R37, R38) -/

section
variable {phase : Phase} {rising : Bool} {t d : Nat} {s : State}

theorem crossing_precheck (h : s.mdr.state = .precheck) :
    crossing phase rising t d s = s.setMdr (observeCrossing (sectorNamed phase rising) t s.mdr) := by
  simp [crossing, h]

theorem crossing_catching (h : s.mdr.state = .catching) :
    crossing phase rising t d s = catchCrossing (sectorNamed phase rising) t s := by simp [crossing, h]

theorem crossing_coast (h : s.mdr.state = .coast) :
    crossing phase rising t d s = coastCrossing (sectorNamed phase rising) t s := by simp [crossing, h]

end

/-- A crossing that leaves COAST. -/
theorem coastCrossing_ends {sector t : Nat} {s : State}
    (h : sequenceKind sector s.mdr = .broken ∨ (sequenceKind sector s.mdr = .next ∧ 26666 < t)) :
    coastCrossing sector t s = coastEnd .slowed (s.setMdr (observeCrossing sector t s.mdr)) := if_pos h

theorem coastCrossing_stays {sector t : Nat} {s : State}
    (h : ¬ (sequenceKind sector s.mdr = .broken ∨ (sequenceKind sector s.mdr = .next ∧ 26666 < t))) :
    coastCrossing sector t s = s.setMdr (observeCrossing sector t s.mdr) := if_neg h

theorem catchLate_early {t : Nat} {m : Mdr} (h : ∀ ts, m.lastInterval = some ts → t ≤ ts * 3 / 2) :
    catchLate t m = false := by
  cases last : m.lastInterval with
  | none => simp [catchLate, last]
  | some ts =>
    simp only [catchLate, last, windowCloseTime]
    exact decide_eq_false (Nat.not_lt.2 (h ts last))

theorem catchLate_late {t : Nat} {m : Mdr} (h : ∃ ts ∈ m.lastInterval, ts * 3 / 2 < t) : catchLate t m = true := by
  obtain ⟨ts, last, late⟩ := h
  simp only [catchLate, Option.mem_def.1 last, windowCloseTime]
  exact decide_eq_true late

/-- A crossing of CATCH in its place, before the twelfth: with the sixth counted the limit stops (R37). -/
theorem catchCrossing_counts {sector t : Nat} {s : State} (placed : sequenceKind sector s.mdr ≠ .broken)
    (early : catchLate t s.mdr = false) (few : (observeCrossing sector t s.mdr).crossings < 12) :
    catchCrossing sector t s = s.setMdr { observeCrossing sector t s.mdr with
      catchLimit := if 6 ≤ (observeCrossing sector t s.mdr).crossings then none
        else (observeCrossing sector t s.mdr).catchLimit } := by
  rw [catchCrossing, if_neg placed, if_neg (by simp [early])]
  exact if_neg (by omega)

theorem catchCrossing_late {sector t : Nat} {s : State} (placed : sequenceKind sector s.mdr ≠ .broken)
    (late : catchLate t s.mdr = true) :
    catchCrossing sector t s = s.setMdr (startSequence sector (restartCatch s.mdr)) := by
  rw [catchCrossing, if_neg placed, if_pos late]

theorem coastEnd_eq (cause : MotorCause) (s : State) :
    coastEnd cause s = motorTo (if s.mdr.startPending then .precheck else .off) cause false s := by
  unfold coastEnd
  split <;> rfl

/-- A coasting rotor that has stopped. -/
theorem rotorStopped_coast {s : State} (coast : s.mdr.state = .coast) :
    rotorStopped s = coastEnd .slowed (s.setMdr { s.mdr with quiet := true, speed := 0 }) := by
  simp only [rotorStopped, coast]

/-- The entry to OFF from a coasting motor, where QUALIFY has nothing to judge: regulator and sag limit reset, and
nothing of the pack, the charge or the dock moved (R45, R110). -/
theorem motorTo_off_quiet {s : State} (coast : s.mdr.state = .coast) (charge : s.chc.state ≠ .qualify)
    (cause : MotorCause) :
    let t := motorTo .off cause false s
    t.srg = Srg.reset ∧ t.pkm.iSag = s.packPar.iMax ∧ t.drs = s.drs ∧ t.chc = s.chc ∧ t.dlk = s.dlk ∧ t.gge = s.gge ∧
      t.fmg = s.fmg := by
  intro t
  obtain ⟨srg, -, -⟩ := motorTo_off_clears cause s
  have drs := motorTo_off_drs (s := s) (by simp [coast]) cause (.inl charge)
  have sag := congrArg Pkm.iSag (measured_motorTo .off cause false s)
  refine ⟨srg, by simpa [measured] using sag, drs, ?_, ?_, by simp [t], ?_⟩
  all_goals
    simp only [t, motorTo, deliverSlc_frame, deliverIcn_frame]
    rw [judgeQualify_elsewhere (by simpa using charge)]
    simp

/-- The entry to OFF with CHC in QUALIFY, which judges what waited for the motor to rest (R129). -/
theorem motorTo_off_judges {s : State} (qualify : s.chc.state = .qualify) (cause : MotorCause) :
    let t := motorTo .off cause false s
    t.srg = Srg.reset ∧ t.pkm.iSag = s.packPar.iMax ∧ t.gge = s.gge ∧
      t.chc = qualifyJudged true s.dlk.state (grantInForce s.dlk) s.pkm.chargeAllowance s.chargePar.prechargeMv
        (s.pkm.cells.toList.any (·.ov)) (vmin s.pkm) s.chc ∧
      t.dlk = if t.chc.state = .fault then releasedDlk .fault s.dlk else s.dlk := by
  intro t
  obtain ⟨srg, -, -⟩ := motorTo_off_clears cause s
  have sag := congrArg Pkm.iSag (measured_motorTo .off cause false s)
  refine ⟨srg, by simpa [measured] using sag, by simp [t], ?_⟩
  simp only [t, motorTo, deliverSlc_frame, deliverIcn_frame]
  generalize hx : deliverPkm MotorState.off _ = x
  have frame : x.chc = s.chc ∧ x.dlk = s.dlk ∧ x.chargePar = s.chargePar ∧ x.mdr.state = .off ∧
      x.pkm.cells = s.pkm.cells ∧ x.pkm.chargeAllowance = s.pkm.chargeAllowance := by
    simp [← hx, deliverPkm, chooseInterval]
  obtain ⟨chc, dlk, par, off, cells, allowance⟩ := frame
  obtain ⟨judged, link⟩ := judgeQualify_judges (s := x) (by rw [chc, qualify]) (by simp [off, motorParked])
  rw [link, dlk, judged, judgedIn, chc, dlk, par, off, cells, allowance]
  have low : vmin x.pkm = vmin s.pkm := by simp only [vmin, cells]
  rw [low]
  exact ⟨rfl, rfl⟩

/-- Settles O31: the crossings by state and sequence, and the timers of a rotor that turns with the gates off. -/
theorem turningRotor : Obligations.TurningRotor := by
  intro phase rising t d s
  refine ⟨fun on later => ?_, fun on => ?_⟩
  · intro sector inTurn first counted
    have taken : exec (.bemfCrossing phase rising t d) s = .next (beginTransmission (crossing phase rising t d s)) :=
      congrArg Host.Outcome.next (whilePowered_on on)
    have starts (h : sequenceKind sector s.mdr ≠ .next) : observeCrossing sector t s.mdr = first :=
      observeCrossing_starts h t
    have counts (h : InTurn sector s.mdr) (after : 1 ≤ s.mdr.crossings) : observeCrossing sector t s.mdr = counted :=
      observeCrossing_counts h after later
    refine ⟨fun precheck other => ?_, fun precheck turn after => ?_, fun catching unnamed untimed => ?_,
      fun catching turn after few early => ?_, fun catching turn late => ?_, fun coast unnamed => ?_,
      fun coast turn after near => ?_, fun coast turn after far => ?_, fun coast broken rest => ?_,
      fun catching broken => ?_, fun coast broken pends => ?_⟩
    · have fresh : sequenceKind sector s.mdr ≠ .next := by
        obtain unnamed | broken := other
        · exact (unnamed_starts unnamed).1
        · exact broken_starts broken
      rw [taken, crossing_precheck precheck, starts fresh]
    · rw [taken, crossing_precheck precheck, counts turn after]
    · obtain ⟨fresh, placed⟩ := unnamed_starts (sector := sector) unnamed
      have start := starts fresh
      have one : (observeCrossing sector t s.mdr).crossings < 12 := by rw [start]; simp [first]
      rw [taken, crossing_catching catching, catchCrossing_counts placed (by simp [catchLate, untimed]) one, start]
      rfl
    · have count := counts turn after
      have kept : min 12 (s.mdr.crossings + 1) = s.mdr.crossings + 1 := by omega
      have twelfth : (observeCrossing sector t s.mdr).crossings < 12 := by rw [count]; simp only [counted]; omega
      rw [taken, crossing_catching catching, catchCrossing_counts (InTurn.placed turn) (catchLate_early early) twelfth,
        count]
      simp only [counted, kept, Nat.reduceLeDiff]
    · rw [taken, crossing_catching catching, catchCrossing_late (InTurn.placed turn) (catchLate_late late)]
      rfl
    · rw [taken, crossing_coast coast, coastCrossing_stays (by simp [sequenceKind_first unnamed]),
        starts (unnamed_starts unnamed).1]
    · rw [taken, crossing_coast coast, coastCrossing_stays (by rw [sequenceKind_next turn]; simp [near]),
        counts turn after]
    · rw [taken, crossing_coast coast, coastCrossing_ends (.inr ⟨sequenceKind_next turn, far⟩), counts turn after,
        coastEnd_eq]
      rfl
    · rw [taken, crossing_coast coast, coastCrossing_ends (.inl (sequenceKind_broken broken)),
        starts (broken_starts broken), coastEnd_eq]
      simp [first, rest]
    · rw [taken, crossing_catching catching, catchCrossing, if_pos (sequenceKind_broken broken)]
      rfl
    · refine ⟨_, taken, ?_⟩
      rw [crossing_coast coast, coastCrossing_ends (.inl (sequenceKind_broken broken)),
        starts (broken_starts broken), coastEnd_eq]
      have start : (s.setMdr first).mdr.startPending = true := pends
      rw [if_pos start]
      obtain ⟨-, drs, srg, -, -, -, -, -, -, fmg, -⟩ :=
        motorTo_between_frame (new := .precheck) rfl (s := s.setMdr first) (by simp [first, coast]) .slowed false
      simp only [beginTransmission_frame, motorTo_mdr, drs, srg, fmg]
      exact ⟨rfl, rfl, rfl, rfl, rfl⟩
  · have event (c : Instr) (f : State → State) (h : exec c s = .next (whilePowered f s)) :
        exec c s = .next (beginTransmission (f s)) := h.trans (congrArg Host.Outcome.next (whilePowered_on on))
    refine ⟨fun catching limit => ?_, fun catching timed => ?_, fun rests => ?_, fun coast pends => ⟨?_, ?_⟩,
      fun coast alone charge => ⟨?_, ?_⟩, fun coast alone qualify => ?_⟩
    · rw [event .catchLimitExpiry _ rfl, if_pos ⟨catching, limit⟩]
    · rw [event .catchCrossingTimeout _ rfl, if_pos ⟨catching, timed⟩]
      rfl
    · rw [event .rotorStopTimeout _ rfl, rotorStopped]
      obtain precheck | catching := rests
      · simp only [precheck]
      · simp only [catching]
    · rw [event .coastTimeout _ rfl, if_pos coast, coastEnd_eq, if_pos pends]
    · rw [event .rotorStopTimeout _ rfl, rotorStopped_coast coast, coastEnd_eq]
      simp [pends]
    · refine ⟨_, event .coastTimeout _ rfl, ?_⟩
      rw [if_pos coast, coastEnd_eq, if_neg (by simp [alone])]
      simpa using motorTo_off_quiet coast charge .coastTimeout
    · refine ⟨_, event .rotorStopTimeout _ rfl, ?_⟩
      rw [rotorStopped_coast coast, coastEnd_eq, if_neg (by simp [alone])]
      obtain ⟨srg, -, drs, -⟩ := motorTo_off_quiet (s := s.setMdr { s.mdr with quiet := true, speed := 0 }) coast
        charge .slowed
      simp only [beginTransmission_frame, motorTo_mdr, srg, drs]
      exact ⟨rfl, trivial, rfl⟩
    · intro parked
      refine ⟨⟨_, event .coastTimeout _ rfl, ?_⟩, ⟨_, event .rotorStopTimeout _ rfl, ?_⟩⟩
      · rw [if_pos coast, coastEnd_eq, if_neg (by simp [alone])]
        have judged := motorTo_off_judges qualify .coastTimeout
        simp only [parked, beginTransmission_frame, motorTo_mdr]
        exact ⟨rfl, judged⟩
      · rw [rotorStopped_coast coast, coastEnd_eq, if_neg (by simp [alone])]
        have judged := motorTo_off_judges (s := s.setMdr { s.mdr with quiet := true, speed := 0 }) qualify .slowed
        simp only [parked, beginTransmission_frame, motorTo_mdr]
        exact ⟨rfl, judged⟩

end Sys2Proof.Proofs

namespace Sys2Proof.Proofs

open Sys2Proof.Machine Sys2Proof.Safety

/-! ### Learning (R65 to R68) -/

theorem learnAdvance_eq (fresh : Bool) (x : Sample) (served : Nat) (e : Band) : learnAdvance fresh x served e =
    { e with
      advance := if fresh then served else if e.steps = 7 then advanceStep x.period x.offset served e else e.advance
      steps := if fresh then 1 else if e.steps = 7 then 0 else e.steps + 1 } := by
  have eighth : e.steps + 1 = 8 ↔ e.steps = 7 := by omega
  unfold learnAdvance
  simp only [eighth]
  repeat' split
  all_goals rfl

theorem learnValid_eq (e : Band) : learnValid e =
    { e with advValid := e.advValid || decide (32 ≤ e.samples)
             loadValid := e.loadValid || (decide (32 ≤ e.samples) && e.loadRef.isSome) } := by
  unfold learnValid
  split
  · next valid => simp [valid]
  · next few => simp [few]

/-- The load of a sample, taken where the dirt level lets it (R66). -/
theorem learnLoad_eq (clear : Bool) (im : Nat) (e : Band) : (if clear then learnLoad im e else e) =
    { e with
      loadRef := if clear then
          some (match e.loadRef with
            | none => min 40000 im
            | some r => clampNat 0 40000 ((r : Int) + (((min 40000 im : Nat) : Int) - r).tdiv 16))
        else e.loadRef } := by
  unfold learnLoad
  split
  · cases load : e.loadRef <;> rfl
  · rfl

/-- The steps of a learning are what the rules make of the entry (R66 to R68). -/
theorem learnEntry_eq (x : Sample) (served : Nat) (clear : Bool) (e : Band) :
    learnEntry x served clear e = learnedBand x served clear e := by
  unfold learnEntry learnedBand
  dsimp only
  rw [learnLoad_eq, learnAdvance_eq, learnValid_eq]
  simp only [decide_eq_true_eq]
  rfl

theorem learnSample_sbt {x : Sample} {s : State} (run : s.mdr.state = .run) : (learnSample x s).sbt =
    if x.onTarget = true ∧ s.blm.state = .normal ∧ s.sbt.mode ≠ .locked ∧ s.sbt.clearTimer = none then
      putBand s.sbt (bandIndex x.speed) (learnedBand x s.sbt.lastAdvance
        (decide (s.dse.level = .clean ∨ s.dse.level = .light)) (bandAt s.sbt (bandIndex x.speed)))
    else s.sbt := by
  have may : qualifies x s.mdr.state s.blm.state s.sbt = true ↔
      x.onTarget = true ∧ s.blm.state = .normal ∧ s.sbt.mode ≠ .locked ∧ s.sbt.clearTimer = none := by
    simp [qualifies, run, and_assoc]
  simp only [learnSample, may, learnEntry_eq, Bool.decide_or]
  split <;> rfl

/-! ### The judgement of a sample (R71 to R73) -/

/-- The load reference in the statement's words. -/
theorem loadReference_eq (t : Sbt) (speed : Nat) : loadReference t speed =
    if t.mode ≠ .off ∧ t.clearTimer = none ∧ (bandAt t (bandIndex speed)).loadValid = true then
      (bandAt t (bandIndex speed)).loadRef
    else none := by
  simp [loadReference, serves, and_assoc]

/-- A sample that meets the blockage condition against the reference served for it (R71). -/
def sampleLow (x : Sample) (reference : Option Nat) (ratio : Nat) : Bool :=
  reference.any fun l => x.onTarget && decide (x.im < l * ratio / 256)

/-- What is remembered of such a sample (R71). -/
def sampleHit (x : Sample) (reference : Option Nat) : Option BlockageHit :=
  reference.map fun l => { band := bandIndex x.speed, im := x.im, loadRef := l }

/-- A low sample has its reference, and hits. -/
theorem blockageHit_low {x : Sample} {reference : Option Nat} {ratio : Nat} (low : sampleLow x reference ratio = true) :
    ∃ h, blockageHit x reference .run ratio = some h ∧ sampleHit x reference = some h := by
  cases reference with
  | none => simp [sampleLow] at low
  | some l =>
    refine ⟨_, if_pos ?_, rfl⟩
    simpa [sampleLow] using low

theorem blockageHit_high {x : Sample} {reference : Option Nat} {ratio : Nat}
    (high : sampleLow x reference ratio = false) : blockageHit x reference .run ratio = none := by
  cases reference with
  | none => rfl
  | some l =>
    refine if_neg ?_
    simpa [sampleLow] using high

section
variable {x : Sample} {reference : Option Nat} {s : State}

theorem judgeSample_normal (run : s.mdr.state = .run) (normal : s.blm.state = .normal) :
    (judgeSample x reference s).blm = if sampleLow x reference s.blockPar.ratio then
        { s.blm with state := .suspect, blockTimer := some 0, normalTimer := none, lastHit := sampleHit x reference }
      else s.blm := by
  cases low : sampleLow x reference s.blockPar.ratio with
  | true =>
    obtain ⟨h, hits, hit⟩ := blockageHit_low low
    simp [judgeSample, normal, run, hits, hit, setBlockage]
  | false => simp [judgeSample, normal, run, blockageHit_high low]

theorem judgeSample_suspect (run : s.mdr.state = .run) (suspect : s.blm.state = .suspect) :
    (judgeSample x reference s).blm = if sampleLow x reference s.blockPar.ratio then
        { s.blm with lastHit := sampleHit x reference }
      else returnedNormal s.blm := by
  cases low : sampleLow x reference s.blockPar.ratio with
  | true =>
    obtain ⟨h, hits, hit⟩ := blockageHit_low low
    simp [judgeSample, suspect, run, hits, hit]
  | false => simp [judgeSample, suspect, run, blockageHit_high low, setBlockage]

/-- RETRYING with its target reached, by what the sample says (R73). -/
theorem judgeRetrying_eq (b : Blm) (ratio : Nat) : judgeRetrying (blockageHit x reference .run ratio) reference b =
    if sampleLow x reference ratio then
      { b with blockTimer := startIfStopped b.blockTimer, clearTimer := none, noRefTimer := none
               lastHit := sampleHit x reference }
    else if reference.isSome then
      { b with clearTimer := startIfStopped b.clearTimer, blockTimer := none, noRefTimer := none }
    else { b with noRefTimer := startIfStopped b.noRefTimer, blockTimer := none, clearTimer := none } := by
  cases low : sampleLow x reference ratio with
  | true =>
    obtain ⟨h, hits, hit⟩ := blockageHit_low low
    simp [judgeRetrying, hits, hit]
  | false => cases reference <;> simp [judgeRetrying, blockageHit_high low]

theorem judgeSample_retrying (run : s.mdr.state = .run) (retrying : s.blm.state = .retrying) :
    (judgeSample x reference s).blm =
      if s.blm.targetReached = false ∧ x.st ≠ s.drs.record.sReq then s.blm
      else judgeRetrying (blockageHit x reference .run s.blockPar.ratio) reference
        { s.blm with targetReached := true } := by
  unfold judgeSample
  rw [retrying, run]
  cases reached : s.blm.targetReached with
  | true =>
    have same : { s.blm with targetReached := true } = s.blm := by rw [← reached]
    rw [same, if_neg (by simp)]
    rfl
  | false =>
    by_cases target : x.st = s.drs.record.sReq
    · rw [if_neg (by simp [target])]
      exact congrArg State.blm (if_pos target)
    · rw [if_pos ⟨rfl, target⟩]
      exact congrArg State.blm (if_neg target)

theorem judgeSample_blocked (blocked : s.blm.state = .blocked) : judgeSample x reference s = s := by
  simp only [judgeSample, blocked]

end

/-! ### The sample's deliveries (R58, R64, R79, R159) -/

/-- The window's sum takes the speed of the sample (R79). -/
theorem dirtSample_dse (speed : Nat) (s : State) : (dirtSample speed s).dse = { s.dse with
    window := s.dse.window.map fun w => { w with speedSum := w.speedSum + speed, speedCount := w.speedCount + 1 } } := by
  unfold dirtSample
  cases window : s.dse.window with
  | none =>
    have same : { s.dse with window := none } = s.dse := by rw [← window]
    exact same.symm
  | some w => rfl

/-- What a sample leaves of the four blocks it is delivered to. -/
theorem deliverSample_blocks (x : Sample) (s : State) :
    (deliverSample x s).sbt = (learnSample x s).sbt ∧
    (deliverSample x s).blm = (judgeSample x (loadReference s.sbt x.speed) (learnSample x s)).blm ∧
    (deliverSample x s).dse = (dirtSample x.speed s).dse ∧
    (deliverSample x s).icn.counters = (countEvents ((.runTime, .ticks x.period) ::
      (if 0 < s.drs.record.boost then [(.boostTime, .ticks x.period)] else [])) s).icn.counters := by
  have counted := countEvents_alike ((.runTime, .ticks x.period) ::
    (if 0 < s.drs.record.boost then [(.boostTime, .ticks x.period)] else []))
    (dirtSample x.speed (judgeSample x (loadReference s.sbt x.speed) (learnSample x s))) s (by simp)
  simp only [deliverSample, decide_eq_true_eq, dirtSample_dse, countEvents_frame, dirtSample_frame, judgeSample_frame,
    learnSample_frame]
  exact ⟨trivial, trivial, trivial, counted⟩

end Sys2Proof.Proofs

namespace Sys2Proof.Proofs

open Sys2Proof.Machine Sys2Proof.Safety

/-! ### Commutations (R26, R28, R46) -/

/-- In HANDOVER the speed follows the periods (R26). -/
theorem commutate_handover {s : State} (handover : s.mdr.state = .handover) (period : Nat) (im : Int) :
    commutate period im s = s.setMdr
      { s.mdr with
        sector := (s.mdr.sector + 1) % 6, gates := some ((s.mdr.sector + 1) % 6), ts := period
        periods := appendPeriod period s.mdr.periods, seen := false, windowShut := false, schedule := none
        blankFrac := s.motorPar.blankFrac, speed := listSpeed (appendPeriod period s.mdr.periods) } := by
  simp [commutate, commutated, listReported, handover]

/-- The sixth commutation in RUN ends a revolution. -/
theorem commutate_revolution {s : State} (run : s.mdr.state = .run) (sixth : 5 ≤ s.mdr.revCount) (period : Nat)
    (im : Int) : commutate period im s = revolutionEnd im (s.setMdr
      { commutated s.motorPar.blankFrac period s.mdr with revCount := s.mdr.revCount + 1 }) := by
  have full : 6 ≤ s.mdr.revCount + 1 := by omega
  exact (if_pos run).trans (if_pos full)

/-- The regulator at a revolution end (R46, R47). -/
def turnedSrg (speed im : Nat) (s : State) : Srg :=
  if s.drs.record.runDemand then regulated s speed im else s.srg

/-- The sample of a revolution end (R57). -/
def turnedSample (im : Int) (s : State) : Sample :=
  sampleOf (turnedSrg (speedOfSum s.mdr.periods.sum) (measuredIm im) s).st (speedOfSum s.mdr.periods.sum)
    s.mdr.periods.sum (measuredIm im) (crossingOffset s.mdr)

/-- The part with the sample taken, before it is delivered. -/
def turned (im : Int) (s : State) : State :=
  (s.setSrg { turnedSrg (speedOfSum s.mdr.periods.sum) (measuredIm im) s with sample := some (turnedSample im s) }).setMdr
    { s.mdr with speed := speedOfSum s.mdr.periods.sum, revCount := 0, offsetSum := 0, offsetCount := 0 }

theorem revolutionEnd_eq (im : Int) (s : State) : revolutionEnd im s = deliverSample (turnedSample im s) (turned im s) :=
  rfl

/-- The Blockage Monitor after a sample of a running motor, by its state (R71 to R73). -/
def sampledBlm (x : Sample) (reference : Option Nat) (ratio sReq : Nat) (b : Blm) : Blm :=
  match b.state with
  | .normal => if sampleLow x reference ratio then
      { b with state := .suspect, blockTimer := some 0, normalTimer := none, lastHit := sampleHit x reference }
    else b
  | .suspect => if sampleLow x reference ratio then { b with lastHit := sampleHit x reference } else returnedNormal b
  | .blocked => b
  | .retrying => if b.targetReached = false ∧ x.st ≠ sReq then b
    else judgeRetrying (blockageHit x reference .run ratio) reference { b with targetReached := true }

theorem judgeSample_blm {x : Sample} {reference : Option Nat} {s : State} (run : s.mdr.state = .run) :
    (judgeSample x reference s).blm = sampledBlm x reference s.blockPar.ratio s.drs.record.sReq s.blm := by
  unfold sampledBlm
  split
  · next normal => exact judgeSample_normal run normal
  · next suspect => exact judgeSample_suspect run suspect
  · next blocked => rw [judgeSample_blocked blocked]
  · next retrying => exact judgeSample_retrying run retrying

/-- A revolution end of a running motor, by what it leaves of each block. -/
theorem revolution_delivered {im : Int} {s : State} (run : s.mdr.state = .run) :
    let t := beginTransmission (deliverSample (turnedSample im s) (turned im s))
    let x := turnedSample im s
    t.srg = (turned im s).srg ∧ t.mdr = (turned im s).mdr ∧
    t.sbt = (if x.onTarget = true ∧ s.blm.state = .normal ∧ s.sbt.mode ≠ .locked ∧ s.sbt.clearTimer = none then
        putBand s.sbt (bandIndex x.speed) (learnedBand x s.sbt.lastAdvance
          (decide (s.dse.level = .clean ∨ s.dse.level = .light)) (bandAt s.sbt (bandIndex x.speed)))
      else s.sbt) ∧
    t.icn.counters = (countEvents ((.runTime, .ticks x.period) ::
      (if 0 < s.drs.record.boost then [(.boostTime, .ticks x.period)] else [])) s).icn.counters ∧
    t.blm = sampledBlm x (loadReference s.sbt x.speed) s.blockPar.ratio s.drs.record.sReq s.blm ∧
    t.dse = { s.dse with
      window := s.dse.window.map fun w => { w with speedSum := w.speedSum + x.speed, speedCount := w.speedCount + 1 } } ∧
    t.trg = s.trg ∧ t.chc = s.chc ∧ t.pkm = s.pkm ∧ t.gge = s.gge ∧ t.dlk = s.dlk ∧ t.fmg = s.fmg ∧ ParamsKept s t := by
  intro t x
  obtain ⟨sbt, blm, dse, counters⟩ := deliverSample_blocks x (turned im s)
  have going : (turned im s).mdr.state = .run := run
  have frame : (turned im s).sbt = s.sbt ∧ (turned im s).blm = s.blm ∧ (turned im s).dse = s.dse ∧
      (turned im s).drs = s.drs ∧ (turned im s).blockPar = s.blockPar := ⟨rfl, rfl, rfl, rfl, rfl⟩
  obtain ⟨tsbt, tblm, tdse, tdrs, tpar⟩ := frame
  have counted := countEvents_alike ((.runTime, .ticks x.period) ::
    (if 0 < s.drs.record.boost then [(.boostTime, .ticks x.period)] else [])) (turned im s) s rfl
  rw [learnSample_sbt going, tsbt, tblm, tdse] at sbt
  rw [judgeSample_blm (by simpa using going)] at blm
  simp only [learnSample_frame, tsbt, tblm, tdrs, tpar] at blm
  rw [dirtSample_dse, tdse] at dse
  rw [tdrs, counted] at counters
  simp only [t, beginTransmission_frame, beginTransmission_port, deliverSample_frame, ParamsKept]
  exact ⟨trivial, trivial, sbt, counters, blm, dse, rfl, rfl, rfl, rfl, rfl, rfl, rfl, rfl, rfl, rfl, rfl, rfl⟩

/-- Settles O33: a commutation by the state, and a revolution end by the four blocks its sample reaches. -/
theorem commutationSteps : Obligations.CommutationSteps := by
  intro im p s on scheduled next m
  have steps : exec (.commutation im) s = .next (beginTransmission (scheduledCommutation im s)) :=
    congrArg Host.Outcome.next (whilePowered_on on)
  have driven (h : s.mdr.state = .handover ∨ s.mdr.state = .run) : scheduledCommutation im s = commutate p im s := by
    simp only [scheduledCommutation, if_pos h, scheduled]
  refine ⟨fun handover => ?_, fun run few => ?_, fun run sixth => ?_, fun handover run => ?_⟩
  · rw [steps, driven (.inl handover), commutate_handover handover]
  · rw [steps, driven (.inr run), commutate_within run few, commutated_run run]
  · refine ⟨_, steps, ?_⟩
    let u := s.setMdr { m with revCount := s.mdr.revCount + 1 }
    have ends : scheduledCommutation im s = deliverSample (turnedSample im u) (turned im u) := by
      rw [driven (.inr run), commutate_revolution run sixth, commutated_run run]
      rfl
    rw [ends]
    obtain ⟨srg, mdr, sbt, counters, blm, dse, frame⟩ := revolution_delivered (im := im) (s := u) run
    have counted := countEvents_alike ((.runTime, .ticks (turnedSample im u).period) ::
      (if 0 < s.drs.record.boost then [(.boostTime, .ticks (turnedSample im u).period)] else [])) u s rfl
    refine ⟨srg, mdr, ⟨sbt, counters.trans counted, blm.trans ?_, dse⟩, frame⟩
    rw [loadReference_eq]
    unfold sampledBlm
    rw [judgeRetrying_eq]
    rfl
  · rw [steps, scheduledCommutation, if_neg (by simp [handover, run])]

end Sys2Proof.Proofs

namespace Sys2Proof.Proofs

open Sys2Proof.Machine Sys2Proof.Safety

/-! ### A crossing in a driven sector (R26, R28, R63) -/

/-- The open window of a sector, condition by condition (R26). -/
theorem inWindow_eq (m : Mdr) (phase : Phase) (rising : Bool) (t d : Nat) : inWindow m phase rising t d =
    decide ((phase, rising) = expectedCrossing m.sector ∧ m.windowShut = false ∧ m.ts * m.blankFrac / 256 ≤ t ∧ d ≤ t ∧
      t ≤ m.ts * 3 / 2) := by
  rw [Bool.eq_iff_iff]
  simp [inWindow, windowCloseTime, and_assoc]
  intro _ _ _ _
  exact decide_eq_true_iff

/-- The advance served at a crossing: the band's own, where the table serves and holds one (R63). -/
theorem advanceFor_eq {s : State} {speed : Nat} {b : Band}
    (own : bandAt s.sbt (min 15 ((speed - 20000) / 6000)) = b) : advanceFor s speed =
      if s.sbt.mode ≠ .off ∧ s.sbt.clearTimer = none ∧ b.advValid = true then b.advance
      else s.motorPar.fixedAdvance := by
  simp [advanceFor, serves, bandIndex, own, and_assoc]

theorem listSpeed_eq (l : List Nat) :
    listSpeed l = speedOfSum (if l.length < 6 then l.sum * 6 / l.length else l.sum) := by
  unfold listSpeed
  split <;> rfl

/-- A crossing seen, with the advance looked up (R26 to R28). -/
theorem scheduleCrossing_eq (t d : Nat) (s : State) : scheduleCrossing t d s =
    (s.setSbt { s.sbt with lastAdvance := advanceFor s (listSpeed s.mdr.periods) }).setMdr { s.mdr with
      seen := true, windowShut := true, misses := 0
      offsetSum := s.mdr.offsetSum + (((t : Int) - ((s.mdr.ts / 2 : Nat) : Int)) - d)
      offsetCount := s.mdr.offsetCount + 1
      schedule := some (t + s.mdr.ts * (60 - advanceFor s (listSpeed s.mdr.periods)) / 120) } := rfl

section
variable {phase : Phase} {rising : Bool} {t d : Nat} {s : State}

/-- A crossing outside the open window of a driven sector is ignored. -/
theorem crossing_shut (driven : s.mdr.state = .run ∨ s.mdr.state = .handover ∨ s.mdr.state = .ramp)
    (shut : inWindow s.mdr phase rising t d = false) : crossing phase rising t d s = s := by
  obtain h | h | h := driven <;> simp [crossing, h, shut]

theorem crossing_run (h : s.mdr.state = .run) (seen : inWindow s.mdr phase rising t d = true) :
    crossing phase rising t d s = scheduleCrossing t d s := by simp [crossing, h, seen]

theorem crossing_handover (h : s.mdr.state = .handover) (seen : inWindow s.mdr phase rising t d = true) :
    crossing phase rising t d s = handoverCrossing t d s := by simp [crossing, h, seen]

theorem crossing_ramp (h : s.mdr.state = .ramp) (seen : inWindow s.mdr phase rising t d = true)
    (second : s.mdr.rampFirst = false) : crossing phase rising t d s = rampCrossing t d s := by
  simp [crossing, h, seen, second]

/-- A crossing of RAMP that is counted and no more. -/
theorem rampCrossing_counts (few : ¬ (11 ≤ s.mdr.crossings ∧ s.motorPar.handoverSpeed ≤ rampSpeed s.mdr.rampInc)) :
    rampCrossing t d s = s.setMdr
      { s.mdr with seen := true, windowShut := true, crossings := min 12 (s.mdr.crossings + 1) } := by
  refine if_neg fun h => few ⟨?_, h.2⟩
  have := h.1
  omega

/-- The twelfth, at handover_speed (R34). -/
theorem rampCrossing_enters (twelfth : 11 ≤ s.mdr.crossings)
    (fast : s.motorPar.handoverSpeed ≤ rampSpeed s.mdr.rampInc) : rampCrossing t d s = enterHandover t d
      (s.setMdr { s.mdr with seen := true, windowShut := true, crossings := min 12 (s.mdr.crossings + 1) }) :=
  if_pos ⟨by omega, fast⟩

/-- A crossing of HANDOVER before the sixth (R35). -/
theorem handoverCrossing_counts (few : ¬ 6 ≤ s.mdr.handoverCount + 1) : handoverCrossing t d s =
    scheduleCrossing t d (s.setMdr { s.mdr with handoverCount := s.mdr.handoverCount + 1 }) :=
  congrArg (scheduleCrossing t d) (if_neg few)

/-- The sixth crossing of HANDOVER enters RUN (R35). -/
theorem handoverCrossing_enters (sixth : 6 ≤ s.mdr.handoverCount + 1) : handoverCrossing t d s =
    scheduleCrossing t d (enterRun (s.setMdr { s.mdr with handoverCount := s.mdr.handoverCount + 1 })) :=
  congrArg (scheduleCrossing t d) (if_pos sixth)

/-- The twelfth crossing of CATCH enters RUN (R37). -/
theorem catchCrossing_enters {sector : Nat} (turn : InTurn sector s.mdr) (early : catchLate t s.mdr = false)
    (many : 11 ≤ s.mdr.crossings) : catchCrossing sector t s =
      enterRunCaught (s.setMdr { inSequence sector t s.mdr with catchLimit := none }) := by
  have counted : observeCrossing sector t s.mdr = inSequence sector t s.mdr := by
    simp only [observeCrossing, sequenceKind_next turn]
  have twelfth : (inSequence sector t s.mdr).crossings = 12 := by
    simp only [inSequence]
    omega
  have limit : (if 6 ≤ (inSequence sector t s.mdr).crossings then none else (inSequence sector t s.mdr).catchLimit) =
      none := if_pos (by omega)
  rw [catchCrossing, if_neg turn.placed, if_neg (by simp [early])]
  simp only [counted]
  rw [if_pos (by omega), limit]

/-- The seed, the sector and the first driven commutation of a catch (R37, R56). -/
theorem enterRunCaught_eq {sector : Nat} (m : Mdr) (named : m.lastNamed = some sector)
    (interval : m.lastInterval = some t) : enterRunCaught (s.setMdr m) =
      scheduleCrossing (Config.catchCrossingTime t) (Config.catchDemagnetisation t) (enterRun
        (((s.setMdr m).setSrg (seedCatch (speedOfSum m.periods.sum) s.motorPar.kvDuty s.srg)).setMdr
          { m with sector := sector, ts := t })) := by
  simp [enterRunCaught, named, interval]

end

/-! ### The entries to HANDOVER and to RUN (R34, R35, R37) -/

theorem enterHandover_enters {s : State} (ramp : s.mdr.state = .ramp) (t d : Nat) :
    let x := enterHandover t d s
    x.mdr.state = .handover ∧ x.mdr.handoverCount = 1 ∧ x.mdr.schedule.isSome = true ∧
      x.srg = seedHandover s.motorPar.rampDuty s.mdr.periods.sum s.srg ∧ x.drs = s.drs ∧ x.fmg = s.fmg := by
  obtain ⟨-, drs, srg, -, -, -, -, -, -, fmg, params, -⟩ :=
    motorTo_between_frame (new := .handover) rfl (s := s) (by simp [ramp]) .locked false
  obtain ⟨par, -⟩ := params
  simp only [enterHandover, scheduleCrossing_eq, State.setMdr_mdr, State.setSrg_mdr, motorTo_mdr, par, srg, drs, fmg,
    State.setMdr_srg, State.setMdr_drs, State.setMdr_fmg, State.setSbt_srg, State.setSbt_drs, State.setSbt_fmg,
    State.setSrg_srg, State.setSrg_drs, State.setSrg_fmg]
  exact ⟨rfl, rfl, rfl, rfl, trivial, trivial⟩

/-- The window an entry to RUN begins (R76). -/
theorem dirtEnterRun_begins (s : State) : (dirtEnterRun s).dse.window.map (fun w => (w.timer, w.length)) =
    some (0, s.dirtPar.window) := by
  unfold dirtEnterRun beginWindow
  split <;> rfl

/-- What the entry to RUN leaves of each block (R23, R55, R56, R74, R76, R159). -/
theorem motorTo_run (s : State) (cause : MotorCause) :
    let x := motorTo .run cause false s
    x.srg = { s.srg with dc := 4095 } ∧ x.blm.normalTimer = some 0 ∧
      x.dse.window.map (fun w => (w.timer, w.length)) = some (0, s.dirtPar.window) ∧
      x.icn.counters = (countEvent .starts (.units 1) s).icn.counters ∧ x.drs = s.drs ∧ x.fmg = s.fmg ∧
      x.gge = s.gge ∧ ParamsKept s x := by
  obtain ⟨-, -, -, fmg, -⟩ := motorTo_moving (new := .run) rfl cause false s
  have judge (t : State) (k : t.mdr.state = .run) : judgeQualify (deliverPkm .run t) = chooseInterval t := by
    rw [judgeQualify_moving (by simp [k, motorParked])]
    simp [deliverPkm]
  refine ⟨?srg, ?blm, ?dse, ?icn, ?drs, fmg, by simp, by simp [ParamsKept]⟩
  all_goals
    simp only [motorTo, deliverDrs_of_ne (by simp : MotorState.run ≠ .tripped)]
    rw [judge _ (by simp)]
  case srg => simp [deliverSrg]
  case blm => simp [deliverBlm, blockageEnterRun]
  case dse =>
    simp only [deliverSlc_frame, deliverIcn_frame, chooseInterval_frame]
    exact (dirtEnterRun_begins _).trans (by simp)
  case icn =>
    simp only [deliverSlc_frame]
    exact countEvents_alike _ _ _ (by
      simp [deliverDse, deliverBlm, blockageEnterRun])
  case drs => simp [deliverDse, deliverBlm, blockageEnterRun]

/-- A state that entered RUN from `s` with a crossing seen. -/
def InRun (s x : State) : Prop :=
  x.mdr.state = .run ∧ x.mdr.attempts = 0 ∧ x.mdr.seen = true ∧ x.mdr.schedule.isSome = true ∧ x.srg.dc = 4095 ∧
    x.blm.normalTimer = some 0 ∧ x.dse.window.map (fun w => (w.timer, w.length)) = some (0, s.dirtPar.window) ∧
    x.icn.counters = (countEvent .starts (.units 1) s).icn.counters ∧
    x.drs = s.drs ∧ x.fmg = s.fmg ∧ x.gge = s.gge ∧ ParamsKept s x

/-- The entry to RUN, with the crossing that made it scheduled. -/
theorem enterRun_enters (t d : Nat) (s : State) :
    let x := beginTransmission (scheduleCrossing t d (enterRun s))
    InRun s x ∧ x.srg = { s.srg with dc := 4095 } ∧ x.mdr.sector = s.mdr.sector := by
  obtain ⟨srg, blm, dse, icn, drs, fmg, gge, params⟩ := motorTo_run s .inStep
  simp only [ParamsKept] at params
  simp only [InRun, ParamsKept, beginTransmission_frame, scheduleCrossing_eq, enterRun]
  simp [srg, blm, dse, drs, fmg, enteredMdr]
  exact icn

/-- The motor and the regulator play no part in what an entry to RUN counts and keeps. -/
theorem InRun.seeded {s u x : State} (h : InRun u x) (counters : u.icn.counters = s.icn.counters) (drs : u.drs = s.drs)
    (fmg : u.fmg = s.fmg) (gge : u.gge = s.gge) (params : ParamsKept s u) : InRun s x := by
  have alike := countEvents_alike [(.starts, .units 1)] u s counters
  obtain ⟨motor, block, pack, charge, dirt, idle⟩ := params
  simp only [InRun, ParamsKept, countEvent, drs, fmg, gge, alike, motor, block, pack, charge, dirt, idle] at h ⊢
  exact h

/-- The entry to RUN from CATCH (R37, R56). -/
theorem enterRunCaught_enters {sector t : Nat} {m : Mdr} (named : m.lastNamed = some sector)
    (interval : m.lastInterval = some t) (s : State) :
    let x := beginTransmission (enterRunCaught (s.setMdr m))
    let speed := speedOfSum m.periods.sum
    InRun s x ∧ x.srg.st = speed ∧ x.srg.duty = catchDuty speed s.motorPar.kvDuty ∧
      x.srg.acc = catchDuty speed s.motorPar.kvDuty * 1024 ∧ x.mdr.sector = sector := by
  have seeded := enterRun_enters (Config.catchCrossingTime t) (Config.catchDemagnetisation t)
    (((s.setMdr m).setSrg (seedCatch (speedOfSum m.periods.sum) s.motorPar.kvDuty s.srg)).setMdr
      { m with sector := sector, ts := t })
  rw [← enterRunCaught_eq m named interval] at seeded
  obtain ⟨inRun, srg, place⟩ := seeded
  exact ⟨inRun.seeded rfl rfl rfl rfl (by simp [ParamsKept]), congrArg Srg.st srg, congrArg Srg.duty srg, congrArg Srg.acc srg, place⟩

/-- The entry to RUN from HANDOVER (R35). -/
theorem handoverCrossing_enters_run {s : State} (sixth : 6 ≤ s.mdr.handoverCount + 1) (t d : Nat) :
    let x := beginTransmission (handoverCrossing t d s)
    InRun s x ∧ x.srg.st = s.srg.st ∧ x.srg.acc = s.srg.acc := by
  have entered := enterRun_enters t d (s.setMdr { s.mdr with handoverCount := s.mdr.handoverCount + 1 })
  rw [← handoverCrossing_enters sixth] at entered
  obtain ⟨inRun, srg, -⟩ := entered
  exact ⟨inRun.seeded rfl rfl rfl rfl (by simp [ParamsKept]), (congrArg Srg.st srg :), (congrArg Srg.acc srg :)⟩

/-- Settles O32: a crossing of a driven sector, by the motor's state, and the two entries to RUN. -/
theorem drivenCrossings : Obligations.DrivenCrossings := by
  unfold Obligations.DrivenCrossings
  intro phase rising t d s
  refine ⟨?part1, ?part2⟩
  case part1 =>
    intro on
    have taken : exec (.bemfCrossing phase rising t d) s = .next (beginTransmission (crossing phase rising t d s)) :=
      congrArg Host.Outcome.next (whilePowered_on on)
    have isWindow := inWindow_eq s.mdr phase rising t d
    intro m expected window sum entry adv
    have opened : inWindow s.mdr phase rising t d = window := isWindow
    have served : advanceFor s (listSpeed s.mdr.periods) = adv := by rw [listSpeed_eq]; exact advanceFor_eq rfl
    refine ⟨fun driven shut => ?_, fun run seen => ?_, fun ramp second seen few => ?_,
      fun ramp second seen many slow => ?_, fun handover seen few => ?_, fun ramp second seen many fast => ?_⟩
    · rw [taken, crossing_shut driven (opened.trans shut)]
    · rw [taken, crossing_run run (opened.trans seen), scheduleCrossing_eq, served]
    · have kept : min 12 (s.mdr.crossings + 1) = s.mdr.crossings + 1 := by omega
      rw [taken, crossing_ramp ramp (opened.trans seen) second, rampCrossing_counts (by omega), kept]
    · have kept : min 12 (s.mdr.crossings + 1) = 12 := by omega
      rw [taken, crossing_ramp ramp (opened.trans seen) second, rampCrossing_counts (by omega), kept]
    · have notSixth : ¬ 6 ≤ s.mdr.handoverCount + 1 := by omega
      rw [taken, crossing_handover handover (opened.trans seen)]
      rw [handoverCrossing_counts notSixth, scheduleCrossing_eq, ← served]
      rfl
    · refine ⟨_, taken, ?_⟩
      rw [crossing_ramp ramp (opened.trans seen) second, rampCrossing_enters many fast]
      simp only [beginTransmission_frame]
      exact enterHandover_enters (by exact ramp) t d
  case part2 =>
    intro on
    have taken : exec (.bemfCrossing phase rising t d) s = .next (beginTransmission (crossing phase rising t d s)) :=
      congrArg Host.Outcome.next (whilePowered_on on)
    intro sector speed duty entered
    refine ⟨fun handover seen many => ⟨_, taken, ?_⟩, fun catching turn early many => ⟨_, taken, ?_⟩⟩
    · rw [crossing_handover handover seen]
      exact handoverCrossing_enters_run (by omega) t d
    · rw [crossing_catching catching, catchCrossing_enters turn early many]
      exact enterRunCaught_enters rfl rfl _

end Sys2Proof.Proofs

namespace Sys2Proof.Proofs

open Sys2Proof.Machine Sys2Proof.Safety

/-! ### The records of a scan (R98, R101, R102) -/

/-- A voltage taken, with its extremes. -/
theorem takeVoltage_eq (c : CellRecord) (v : Nat) : takeVoltage c v =
    { c with mv := some v, min := some (min (c.min.getD v) v), max := some (max ((c.min.bind fun _ => c.max).getD v) v) } := by
  cases least : c.min <;> cases most : c.max <;> simp [takeVoltage, least, most]

/-- The moved counts and flags of a record are those of the statement. -/
theorem moveCounts_takeVoltage (p : PackPar) (c : CellRecord) (v : Int) :
    moveCounts p (takeVoltage c (measuredMv v)) = scannedCell p c v := by
  rw [takeVoltage_eq]
  rfl

theorem recordCells_pkm (r : ScanReading) (s : State) :
    (recordCells r s).pkm = { s.pkm with cells := scannedCells r s } := by
  simp [recordCells, moveCounts_takeVoltage, scannedCells]

/-- The voltages of the records after a scan. -/
theorem scannedCells_mv (r : ScanReading) (s : State) :
    (scannedCells r s).map (·.mv) = r.cells.map fun v => some (clampNat 0 5000 v) := rfl

/-- A mark that no record of a list carries. -/
theorem scannedCells_unmarked {r : ScanReading} {s : State} {mark : CellRecord → Bool}
    (h : ∀ c v, v ∈ r.cells.toList → mark (scannedCell s.packPar c v) = false) :
    (scannedCells r s).toList.any mark = false := by
  simp only [Seven.toList, List.mem_cons, List.not_mem_nil, or_false, forall_eq_or_imp, forall_eq] at h
  simp [scannedCells, Seven.zipWith, Seven.toList, h]

/-- A record whose voltage stands at deep_uv or above carries no deep flag (R102). -/
theorem scannedCell_shallow {p : PackPar} {v : Int} (c : CellRecord) (h : p.deepUv ≤ clampNat 0 5000 v) :
    (scannedCell p c v).deep = false := by
  have shallow : ¬ clampNat 0 5000 v < p.deepUv := by omega
  simp [scannedCell, shallow]

/-- A record that carries a UV flag stands below cell_uv (R102). -/
theorem scannedCell_low {p : PackPar} {c : CellRecord} {v : Int} (h : (scannedCell p c v).uv = true) :
    clampNat 0 5000 v < p.cellUv := by
  by_contra shallow
  simp [scannedCell, shallow] at h

/-! ### What the records say, whatever bleeds -/

@[simp] theorem vmin_measured (p : Pkm) : vmin (measured p) = vmin p := rfl

@[simp] theorem meanMv_measured (p : Pkm) : meanMv (measured p) = meanMv p := rfl

theorem cells_any_measured {mark : CellRecord → Bool} (h : ∀ c, mark { c with bleeding := false } = mark c) (p : Pkm) :
    (measured p).cells.toList.any mark = p.cells.toList.any mark := by
  simp [measured, Seven.map, Seven.toList, h]

end Sys2Proof.Proofs

namespace Sys2Proof.Proofs

open Sys2Proof.Machine Sys2Proof.Safety

/-! ### The steps of a scan end measure nothing (R100) -/

theorem measured_motorTo_moving {new : MotorState} (h : new ≠ .off) (cause : MotorCause) (pend : Bool) (s : State) :
    measured (motorTo new cause pend s).pkm = measured s.pkm := by
  rw [measured_motorTo, if_neg h]

@[simp] theorem measured_raiseStop (k : FaultKind) (d : Detail) (s : State) :
    measured (raiseStop k d s).pkm = measured s.pkm := by
  unfold raiseStop applyStop trip
  split <;> simp [measured_motorTo_moving]

@[simp] theorem measured_judgePackHot (s : State) : measured (judgePackHot s).pkm = measured s.pkm := by
  unfold judgePackHot
  repeat' split
  all_goals simp

@[simp] theorem measured_demandRefresh (s : State) : measured (demandRefresh s).pkm = measured s.pkm := by
  unfold demandRefresh demandRise demandFall
  dsimp only
  repeat' split
  all_goals simp [measured_motorTo_moving, evaluateAs]

@[simp] theorem measured_forcedStop (s : State) : measured (forcedStop s).pkm = measured s.pkm := by
  simp [forcedStop, clearClaims]

@[simp] theorem measured_enterCutoff (s : State) : measured (enterCutoff s).pkm = measured s.pkm := by
  simp [enterCutoff]

@[simp] theorem measured_ovEvent (cell : Nat) (s : State) : measured (ovEvent cell s).pkm = measured s.pkm := by
  unfold ovEvent
  dsimp only
  split <;> simp

@[simp] theorem measured_ovEvents (l : List Nat) (s : State) :
    measured (l.foldl (fun s i => ovEvent i s) s).pkm = measured s.pkm := by
  induction l generalizing s with
  | nil => rfl
  | cons cell l ih => simp [ih]

@[simp] theorem measured_judgeRelease (s : State) : measured (judgeRelease s).pkm = measured s.pkm := by
  unfold judgeRelease
  split <;> simp

@[simp] theorem measured_judgePackState (s : State) : measured (judgePackState s).pkm = measured s.pkm := by
  unfold judgePackState
  dsimp only
  repeat' split
  all_goals simp

@[simp] theorem measured_precheckDecide (t : Int) (s : State) : measured (precheckDecide t s).pkm = measured s.pkm := by
  unfold precheckDecide
  repeat' split
  all_goals simp [measured_motorTo_moving]

@[simp] theorem measured_deliverTInv (t : Int) (s : State) : measured (deliverTInv t s).pkm = measured s.pkm := by
  unfold deliverTInv
  dsimp only
  repeat' split
  all_goals simp

@[simp] theorem measured_handBleed (set : Seven Bool) (s : State) : measured (handBleed set s).pkm = measured s.pkm := by
  simp [handBleed]

@[simp] theorem measured_enterSuspend (temp : Bool) (s : State) : measured (enterSuspend temp s).pkm = measured s.pkm := by
  simp [enterSuspend]

@[simp] theorem measured_enterDone (cause : ChargeCause) (s : State) : measured (enterDone cause s).pkm = measured s.pkm := by
  simp [enterDone]

@[simp] theorem measured_resumeIfClear (s : State) : measured (resumeIfClear s).pkm = measured s.pkm := by
  unfold resumeIfClear
  split <;> simp

@[simp] theorem measured_stageTest (i : Int) (s : State) : measured (stageTest i s).pkm = measured s.pkm := by
  unfold stageTest
  dsimp only
  repeat' split
  all_goals simp

@[simp] theorem measured_suspendStep (s : State) : measured (suspendStep s).pkm = measured s.pkm := by
  simp [suspendStep]

@[simp] theorem measured_stateStep (i : Int) (s : State) : measured (stateStep i s).pkm = measured s.pkm := by
  unfold stateStep cvStep balanceStep
  dsimp only
  repeat' split
  all_goals simp

@[simp] theorem measured_chargeScan (s : State) : measured (chargeScan s).pkm = measured s.pkm := by
  unfold chargeScan
  dsimp only
  repeat' split
  all_goals simp

@[simp] theorem measured_deliverScan (s : State) :
    measured (deliverScan s).pkm = { measured s.pkm with scanned := true } := by
  simp [deliverScan]
  rfl

end Sys2Proof.Proofs

namespace Sys2Proof.Proofs

open Sys2Proof.Machine Sys2Proof.Safety

/-! ### The stages of a scan end (R100) -/

/-- The scan has closed, its switches with it (R98, log 25). -/
def scanClosed (sc : Scan) (s : State) : State :=
  s.setPkm { s.pkm with scan := none, switches := if sc.measuring then s.pkm.bleedSet else s.pkm.switches }

/-- The deep-UV flags ask for SHIP (R105). -/
def deepAsks (s : State) : Bool :=
  s.pkm.cells.toList.any (·.deep) && decide (s.dlk.state = .absent) && !s.pkm.deepPending

/-- The cells' protections but for the SHIP request: CUTOFF and the OV flags (R103, R106). -/
def cellsProtected (before : Pkm) (s : State) : State :=
  (newOv before (if cutoffDue s then enterCutoff s else s).pkm).foldl (fun s i => ovEvent i s)
    (if cutoffDue s then enterCutoff s else s)

theorem protectCells_eq (before : Pkm) (s : State) : protectCells before s =
    ((judgeDeepUv (cellsProtected before s)).1, cutoffDue s, deepAsks (cellsProtected before s)) := rfl

/-- What an ON scan measures, with PACK_HOT judged. -/
def hotJudged (r : ScanReading) (s : State) : State := judgePackHot (recordOthers r (recordCells r s))

/-- The pack state of an ON scan judged (R100, step 3). -/
def packJudged (r : ScanReading) (s : State) : State :=
  judgePackState (judgeRelease (judgeDeepUv (cellsProtected s.pkm (hotJudged r s))).1)

/-- The allowances and the gauge moved (R100, steps 4 and 5). -/
def gaugeMoved (sc : Scan) (r : ScanReading) (s : State) : State :=
  gaugeStep sc (cutoffDue (hotJudged r s)) (moveAllowances sc (packJudged r s))

theorem onScanEnd_eq (sc : Scan) (r : ScanReading) (s : State) : onScanEnd sc r s =
    if deepAsks (cellsProtected s.pkm (hotJudged r s)) then shipEntry (deliverScan (gaugeMoved sc r s))
    else deliverScan (gaugeMoved sc r s) := rfl

theorem watchScanEnd_eq (r : ScanReading) (s : State) : watchScanEnd r s =
    if deepAsks (cellsProtected s.pkm (recordCells r s)) then
      shipEntry (judgeRelease (judgeDeepUv (cellsProtected s.pkm (recordCells r s))).1)
    else judgeRelease (judgeDeepUv (cellsProtected s.pkm (recordCells r s))).1 := rfl

theorem scanEnd_begun {sc : Scan} {s : State} (begun : s.pkm.scan = some sc) (r : ScanReading) : scanEnd r s =
    demandRefresh (if sc.watch then watchScanEnd r (scanClosed sc s) else onScanEnd sc r (scanClosed sc s)) := by
  simp only [scanEnd, begun, Option.getD_some, scanClosed]

@[simp] theorem measured_cellsProtected (before : Pkm) (s : State) :
    measured (cellsProtected before s).pkm = measured s.pkm := by
  unfold cellsProtected
  split <;> simp

@[simp] theorem judgeDeepUv_pkm (s : State) : (judgeDeepUv s).1.pkm = { s.pkm with
    deepPending := if s.pkm.cells.toList.any (·.deep) then s.pkm.deepPending || deepAsks s else false } := rfl

/-- The deep flags of a state are those of its measurements. -/
theorem anyDeep_measured {p q : Pkm} (h : measured p = measured q) :
    p.cells.toList.any (·.deep) = q.cells.toList.any (·.deep) := by
  have deep (x : Pkm) := cells_any_measured (mark := (·.deep)) (fun _ => rfl) x
  rw [← deep p, h, deep q]

theorem hotJudged_measured (r : ScanReading) (s : State) :
    measured (hotJudged r s).pkm = measured (recordOthers r (recordCells r s)).pkm := measured_judgePackHot _

/-- The measurements of an ON scan. -/
theorem recordOthers_pkm (r : ScanReading) (s : State) : (recordOthers r (recordCells r s)).pkm = { s.pkm with
    cells := scannedCells r s, current := some (clampInt (-60000) 60000 r.current)
    tPack1 := some (clampInt (-40) 125 r.tPack1), tPack2 := some (clampInt (-40) 125 r.tPack2)
    tInv := some (clampInt (-40) 125 r.tInv)
    packT := some (max (clampInt (-40) 125 r.tPack1) (clampInt (-40) 125 r.tPack2)) } := by
  unfold recordOthers
  rw [recordCells_pkm]
  rfl

/-- With no deep flag SHIP is not asked for. -/
theorem deepAsks_shallow {s : State} (h : s.pkm.cells.toList.any (·.deep) = false) : deepAsks s = false := by
  simp [deepAsks, h]

theorem onScanEnd_shallow {sc : Scan} {r : ScanReading} {s : State}
    (h : (scannedCells r s).toList.any (·.deep) = false) :
    onScanEnd sc r s = deliverScan (gaugeMoved sc r s) := by
  have shallow : (cellsProtected s.pkm (hotJudged r s)).pkm.cells.toList.any (·.deep) = false := by
    rw [anyDeep_measured ((measured_cellsProtected ..).trans (hotJudged_measured r s)), recordOthers_pkm]
    exact h
  rw [onScanEnd_eq, deepAsks_shallow shallow]
  rfl

theorem watchScanEnd_shallow {r : ScanReading} {s : State} (h : (scannedCells r s).toList.any (·.deep) = false) :
    watchScanEnd r s = judgeRelease (judgeDeepUv (cellsProtected s.pkm (recordCells r s))).1 := by
  have shallow : (cellsProtected s.pkm (recordCells r s)).pkm.cells.toList.any (·.deep) = false := by
    rw [anyDeep_measured (measured_cellsProtected ..), recordCells_pkm]
    exact h
  rw [watchScanEnd_eq, deepAsks_shallow shallow]
  rfl

end Sys2Proof.Proofs

namespace Sys2Proof.Proofs

open Sys2Proof.Machine Sys2Proof.Safety

/-- The Pack Monitor's measures and allowances after step 4 (R109 to R112). -/
def allowances (sc : Scan) (p : PackPar) (c : ChargePar) (q : Pkm) : Pkm :=
  let thermal := thermalLimit p (q.packT.getD 0)
  let sag := movedSag p sc ((vmin q).getD 0) q.iSag
  { q with
    thermal := thermal, iSag := sag, discharge := min p.iMax (min thermal sag)
    chargeAllowance := chargeAllowanceOf c (q.tPack1.getD 0) (q.tPack2.getD 0) }

theorem measured_moveAllowances (sc : Scan) (s : State) :
    measured (moveAllowances sc s).pkm = allowances sc s.packPar s.chargePar (measured s.pkm) := rfl

@[simp] theorem cellsProtected_frame (before : Pkm) (s : State) : (cellsProtected before s).sbt = s.sbt ∧
    (cellsProtected before s).motorPar = s.motorPar ∧ (cellsProtected before s).blockPar = s.blockPar ∧
    (cellsProtected before s).packPar = s.packPar ∧ (cellsProtected before s).chargePar = s.chargePar ∧
    (cellsProtected before s).dirtPar = s.dirtPar ∧ (cellsProtected before s).idleSleepS = s.idleSleepS ∧
    (cellsProtected before s).pending = s.pending := by
  simpa only [protectCells_eq, judgeDeepUv_frame] using protectCells_frame before s

/-- The measures after an ON scan end without a deep flag. -/
theorem measured_gaugeMoved {sc : Scan} {r : ScanReading} {s : State}
    (h : (scannedCells r s).toList.any (·.deep) = false) : measured (gaugeMoved sc r s).pkm =
      allowances sc s.packPar s.chargePar { measured (recordOthers r (recordCells r s)).pkm with deepPending := false } := by
  have cells : measured (cellsProtected s.pkm (hotJudged r s)).pkm = measured (recordOthers r (recordCells r s)).pkm :=
    (measured_cellsProtected ..).trans (hotJudged_measured r s)
  have shallow : (cellsProtected s.pkm (hotJudged r s)).pkm.cells.toList.any (·.deep) = false := by
    rw [anyDeep_measured cells, recordOthers_pkm]
    exact h
  have judged : measured (packJudged r s).pkm =
      { measured (recordOthers r (recordCells r s)).pkm with deepPending := false } := by
    rw [packJudged, measured_judgePackState, measured_judgeRelease, judgeDeepUv_pkm, shallow, ← cells]
    rfl
  have params : (packJudged r s).packPar = s.packPar ∧ (packJudged r s).chargePar = s.chargePar := by
    simp [packJudged, hotJudged]
  rw [gaugeMoved, (gaugeStep_frame ..).2.2.2.2.2.2.2.1, measured_moveAllowances, judged, params.1, params.2]

/-! ### What the steps leave of the charge, the dock and the pack state -/

/-- Outside QUALIFY a change of motor state reaches neither the charge nor the dock, and no pack state. -/
theorem motorTo_unqualified {s : State} (h : s.chc.state ≠ .qualify) (new : MotorState) (cause : MotorCause) (pend : Bool) :
    (motorTo new cause pend s).chc = s.chc ∧ (motorTo new cause pend s).dlk = s.dlk ∧
      (motorTo new cause pend s).pkm.state = s.pkm.state := by
  unfold motorTo
  simp only [deliverSlc_frame, deliverIcn_frame]
  rw [judgeQualify_elsewhere (by simpa using h)]
  unfold deliverPkm
  split <;> simp [chooseInterval]

theorem raiseStop_unqualified {s : State} (h : s.chc.state ≠ .qualify) (k : FaultKind) (d : Detail) :
    (raiseStop k d s).chc = s.chc ∧ (raiseStop k d s).dlk = s.dlk ∧ (raiseStop k d s).pkm.state = s.pkm.state := by
  unfold raiseStop applyStop trip
  split
  · simp
  · obtain ⟨chc, dlk, state⟩ := motorTo_unqualified (s := (noteRaise k d s).setFmg { (noteRaise k d s).fmg with
      trip := some (tripRecordOf k d (noteRaise k d s)) }) (by simpa using h) .tripped .trip false
    simp only [raiseTripNotice_frame]
    exact ⟨chc.trans (by simp), dlk.trans (by simp), state.trans (by simp)⟩

theorem hotJudged_unqualified {s : State} (h : s.chc.state ≠ .qualify) (r : ScanReading) :
    (hotJudged r s).chc = s.chc ∧ (hotJudged r s).dlk = s.dlk ∧ (hotJudged r s).pkm.state = s.pkm.state := by
  have recorded : (recordOthers r (recordCells r s)).pkm.state = s.pkm.state := by rw [recordOthers_pkm]
  unfold hotJudged judgePackHot
  split
  · split
    · obtain ⟨chc, dlk, state⟩ := raiseStop_unqualified (s := recordOthers r (recordCells r s)) (by simpa using h)
        .packHot (.celsius _)
      exact ⟨chc.trans (by simp), dlk.trans (by simp), state.trans recorded⟩
    · simp [recorded]
  · simp [recorded]

/-- Below the cut nothing is judged of the pack's temperature (R107). -/
theorem hotJudged_cool {r : ScanReading} {s : State}
    (h : max (clampInt (-40) 125 r.tPack1) (clampInt (-40) 125 r.tPack2) < s.packPar.cut) :
    hotJudged r s = recordOthers r (recordCells r s) := by
  have hot : (recordOthers r (recordCells r s)).pkm.packT =
      some (max (clampInt (-40) 125 r.tPack1) (clampInt (-40) 125 r.tPack2)) := by rw [recordOthers_pkm]
  have par : (recordOthers r (recordCells r s)).packPar = s.packPar := by simp
  simp only [hotJudged, judgePackHot, hot, par]
  exact if_neg fun k => absurd k.1 (by omega)

/-- Run demand recomputed moves nothing of the Pack Monitor but the scan interval (R99). -/
theorem demandRefresh_pkm (s : State) :
    (demandRefresh s).pkm = { s.pkm with interval := (demandRefresh s).pkm.interval } := by
  have moved {new : MotorState} (h : motorParked new = false) (cause : MotorCause) (t : State) :
      (motorTo new cause false t).pkm = { t.pkm with interval := (motorTo new cause false t).pkm.interval } := by
    rw [(motorTo_moving h cause false t).2.2.2.2]
  unfold demandRefresh demandRise demandFall
  dsimp only
  repeat' split
  all_goals simp [evaluateAs]
  all_goals exact moved rfl _ _

/-- The entry of a raise in the fault table (R165). -/
def raisedEntry (k : FaultKind) (d : Detail) (s : State) : FaultEntry :=
  { count := min 255 ((s.fmg.table.get k).count + 1), uptime := s.slc.uptime, detail := d }

/-- The fault manager after a raise: its table, and the later cause with the motor TRIPPED (R165, R170). -/
theorem noteRaise_fmg_eq (k : FaultKind) (d : Detail) (s : State) : (noteRaise k d s).fmg = { s.fmg with
    table := s.fmg.table.put k (raisedEntry k d s)
    trip := if s.mdr.state = .tripped ∧ responseOf s.fmg k ≠ .ignore then
        s.fmg.trip.map fun r => { r with later := r.later.put k true }
      else s.fmg.trip } := by
  have response : responseOf (tableRaise k d s).fmg k = responseOf s.fmg k := by cases k <;> rfl
  have motor : (tableRaise k d s).mdr = s.mdr := by simp
  simp only [noteRaise, response, motor]
  split
  · simp only [laterCause, raiseTripNotice_frame, State.setFmg_fmg]
    rfl
  · rfl

theorem noteRaise_fmg_setPkm (k : FaultKind) (d : Detail) (p : Pkm) (s : State) :
    (noteRaise k d (s.setPkm p)).fmg = (noteRaise k d s).fmg := by
  rw [noteRaise_fmg_eq, noteRaise_fmg_eq]
  rfl

/-- CUTOFF entered: the state, and what it leaves alone (R103). -/
theorem enterCutoff_enters (s : State) :
    (enterCutoff s).pkm.state = .cutoff ∧ (enterCutoff s).chc = s.chc ∧ (enterCutoff s).dlk = s.dlk ∧
      (enterCutoff s).fmg = (noteRaise .cellUv (.cell (weakestUvCell s.pkm)) s).fmg ∧
      (enterCutoff s).gge = { s.gge with q := 0, event := .empty, eventAt := s.slc.uptime } := by
  let noted := noteRaise .cellUv (.cell (weakestUvCell s.pkm)) (s.setPkm { s.pkm with state := .cutoff })
  obtain ⟨-, -, -, -, chc, dlk, fmg, -, -⟩ := forcedStop_stops noted
  have state : (forcedStop noted).pkm.state = .cutoff := by
    rw [forcedStop, demandRefresh_pkm]
    simp [noted, clearClaims]
  have entered : enterCutoff s = evaluate (raisePackNotice false .cellUv (weakestUvCell s.pkm) s.pkm.state
    (setCharge 0 .empty (abortEdit .cutoff (forcedStop noted)))) := rfl
  rw [entered]
  have gauge : (abortEdit .cutoff (forcedStop noted)).gge = s.gge := by simp [noted]
  have now : (abortEdit .cutoff (forcedStop noted)).now = s.slc.uptime := by simp [noted, State.now]
  simp only [evaluate_frame, raisePackNotice_frame, setCharge_frame, abortEdit_frame, state, chc, dlk, fmg]
  refine ⟨trivial, by simp [noted], by simp [noted], noteRaise_fmg_setPkm .., ?_⟩
  rw [setCharge, gauge, now]
  rfl

end Sys2Proof.Proofs

namespace Sys2Proof.Proofs

open Sys2Proof.Machine Sys2Proof.Safety

/-! ### What the faults of a scan end leave of another kind (R165, R168, R170) -/

/-- What the trip record says of its first cause, and of a kind among the later ones. -/
def causeSeen (j : FaultKind) (r : TripRecord) : FaultKind × Detail × MotorState × Bool :=
  (r.first, r.detail, r.motor, r.later.get j)

/-- A kind's entry in the fault table and its place in the trip record stand. -/
structure FaultStands (j : FaultKind) (s t : State) : Prop where
  table : t.fmg.table.get j = s.fmg.table.get j
  trip : t.fmg.trip.map (causeSeen j) = s.fmg.trip.map (causeSeen j)

theorem FaultStands.of_fmg {j : FaultKind} {s t : State} (h : t.fmg = s.fmg) : FaultStands j s t := by
  constructor <;> rw [h]

theorem FaultStands.trans {j : FaultKind} {s t u : State} (h : FaultStands j s t) (k : FaultStands j t u) :
    FaultStands j s u := ⟨k.table.trans h.table, k.trip.trans h.trip⟩

theorem KindMap.get_put_same {α : Type} (m : KindMap α) (k : FaultKind) (a : α) : (m.put k a).get k = a := by
  cases k <;> rfl

theorem KindMap.get_put_other {α : Type} (m : KindMap α) {k j : FaultKind} (h : k ≠ j) (a : α) :
    (m.put k a).get j = m.get j := by
  cases k <;> cases j <;> simp [KindMap.put, KindMap.get] at h ⊢

theorem noteRaise_stands {k j : FaultKind} (h : k ≠ j) (d : Detail) (s : State) : FaultStands j s (noteRaise k d s) := by
  have seen (r : TripRecord) : causeSeen j { r with later := r.later.put k true } = causeSeen j r := by
    simp only [causeSeen, KindMap.get_put_other _ h]
  constructor
  · exact noteRaise_table h d s
  · rw [noteRaise_fmg_eq]
    dsimp only
    split
    · simp [Function.comp_def, seen]
    · rfl

theorem raiseChargeStop_fmg (k : FaultKind) (d : Detail) (s : State) :
    (raiseChargeStop k d s).fmg = (noteRaise k d s).fmg := by simp [raiseChargeStop]

theorem raiseChargeStop_stands {k j : FaultKind} (h : k ≠ j) (d : Detail) (s : State) :
    FaultStands j s (raiseChargeStop k d s) :=
  (noteRaise_stands h d s).trans (.of_fmg (raiseChargeStop_fmg k d s))

theorem judgeQualify_stands {j : FaultKind} (h : .cellOv ≠ j) (s : State) : FaultStands j s (judgeQualify s) := by
  obtain same | ⟨d, raised⟩ := judgeQualify_fmg s
  · exact .of_fmg same
  · exact (noteRaise_stands h d s).trans (.of_fmg raised)

theorem stageTest_stands {j : FaultKind} (h : .stage ≠ j) (i : Int) (s : State) : FaultStands j s (stageTest i s) := by
  have counted (c : Chc) : FaultStands j s (s.setChc c) := .of_fmg rfl
  unfold stageTest
  dsimp only
  generalize (if (s.chc.iSet : Int) + 500 < i then min 3 (s.chc.stageCount + 1) else 0) = n
  repeat' split
  · exact (counted _).trans (raiseChargeStop_stands h .zero _)
  · exact counted _
  · exact .of_fmg rfl

theorem stateStep_stands {j : FaultKind} (h : .cellOv ≠ j) (i : Int) (s : State) : FaultStands j s (stateStep i s) := by
  by_cases qualify : s.chc.state = .qualify
  · rw [stateStep, qualify]
    exact judgeQualify_stands h s
  · refine .of_fmg ?_
    unfold stateStep cvStep balanceStep
    dsimp only
    repeat' split
    all_goals simp_all

/-- The charge at a scan, with the stage tested and the setpoint capped (R126, R127). -/
def chargeTested (s : State) : State := capSetpoint (stageTest ((measuredCharge s.pkm).getD 0) s)

/-- The charge at a scan, suspended for TEMP or stepped in its state (R130 to R135). -/
def chargeStepped (i : Int) (t : State) : State :=
  if isCharging t.chc.state ∧ t.pkm.chargeAllowance = 0 then enterSuspend true t
  else if t.chc.state = .suspend then suspendStep t
  else stateStep i t

/-- A charge scan ends with the bleed set handed on (R138). -/
theorem chargeScan_eq (s : State) : ∃ set, chargeScan s =
    handBleed set (chargeStepped ((measuredCharge s.pkm).getD 0) (chargeTested s)) := by
  by_cases bleeds : mayBleed (chargeStepped ((measuredCharge s.pkm).getD 0) (chargeTested s)).chc.state = true
  · exact ⟨_, if_pos bleeds⟩
  · exact ⟨_, if_neg bleeds⟩

theorem chargeTested_stands {j : FaultKind} (h : .stage ≠ j) (s : State) : FaultStands j s (chargeTested s) :=
  (stageTest_stands h ((measuredCharge s.pkm).getD 0) s).trans (.of_fmg (by simp [chargeTested]))

theorem chargeStepped_stands {j : FaultKind} (h : .cellOv ≠ j) (i : Int) (s : State) :
    FaultStands j s (chargeStepped i s) := by
  unfold chargeStepped
  repeat' split
  · exact .of_fmg (by simp)
  · exact .of_fmg (by simp)
  · exact stateStep_stands h i s

theorem chargeScan_stands {j : FaultKind} (ov : .cellOv ≠ j) (stage : .stage ≠ j) (s : State) :
    FaultStands j s (chargeScan s) := by
  obtain ⟨set, scanned⟩ := chargeScan_eq s
  rw [scanned]
  exact ((chargeTested_stands stage s).trans
    (chargeStepped_stands ov ((measuredCharge s.pkm).getD 0) _)).trans (.of_fmg (by simp))

theorem ovEvent_stands {j : FaultKind} (h : .cellOv ≠ j) (cell : Nat) (s : State) : FaultStands j s (ovEvent cell s) := by
  have noticed : FaultStands j s (raisePackNotice true .none cell s.pkm.state s) := .of_fmg (by simp)
  unfold ovEvent
  dsimp only
  split
  · exact noticed.trans (raiseChargeStop_stands h _ _)
  · exact noticed

theorem ovEvents_stands {j : FaultKind} (h : .cellOv ≠ j) (l : List Nat) (s : State) :
    FaultStands j s (l.foldl (fun s i => ovEvent i s) s) := by
  induction l generalizing s with
  | nil => exact .of_fmg rfl
  | cons cell l ih => exact (ovEvent_stands h cell s).trans (ih _)

theorem enterCutoff_stands {j : FaultKind} (h : .cellUv ≠ j) (s : State) : FaultStands j s (enterCutoff s) :=
  (noteRaise_stands h (.cell (weakestUvCell s.pkm)) s).trans (.of_fmg (enterCutoff_enters s).2.2.2.1)

theorem cellsProtected_stands {j : FaultKind} (uv : .cellUv ≠ j) (ov : .cellOv ≠ j) (before : Pkm) (s : State) :
    FaultStands j s (cellsProtected before s) := by
  unfold cellsProtected
  split
  · exact (enterCutoff_stands uv s).trans (ovEvents_stands ov _ _)
  · exact ovEvents_stands ov _ s

/-! ### A STOP with the motor tripped before, and the fault table under any STOP -/

/-- In TRIPPED a STOP is a raise noted, and no more (R165). -/
theorem raiseStop_tripped {s : State} (h : s.mdr.state = .tripped) (k : FaultKind) (d : Detail) :
    raiseStop k d s = noteRaise k d s := if_pos (by simpa using h)

/-- A STOP leaves the table's other kinds alone; CELL_OV may be raised by QUALIFY at the entry to TRIPPED. -/
theorem raiseStop_table {k j : FaultKind} {s : State} (h : k ≠ j) (ov : j ≠ .cellOv ∨ s.chc.state ≠ .qualify) (d : Detail) :
    (raiseStop k d s).fmg.table.get j = s.fmg.table.get j := by
  unfold raiseStop applyStop trip
  split
  · exact noteRaise_table h d s
  · simp only [raiseTripNotice_frame]
    obtain ⟨-, -, unqualified, table⟩ := motorTo_tripped_faults .trip
      ((noteRaise k d s).setFmg { (noteRaise k d s).fmg with trip := some (tripRecordOf k d (noteRaise k d s)) })
    obtain other | other := ov
    · rw [table j other]
      exact noteRaise_table h d s
    · rw [unqualified (by simpa using other)]
      exact noteRaise_table h d s

end Sys2Proof.Proofs

namespace Sys2Proof.Proofs

open Sys2Proof.Machine Sys2Proof.Safety

/-! ### The resolver after a forced stop (R8) -/

/-- No claim is left, run demand is false and no edit is open. -/
structure Stopped (s : State) : Prop where
  trigger : s.drs.triggerClaim = false
  host : s.drs.hostClaim = false
  demand : s.drs.record.runDemand = false
  edit : s.drs.edit = none

theorem Stopped.kept {s t : State} (h : Stopped s) (k : ResolverKept s t) : Stopped t :=
  ⟨k.trigger.trans h.trigger, k.host.trans h.host, k.demand.trans h.demand, k.edit.trans h.edit⟩

theorem Stopped.of_drs {s t : State} (h : Stopped s) (k : t.drs = s.drs) : Stopped t := h.kept (.of_drs k)

theorem Stopped.rests {s : State} (h : Stopped s) : demandRefresh s = s :=
  demandRefresh_unclaimed h.trigger h.host h.demand

theorem motorTo_tripped_stopped (cause : MotorCause) (s : State) : Stopped (motorTo .tripped cause false s) := by
  obtain ⟨trigger, host, demand, -⟩ := motorTo_tripped_resolver cause false s
  exact ⟨trigger, host, demand, (motorTo_tripped_record cause s).2⟩

/-- A STOP that trips leaves the resolver stopped. -/
theorem raiseStop_running_stopped {s : State} (h : s.mdr.state ≠ .tripped) (k : FaultKind) (d : Detail) :
    Stopped (raiseStop k d s) := by
  rw [raiseStop_trips h]
  generalize (tableRaise k d s).setFmg _ = noted
  exact (motorTo_tripped_stopped .trip noted).of_drs (by simp)

theorem raiseStop_stopped {s : State} (h : Stopped s) (k : FaultKind) (d : Detail) : Stopped (raiseStop k d s) := by
  by_cases tripped : s.mdr.state = .tripped
  · rw [raiseStop_tripped tripped]
    exact h.kept (.of_drs (by simp))
  · exact raiseStop_running_stopped tripped k d

theorem precheckDecide_stopped {s : State} (h : Stopped s) (t : Int) : Stopped (precheckDecide t s) := by
  unfold precheckDecide
  repeat' split
  · exact raiseStop_stopped h _ _
  · exact h.kept (motorTo_resolverKept (by simp) ..)
  · exact h.kept (motorTo_resolverKept (by simp) ..)
  · exact h.kept (motorTo_resolverKept (by simp) ..)

theorem deliverTInv_stopped {s : State} (h : Stopped s) (t : Int) : Stopped (deliverTInv t s) := by
  have taken : Stopped (s.setMdr { s.mdr with tInv := some t }) := h.of_drs rfl
  have refreshed : Stopped (refreshDerate (s.setMdr { s.mdr with tInv := some t })) :=
    taken.kept (refreshDerate_steady _).toResolverKept
  unfold deliverTInv
  dsimp only
  repeat' split
  · exact raiseStop_stopped refreshed _ _
  · exact precheckDecide_stopped refreshed t
  · exact refreshed

theorem chargeDelivered_stopped {s : State} (h : Stopped s) : Stopped (dockScan (chargeScan (evaluate s))) :=
  h.kept ((evaluate_steady s).trans ((chargeScan_steady _).trans (dockScan_steady _))).toResolverKept

theorem deliverScan_stopped {s : State} (h : Stopped s) : Stopped (deliverScan s) := by
  have scanned : Stopped (s.setPkm { s.pkm with scanned := true }) := h.of_drs rfl
  unfold deliverScan
  exact chargeDelivered_stopped (deliverTInv_stopped scanned _)

theorem enterCutoff_stopped (s : State) : Stopped (enterCutoff s) := by
  let noted := noteRaise .cellUv (.cell (weakestUvCell s.pkm)) (s.setPkm { s.pkm with state := .cutoff })
  obtain ⟨-, trigger, host, demand, -⟩ := forcedStop_stops noted
  have aborted (x : State) (a : x.drs.triggerClaim = false) (b : x.drs.hostClaim = false)
      (c : x.drs.record.runDemand = false) : Stopped (abortEdit .cutoff x) := by
    unfold abortEdit
    split
    · next none => exact ⟨a, b, c, none⟩
    · exact ⟨by simpa using a, by simpa using b, by simpa using c, by simp⟩
  have named : enterCutoff s = evaluate (raisePackNotice false .cellUv (weakestUvCell s.pkm) s.pkm.state
    (setCharge 0 .empty (abortEdit .cutoff (forcedStop noted)))) := rfl
  rw [named]
  exact ((aborted _ trigger host demand).of_drs (by simp)).kept (evaluate_resolverKept _)

theorem ovEvents_stopped {s : State} (h : Stopped s) (l : List Nat) : Stopped (l.foldl (fun s i => ovEvent i s) s) :=
  h.kept (ovEvents_steady l s).toResolverKept

theorem cellsProtected_stopped {s : State} (h : Stopped s) (before : Pkm) : Stopped (cellsProtected before s) := by
  unfold cellsProtected
  split
  · exact ovEvents_stopped (enterCutoff_stopped s) _
  · exact ovEvents_stopped h _

theorem judgeRelease_resolverKept (s : State) : ResolverKept s (judgeRelease s) := by
  unfold judgeRelease
  split
  · exact changePackState_resolverKept _ _ _ s
  · exact .of_drs rfl

theorem judgePackState_resolverKept (s : State) : ResolverKept s (judgePackState s) := by
  unfold judgePackState
  dsimp only
  repeat' split
  · exact .of_drs rfl
  · exact .of_drs rfl
  · exact changePackState_resolverKept _ _ _ s
  · exact .of_drs rfl
  · exact changePackState_resolverKept _ _ _ s

/-- From the cells' protections to the gauge nothing moves in the resolver but the record (R100). -/
theorem gaugeMoved_resolverKept (sc : Scan) (r : ScanReading) (s : State) :
    ResolverKept (cellsProtected s.pkm (hotJudged r s)) (gaugeMoved sc r s) := by
  have deep : ResolverKept (cellsProtected s.pkm (hotJudged r s)) (judgeDeepUv (cellsProtected s.pkm (hotJudged r s))).1 :=
    .of_drs (by simp only [judgeDeepUv_frame])
  have judged : ResolverKept (cellsProtected s.pkm (hotJudged r s)) (packJudged r s) :=
    deep.trans ((judgeRelease_resolverKept _).trans (judgePackState_resolverKept _))
  exact judged.trans (.of_drs (by simp [gaugeMoved]))

/-- From the cells' protections to the gauge these blocks stand. -/
theorem gaugeMoved_frame (sc : Scan) (r : ScanReading) (s : State) :
    let u := cellsProtected s.pkm (hotJudged r s)
    (gaugeMoved sc r s).mdr = u.mdr ∧ (gaugeMoved sc r s).chc = u.chc ∧ (gaugeMoved sc r s).dlk = u.dlk ∧
      (gaugeMoved sc r s).fmg = u.fmg ∧ (gaugeMoved sc r s).slc = u.slc ∧ (gaugeMoved sc r s).sbt = s.sbt ∧
      ParamsKept s (gaugeMoved sc r s) ∧ (gaugeMoved sc r s).pending = s.pending := by
  simp [gaugeMoved, packJudged, hotJudged, ParamsKept]

end Sys2Proof.Proofs

namespace Sys2Proof.Proofs

open Sys2Proof.Machine Sys2Proof.Safety

/-! ### The dock and its contact through a scan end (R143) -/

@[simp] theorem raiseStop_dock (k : FaultKind) (d : Detail) (s : State) :
    (raiseStop k d s).dlk.state = s.dlk.state ∧ (raiseStop k d s).dlk.contact = s.dlk.contact := by
  unfold raiseStop applyStop trip
  split <;> simp

@[simp] theorem hotJudged_dock (r : ScanReading) (s : State) :
    (hotJudged r s).dlk.state = s.dlk.state ∧ (hotJudged r s).dlk.contact = s.dlk.contact := by
  unfold hotJudged judgePackHot
  repeat' split
  all_goals simp

@[simp] theorem raiseChargeStop_dock (k : FaultKind) (d : Detail) (s : State) :
    (raiseChargeStop k d s).dlk.state = s.dlk.state ∧ (raiseChargeStop k d s).dlk.contact = s.dlk.contact := by
  unfold raiseChargeStop enterChargeFault
  split <;> simp

@[simp] theorem ovEvents_dock (l : List Nat) (s : State) :
    (l.foldl (fun s i => ovEvent i s) s).dlk.state = s.dlk.state ∧
      (l.foldl (fun s i => ovEvent i s) s).dlk.contact = s.dlk.contact := by
  induction l generalizing s with
  | nil => simp
  | cons cell l ih =>
    have one : (ovEvent cell s).dlk.state = s.dlk.state ∧ (ovEvent cell s).dlk.contact = s.dlk.contact := by
      unfold ovEvent
      dsimp only
      split <;> simp
    simp [ih, one]

@[simp] theorem cellsProtected_dock (before : Pkm) (s : State) :
    (cellsProtected before s).dlk.state = s.dlk.state ∧ (cellsProtected before s).dlk.contact = s.dlk.contact := by
  unfold cellsProtected
  split <;> simp [(enterCutoff_enters s).2.2.1]

@[simp] theorem deliverTInv_dock (t : Int) (s : State) :
    (deliverTInv t s).dlk.state = s.dlk.state ∧ (deliverTInv t s).dlk.contact = s.dlk.contact := by
  unfold deliverTInv precheckDecide
  dsimp only
  repeat' split
  all_goals simp

@[simp] theorem chargeScan_dock (s : State) :
    (chargeScan s).dlk.state = s.dlk.state ∧ (chargeScan s).dlk.contact = s.dlk.contact := by
  have tested : (chargeTested s).dlk.state = s.dlk.state ∧ (chargeTested s).dlk.contact = s.dlk.contact := by
    unfold chargeTested stageTest
    dsimp only
    repeat' split
    all_goals simp
  have stepped (i : Int) (t : State) :
      (chargeStepped i t).dlk.state = t.dlk.state ∧ (chargeStepped i t).dlk.contact = t.dlk.contact := by
    unfold chargeStepped suspendStep resumeIfClear stateStep cvStep balanceStep enterDone enterSuspend
    dsimp only
    repeat' split
    all_goals simp
  obtain ⟨set, scanned⟩ := chargeScan_eq s
  simp [scanned, stepped, tested]

@[simp] theorem dockScan_dock (s : State) :
    (dockScan s).dlk.state = s.dlk.state ∧ (dockScan s).dlk.contact = s.dlk.contact := by
  unfold dockScan firstMessage requestDue sendRequest startExchange
  dsimp only
  repeat' split
  all_goals simp_all

@[simp] theorem deliverScan_dock (s : State) :
    (deliverScan s).dlk.state = s.dlk.state ∧ (deliverScan s).dlk.contact = s.dlk.contact := by
  simp [deliverScan]

/-! ### The pack state under the charge (R104) -/

/-- Outside CUTOFF, and into another state than PRECHARGE and CC, a change of charge state keeps the pack state. -/
theorem changeCharge_pack {s : State} {new : ChargeState} (h : s.pkm.state ≠ .cutoff ∨ (new ≠ .precharge ∧ new ≠ .cc))
    (cause : ChargeCause) (set : SuspendSet) : (changeCharge new cause set s).pkm.state = s.pkm.state := by
  have noRelease (x : State) (k : x.pkm.state = s.pkm.state) :
      ¬ (x.pkm.state = .cutoff ∧ (new = .precharge ∨ new = .cc)) := by
    rw [k]
    tauto
  let bled := if mayBleed new then s.setChc (enteredChc new set s.chc)
    else applyBleed (Seven.replicate false) (s.setChc (enteredChc new set s.chc))
  have kept : (chooseInterval (raiseChargeNotice s.chc.state cause bled)).pkm.state = s.pkm.state := by
    simp only [chooseInterval, State.setPkm_pkm, raiseChargeNotice_frame, bled]
    split <;> rfl
  have changed : changeCharge new cause set s =
      if new = .qualify then qualifyEntered (chooseInterval (raiseChargeNotice s.chc.state cause bled))
      else chooseInterval (raiseChargeNotice s.chc.state cause bled) := by
    simp only [changeCharge]
    rw [if_neg (noRelease _ kept)]
  rw [changed]
  split
  · rw [(qualifyEntered_frame _).2.2.2.2.2.2.2.1, kept]
  · exact kept

theorem changeCharge_pack_elsewhere {new : ChargeState} (uncharged : new ≠ .precharge) (other : new ≠ .cc)
    (cause : ChargeCause) (set : SuspendSet) (s : State) : (changeCharge new cause set s).pkm.state = s.pkm.state :=
  changeCharge_pack (.inr ⟨uncharged, other⟩) cause set

/-- The states a charge keeps the pack state in: no CUTOFF, or neither charging nor about to (R104). -/
def PackStands (s : State) : Prop :=
  s.pkm.state ≠ .cutoff ∨ (isCharging s.chc.state = false ∧ s.chc.state ≠ .qualify)

@[simp] theorem enterSuspend_pack (temp : Bool) (s : State) : (enterSuspend temp s).pkm.state = s.pkm.state :=
  changeCharge_pack (.inr (by simp)) ..

@[simp] theorem enterDone_pack (cause : ChargeCause) (s : State) : (enterDone cause s).pkm.state = s.pkm.state := by
  simp only [enterDone, setCharge_frame, handRelease_frame]
  exact changeCharge_pack (.inr (by simp)) ..

@[simp] theorem resumeIfClear_pack (s : State) : (resumeIfClear s).pkm.state = s.pkm.state := by
  unfold resumeIfClear
  split
  · exact changeCharge_pack (.inr (by simp)) ..
  · rfl

@[simp] theorem raiseChargeStop_pack (k : FaultKind) (d : Detail) (s : State) :
    (raiseChargeStop k d s).pkm.state = s.pkm.state := by
  unfold raiseChargeStop enterChargeFault
  split
  · simp
  · rw [(handRelease_frame ..).2.2.2.2.2.2.2.1, changeCharge_pack (.inr (by simp))]
    simp

/-- QUALIFY releases a CUTOFF, and nothing else of the pack state (R104, R129). -/
theorem judgeQualify_pack {s : State} (h : s.pkm.state ≠ .cutoff) : (judgeQualify s).pkm.state = s.pkm.state := by
  unfold judgeQualify
  repeat' split
  all_goals simp [changeCharge_pack (.inl h)]

theorem raiseChargeStop_state (k : FaultKind) (d : Detail) (s : State) :
    (raiseChargeStop k d s).chc.state = s.chc.state ∨ (raiseChargeStop k d s).chc.state = .fault := by
  by_cases stays : s.chc.state = .idle ∨ s.chc.state = .fault
  · exact .inl (by simp [raiseChargeStop, enterChargeFault, stays])
  · obtain ⟨chc, -⟩ := raiseChargeStop_charge (s := s) (not_or.1 stays) k d
    exact .inr (by simp [chc, enteredChc_state])

/-- The stage test leaves the charge where it stands, or in FAULT (R127). -/
theorem chargeTested_charge (s : State) : (chargeTested s).pkm.state = s.pkm.state ∧ (chargeTested s).gge = s.gge ∧
    ((chargeTested s).chc.state = s.chc.state ∨ (chargeTested s).chc.state = .fault) := by
  have capped (t : State) : (capSetpoint t).chc.state = t.chc.state := rfl
  unfold chargeTested
  rw [(capSetpoint_frame _).2.2.2.2.2.2.2.1, capped]
  refine ⟨?_, by simp, ?_⟩
  · unfold stageTest
    dsimp only
    repeat' split
    all_goals simp
  · unfold stageTest
    dsimp only
    generalize (if (s.chc.iSet : Int) + 500 < (measuredCharge s.pkm).getD 0 then min 3 (s.chc.stageCount + 1) else 0) = n
    repeat' split
    · exact raiseChargeStop_state .stage .zero (s.setChc { s.chc with stageCount := n })
    · exact .inl rfl
    · exact .inl rfl

theorem PackStands.uncut_of_charging {s : State} (h : PackStands s)
    (k : isCharging s.chc.state = true ∨ s.chc.state = .qualify) : s.pkm.state ≠ .cutoff := by
  obtain uncut | ⟨idle, other⟩ := h
  · exact uncut
  · simp [idle, other] at k

theorem stateStep_pack {s : State} (h : PackStands s) (i : Int) : (stateStep i s).pkm.state = s.pkm.state := by
  cases charge : s.chc.state with
  | precharge =>
    have uncut := h.uncut_of_charging (.inl (by simp [charge, isCharging]))
    simp only [stateStep, charge]
    split
    · exact changeCharge_pack (.inl uncut) ..
    · rfl
  | qualify =>
    simp only [stateStep, charge]
    exact judgeQualify_pack (h.uncut_of_charging (.inr charge))
  | _ =>
    simp only [stateStep, charge, cvStep, balanceStep]
    repeat' split
    all_goals simp [changeCharge_pack_elsewhere]

theorem chargeScan_pack {s : State} (h : PackStands s) : (chargeScan s).pkm.state = s.pkm.state := by
  obtain ⟨state, -, charge⟩ := chargeTested_charge s
  have tested : PackStands (chargeTested s) := by
    unfold PackStands
    rw [state]
    obtain same | fault := charge
    · rwa [same]
    · exact .inr (by simp [fault, isCharging])
  have stepped (i : Int) : (chargeStepped i (chargeTested s)).pkm.state = s.pkm.state := by
    unfold chargeStepped
    repeat' split
    · simp [state]
    · simp [suspendStep, state]
    · exact (stateStep_pack tested i).trans state
  obtain ⟨set, scanned⟩ := chargeScan_eq s
  rw [scanned]
  exact stepped _

/-! ### The gauge under the charge (R119, R134) -/

/-- The gauge where a charge is done from another state: full (R119). -/
def gaugeDone (was now : ChargeState) (t : Uptime) (g : Gge) : Gge :=
  if now = .done ∧ was ≠ .done then { g with q := fullCharge g.f, event := .full, eventAt := t } else g

theorem gaugeDone_elsewhere {was now : ChargeState} (h : now ≠ .done ∨ was = .done) (t : Uptime) (g : Gge) :
    gaugeDone was now t g = g := if_neg (by tauto)

theorem enterDone_gauge (cause : ChargeCause) (s : State) (h : s.chc.state ≠ .done) :
    (enterDone cause s).gge = gaugeDone s.chc.state (enterDone cause s).chc.state s.slc.uptime s.gge := by
  have done : (enterDone cause s).chc.state = .done := by simp [enterDone, enteredChc_state]
  rw [gaugeDone, if_pos ⟨done, h⟩]
  simp [enterDone, setCharge, State.now]

theorem resumeIfClear_undone {s : State} (h : s.chc.state = .suspend) : (resumeIfClear s).chc.state ≠ .done := by
  unfold resumeIfClear
  split <;> simp [enteredChc_state, h]

theorem suspendStep_undone {s : State} (h : s.chc.state = .suspend) : (suspendStep s).chc.state ≠ .done := by
  unfold suspendStep
  exact resumeIfClear_undone h

theorem judgeQualify_undone {s : State} (h : s.chc.state = .qualify) : (judgeQualify s).chc.state ≠ .done := by
  have raised (d : Detail) : (raiseChargeStop .cellOv d s).chc.state ≠ .done := by
    obtain same | fault := raiseChargeStop_state .cellOv d s
    · simp [same, h]
    · simp [fault]
  unfold judgeQualify enterSuspend
  repeat' split
  all_goals simp [h, enteredChc_state, raised]

theorem stateStep_gauge (i : Int) (s : State) :
    (stateStep i s).gge = gaugeDone s.chc.state (stateStep i s).chc.state s.slc.uptime s.gge := by
  cases charge : s.chc.state with
  | precharge =>
    simp only [stateStep, charge]
    split <;> simp [gaugeDone, enteredChc_state]
  | cc =>
    simp only [stateStep, charge]
    split <;> simp [gaugeDone, enteredChc_state]
  | cv =>
    have done (cause : ChargeCause) (c : Chc) (k : c.state = .cv) : (enterDone cause (s.setChc c)).gge =
        gaugeDone .cv (enterDone cause (s.setChc c)).chc.state s.slc.uptime s.gge := by
      rw [enterDone_gauge _ _ (by simp [k])]
      simp [k]
    simp only [stateStep, charge, cvStep]
    split
    · split
      · simp [gaugeDone]
      · split
        · split
          · simp [gaugeDone, enteredChc_state]
          · exact done _ _ rfl
        · simp [gaugeDone]
    · simp [gaugeDone]
  | balance =>
    have done (cause : ChargeCause) (c : Chc) (k : c.state = .balance) : (enterDone cause (s.setChc c)).gge =
        gaugeDone .balance (enterDone cause (s.setChc c)).chc.state s.slc.uptime s.gge := by
      rw [enterDone_gauge _ _ (by simp [k])]
      simp [k]
    simp only [stateStep, charge, balanceStep]
    split
    · exact done _ _ rfl
    · simp [gaugeDone]
  | qualify =>
    simp only [stateStep, charge]
    rw [gaugeDone_elsewhere (.inl (judgeQualify_undone charge))]
    simp
  | done =>
    simp only [stateStep, charge]
    rw [gaugeDone_elsewhere (.inr rfl)]
    split <;> simp
  | _ => simp [stateStep, charge, gaugeDone]

theorem chargeScan_gauge (s : State) :
    (chargeScan s).gge = gaugeDone s.chc.state (chargeScan s).chc.state s.slc.uptime s.gge := by
  obtain ⟨-, gauge, charge⟩ := chargeTested_charge s
  have now : (chargeTested s).slc.uptime = s.slc.uptime := by simp [chargeTested]
  have stepped (i : Int) : (chargeStepped i (chargeTested s)).gge =
      gaugeDone s.chc.state (chargeStepped i (chargeTested s)).chc.state s.slc.uptime s.gge := by
    unfold chargeStepped
    split
    · rw [gaugeDone_elsewhere (.inl (by simp [enterSuspend, enteredChc_state]))]
      simp [gauge]
    · next uncharged =>
      split
      · next suspended =>
        rw [gaugeDone_elsewhere (.inl (suspendStep_undone suspended))]
        simp [suspendStep, gauge]
      · rw [stateStep_gauge, gauge, now]
        obtain same | fault := charge
        · rw [same]
        · have stays : (stateStep i (chargeTested s)).chc.state = .fault := by simp [stateStep, fault]
          rw [gaugeDone_elsewhere (.inl (by simp [stays])), gaugeDone_elsewhere (.inl (by simp [stays]))]
  obtain ⟨set, scanned⟩ := chargeScan_eq s
  rw [scanned]
  rw [(handBleed_frame ..).2.2.2.2.2.2.2.1]
  exact stepped _

end Sys2Proof.Proofs

namespace Sys2Proof.Proofs

open Sys2Proof.Machine Sys2Proof.Safety

/-! ### The OV events of a scan end (R106, R136) -/

/-- With no charge on, an OV event is its notice. -/
theorem ovEvent_calm {s : State} (h : isCharging s.chc.state = false) (cell : Nat) :
    ovEvent cell s = raisePackNotice true .none cell s.pkm.state s := if_neg (by simp [h])

theorem ovEvents_calm {s : State} (h : isCharging s.chc.state = false) (l : List Nat) :
    let t := l.foldl (fun s i => ovEvent i s) s
    t.pkm = s.pkm ∧ t.chc = s.chc ∧ t.dlk = s.dlk ∧ t.fmg = s.fmg ∧ t.drs = s.drs ∧
      t.icn.counters = s.icn.counters := by
  induction l generalizing s with
  | nil => simp
  | cons cell l ih =>
    have rest := ih (s := ovEvent cell s) (by rw [ovEvent_calm h]; simpa using h)
    simp only [List.foldl_cons]
    rw [ovEvent_calm h] at rest ⊢
    simpa [raisePackNotice] using rest

/-- With a charge on, the first OV event is a fault of the charge, and the others are their notices. -/
theorem ovEvents_faults {s : State} (h : isCharging s.chc.state = true) (cell : Nat) (l : List Nat) :
    let t := (cell :: l).foldl (fun s i => ovEvent i s) s
    t.chc = enteredChc .fault noSuspend { s.chc with faultCause := some .cellOv } ∧
      t.dlk = releasedDlk .fault s.dlk ∧
      t.fmg.table.cellOv.count = min 255 (s.fmg.table.cellOv.count + 1) := by
  let noticed := raisePackNotice true .none cell s.pkm.state s
  have first : ovEvent cell s = raiseChargeStop .cellOv (.cell cell) noticed := if_pos (by simpa using h)
  obtain ⟨chc, dlk⟩ := raiseChargeStop_charge (s := noticed)
    (by constructor <;> rintro k <;> simp [noticed] at k <;> simp [k, isCharging] at h) .cellOv (.cell cell)
  obtain ⟨-, chc', dlk', fmg', -⟩ := ovEvents_calm (s := ovEvent cell s)
    (by rw [first, chc, enteredChc_state]; rfl) l
  simp only [List.foldl_cons]
  rw [chc', dlk', fmg', first, chc, dlk, raiseChargeStop_fmg, noteRaise_fmg_eq]
  simp [noticed, KindMap.put, raisedEntry, KindMap.get]

@[simp] theorem ovEvents_pack (l : List Nat) (s : State) :
    (l.foldl (fun s i => ovEvent i s) s).pkm.state = s.pkm.state := by
  induction l generalizing s with
  | nil => rfl
  | cons cell l ih =>
    have one : (ovEvent cell s).pkm.state = s.pkm.state := by
      unfold ovEvent
      dsimp only
      split <;> simp
    simp [ih, one]

/-! ### The cells' protections, CUTOFF entered or not (R103) -/

theorem cutoffDue_uncharged {s : State} (h : cutoffDue s = true) : isCharging s.chc.state = false := by
  simp [cutoffDue] at h
  exact h.1.2

/-- Without an entry to CUTOFF the protections are the OV events. -/
theorem cellsProtected_uncut {s : State} (h : cutoffDue s = false) (before : Pkm) : cellsProtected before s =
    (newOv before s.pkm).foldl (fun s i => ovEvent i s) s := by simp [cellsProtected, h]

/-- With an entry to CUTOFF no charge is on, and the OV events are their notices. -/
theorem cellsProtected_cut {s : State} (h : cutoffDue s = true) (before : Pkm) :
    let t := cellsProtected before s
    t.pkm = (enterCutoff s).pkm ∧ t.chc = s.chc ∧ t.dlk = s.dlk ∧ t.mdr = (enterCutoff s).mdr ∧
      t.fmg = (noteRaise .cellUv (.cell (weakestUvCell s.pkm)) s).fmg ∧
      t.gge = { s.gge with q := 0, event := .empty, eventAt := s.slc.uptime } := by
  obtain ⟨-, chc, dlk, fmg, gge⟩ := enterCutoff_enters s
  have calm : isCharging (enterCutoff s).chc.state = false := by rw [chc]; exact cutoffDue_uncharged h
  unfold cellsProtected
  rw [if_pos h]
  obtain ⟨pkm', chc', dlk', fmg', -⟩ := ovEvents_calm calm (newOv before (enterCutoff s).pkm)
  refine ⟨pkm', chc'.trans chc, dlk'.trans dlk, by simp, fmg'.trans fmg, ?_⟩
  rw [(ovEvents_frame ..).2.2.2.2.2.2.1, gge]

theorem cellsProtected_pack (before : Pkm) (s : State) : (cellsProtected before s).pkm.state =
    if cutoffDue s then .cutoff else s.pkm.state := by
  unfold cellsProtected
  split <;> simp [(enterCutoff_enters s).1]

theorem cellsProtected_gauge (before : Pkm) (s : State) : (cellsProtected before s).gge =
    if cutoffDue s then { s.gge with q := 0, event := .empty, eventAt := s.slc.uptime } else s.gge := by
  unfold cellsProtected
  split <;> simp [(enterCutoff_enters s).2.2.2.2]

/-! ### The pack state judged (R104, R108) -/

theorem judgeRelease_pack (s : State) : (judgeRelease s).pkm.state =
    if s.pkm.state = .cutoff ∧ cellsRecovered s = true then uncutState s else s.pkm.state := by
  unfold judgeRelease releaseCutoff
  split
  · simp [changePackState]
  · rfl

theorem judgePackState_pack (s : State) : (judgePackState s).pkm.state =
    if s.pkm.state = .cutoff then .cutoff else if s.pkm.scanned then uncutState s else .normal := by
  unfold judgePackState
  split
  · next cut => exact cut
  · dsimp only
    generalize (if s.pkm.scanned then uncutState s else .normal) = new
    split
    · next same => exact same.symm
    · simp [changePackState]

theorem uncutState_ne (s : State) : uncutState s ≠ .cutoff := by
  unfold uncutState
  repeat' split
  all_goals simp

/-- Every cell stands at or above uv_release, by the voltages read (R104). -/
theorem cellsRecovered_iff {s : State} {v : Seven Int}
    (h : s.pkm.cells.map (·.mv) = v.map fun v => some (clampNat 0 5000 v)) :
    cellsRecovered s = true ↔ ∀ x ∈ v.toList, s.packPar.uvRelease ≤ clampNat 0 5000 x := by
  simp only [Seven.map, Seven.mk.injEq] at h
  obtain ⟨h1, h2, h3, h4, h5, h6, h7⟩ := h
  simp [cellsRecovered, Seven.toList, h1, h2, h3, h4, h5, h6, h7]

end Sys2Proof.Proofs

namespace Sys2Proof.Proofs

open Sys2Proof.Machine Sys2Proof.Safety

/-! ### The gauge at a scan (R116, R118, R120) -/

theorem chargeIn_gauge (i : Int) (dt : Nat) (s : State) : ∃ n, (chargeIn i dt s).gge = { s.gge with residue := n } := by
  have counted (l : List Unit) (t : State) :
      (l.foldl (fun t _ => countEvent .chargeIn (.units 1) t) t).gge = t.gge := by
    induction l generalizing t with
    | nil => rfl
    | cons _ l ih => simp [ih]
  exact ⟨_, counted ..⟩

/-- What an ON scan makes of the gauge (R116, R118). -/
theorem gaugeScan_gauge (i : Int) (dt : Nat) (cut : Bool) (s : State) : let g := (gaugeScan i dt cut s).gge
    g.q = (if s.gge.estimatePending then
        (if cut then s.gge.q else s.gge.f * estimateSoc (meanMv s.pkm) * 36000)
      else clampNat 0 (fullCharge s.gge.f) ((s.gge.q : Int) - i * dt)) ∧
      g.estimatePending = false ∧ g.f = s.gge.f ∧ (cut = true → g.event = s.gge.event) := by
  cases pending : s.gge.estimatePending <;> cases cut <;>
    simp [gaugeScan, pending, setCharge, countedCharge]

theorem gaugeStep_gauge (sc : Scan) (cut : Bool) (s : State) :
    let g := (gaugeStep sc cut s).gge
    let i := s.pkm.current.getD 0
    g.q = (if s.gge.estimatePending then
        (if cut then s.gge.q else s.gge.f * estimateSoc (meanMv s.pkm) * 36000)
      else clampNat 0 (fullCharge s.gge.f) ((s.gge.q : Int) - i * sc.dt)) ∧
      g.estimatePending = false ∧ g.f = s.gge.f ∧ (cut = true → g.event = s.gge.event) := by
  have scanned := gaugeScan_gauge (s.pkm.current.getD 0) sc.dt cut s
  unfold gaugeStep
  dsimp only at scanned ⊢
  split
  · obtain ⟨n, charged⟩ := chargeIn_gauge (s.pkm.current.getD 0) sc.dt (gaugeScan (s.pkm.current.getD 0) sc.dt cut s)
    rw [charged]
    exact scanned
  · exact scanned

/-! ### T_INV taken by the motor (R29, R42, R43) -/

/-- T_INV taken, and the derate with it (R42). -/
def inverterTaken (t : Int) (s : State) : State := refreshDerate (s.setMdr { s.mdr with tInv := some t })

theorem inverterTaken_mdr (t : Int) (s : State) : (inverterTaken t s).mdr =
    { s.mdr with tInv := some t, derate := derateCurrent s.motorPar t } := by
  have taken : inverterTaken t s = if derateCurrent s.motorPar t = s.mdr.derate then s.setMdr { s.mdr with tInv := some t }
      else evaluate ((s.setMdr { s.mdr with tInv := some t }).setMdr
        { s.mdr with tInv := some t, derate := derateCurrent s.motorPar t }) := rfl
  rw [taken]
  by_cases same : derateCurrent s.motorPar t = s.mdr.derate
  · rw [if_pos same, same]
    rfl
  · rw [if_neg same]
    simp

theorem inverterTaken_motor (t : Int) (s : State) : (inverterTaken t s).mdr.state = s.mdr.state ∧
    (inverterTaken t s).mdr.precheckHeld = s.mdr.precheckHeld := by simp [inverterTaken_mdr]

@[simp] theorem inverterTaken_frame (t : Int) (s : State) : (inverterTaken t s).pkm = s.pkm ∧
    (inverterTaken t s).gge = s.gge ∧ (inverterTaken t s).chc = s.chc ∧ (inverterTaken t s).dlk = s.dlk ∧
    (inverterTaken t s).fmg = s.fmg ∧ (inverterTaken t s).slc = s.slc ∧ (inverterTaken t s).motorPar = s.motorPar ∧
    (inverterTaken t s).packPar = s.packPar := by simp [inverterTaken]

theorem inverterTaken_steady (t : Int) (s : State) : Steady s (inverterTaken t s) := by
  have taken : Steady s (s.setMdr { s.mdr with tInv := some t }) := .of_fields (by simp)
  exact taken.trans (refreshDerate_steady _)

theorem deliverTInv_eq (t : Int) (s : State) : deliverTInv t s =
    let u := inverterTaken t s
    if u.motorPar.invCut ≤ t ∧ (motorWatched u.mdr.state ∨ (overtakenByOc u ∧ ¬ packHot u)) then
      raiseStop .invHot (.celsius t) u
    else if u.mdr.state = .precheck ∧ u.mdr.precheckHeld then precheckDecide t u
    else u := rfl

/-- Below the cut T_INV decides a PRECHECK held for it, and no more (R29). -/
theorem deliverTInv_cool {t : Int} {s : State} (h : t < s.motorPar.invCut) : deliverTInv t s =
    if s.mdr.state = .precheck ∧ s.mdr.precheckHeld then precheckDecide t (inverterTaken t s) else inverterTaken t s := by
  obtain ⟨state, held⟩ := inverterTaken_motor t s
  rw [deliverTInv_eq]
  dsimp only
  rw [if_neg fun k => absurd k.1 (by simp; omega), state, held]

/-- At the cut T_INV trips a watched motor (R43). -/
theorem deliverTInv_hot {t : Int} {s : State} (h : s.motorPar.invCut ≤ t) (watched : motorWatched s.mdr.state = true) :
    deliverTInv t s = raiseStop .invHot (.celsius t) (inverterTaken t s) := by
  obtain ⟨state, -⟩ := inverterTaken_motor t s
  rw [deliverTInv_eq]
  exact if_pos ⟨by simpa using h, .inl (by rw [state]; exact watched)⟩

/-- With the motor TRIPPED, T_INV is a later cause at most, and none where the pack is hot (R170). -/
theorem deliverTInv_tripped {t : Int} {s : State} (h : s.mdr.state = .tripped) :
    deliverTInv t s = noteRaise .invHot (.celsius t) (inverterTaken t s) ∨ deliverTInv t s = inverterTaken t s := by
  obtain ⟨state, -⟩ := inverterTaken_motor t s
  rw [deliverTInv_eq]
  dsimp only
  split
  · exact .inl (raiseStop_tripped (state.trans h) ..)
  · exact .inr (if_neg (by simp [state, h]))

theorem raiseStop_inverter (k : FaultKind) (d : Detail) (s : State) :
    (raiseStop k d s).mdr.tInv = s.mdr.tInv ∧ (raiseStop k d s).mdr.derate = s.mdr.derate ∧
      ((raiseStop k d s).mdr.state = .off → s.mdr.state = .off) := by
  unfold raiseStop applyStop trip
  split <;> simp

theorem precheckDecide_inverter (t : Int) (s : State) :
    (precheckDecide t s).mdr.tInv = s.mdr.tInv ∧ (precheckDecide t s).mdr.derate = s.mdr.derate ∧
      ((precheckDecide t s).mdr.state = .off → s.mdr.state = .off) := by
  unfold precheckDecide
  repeat' split
  · exact raiseStop_inverter _ _ s
  all_goals simp

theorem deliverTInv_inverter (t : Int) (s : State) : (deliverTInv t s).mdr.tInv = some t ∧
    (deliverTInv t s).mdr.derate = derateCurrent s.motorPar t ∧
      ((deliverTInv t s).mdr.state = .off → s.mdr.state = .off) := by
  have mdr := inverterTaken_mdr t s
  have taken : (inverterTaken t s).mdr.tInv = some t ∧ (inverterTaken t s).mdr.derate = derateCurrent s.motorPar t ∧
      ((inverterTaken t s).mdr.state = .off → s.mdr.state = .off) := by simp [mdr]
  rw [deliverTInv_eq]
  dsimp only
  repeat' split
  · obtain ⟨tInv, derate, off⟩ := raiseStop_inverter .invHot (.celsius t) (inverterTaken t s)
    exact ⟨tInv.trans taken.1, derate.trans taken.2.1, fun k => taken.2.2 (off k)⟩
  · obtain ⟨tInv, derate, off⟩ := precheckDecide_inverter t (inverterTaken t s)
    exact ⟨tInv.trans taken.1, derate.trans taken.2.1, fun k => taken.2.2 (off k)⟩
  · exact taken

theorem demandRefresh_inverter (s : State) : (demandRefresh s).mdr.tInv = s.mdr.tInv ∧
    (demandRefresh s).mdr.derate = s.mdr.derate ∧ ((demandRefresh s).mdr.state = .off → s.mdr.state = .off) := by
  unfold demandRefresh demandRise demandFall
  dsimp only
  repeat' split
  all_goals simp [evaluateAs]

/-! ### The motor before T_INV (R8, R107) -/

theorem hotJudged_off (r : ScanReading) (s : State) : (hotJudged r s).mdr.state = .off → s.mdr.state = .off := by
  unfold hotJudged judgePackHot
  repeat' split
  · intro off
    simpa using (raiseStop_inverter _ _ _).2.2 off
  · simp
  · simp

theorem enterCutoff_off (s : State) : (enterCutoff s).mdr.state = .off → s.mdr.state = .off := by
  let noted := noteRaise .cellUv (.cell (weakestUvCell s.pkm)) (s.setPkm { s.pkm with state := .cutoff })
  have stopped : (enterCutoff s).mdr = (forcedStop noted).mdr := by simp [enterCutoff, noted]
  rw [stopped]
  intro off
  simpa [noted, clearClaims] using (demandRefresh_inverter (clearClaims noted)).2.2 off

theorem cellsProtected_off (before : Pkm) (s : State) : (cellsProtected before s).mdr.state = .off → s.mdr.state = .off := by
  unfold cellsProtected
  split
  · simpa using enterCutoff_off s
  · simp

end Sys2Proof.Proofs

namespace Sys2Proof.Proofs

open Sys2Proof.Machine Sys2Proof.Safety

/-! ### The deliveries of an ON scan end (R100) -/

theorem deliverTInv_unqualified {s : State} (h : s.chc.state ≠ .qualify) (t : Int) : (deliverTInv t s).chc = s.chc ∧
    (deliverTInv t s).dlk = s.dlk ∧ (deliverTInv t s).pkm.state = s.pkm.state := by
  have taken : (inverterTaken t s).chc.state ≠ .qualify := by simpa using h
  have stopped := raiseStop_unqualified taken .invHot (.celsius t)
  have moved (new : MotorState) (cause : MotorCause) (pend : Bool) := motorTo_unqualified taken new cause pend
  simp only [inverterTaken_frame] at stopped moved
  rw [deliverTInv_eq]
  dsimp only
  split
  · exact stopped
  · split
    · unfold precheckDecide
      repeat' split
      · exact stopped
      all_goals exact moved ..
    · simp

/-- The state in which the charge is scanned: the gauge moved, T_INV taken, the record evaluated. -/
def inverterDelivered (u : State) : State :=
  evaluate (deliverTInv (u.pkm.tInv.getD 0) (u.setPkm { u.pkm with scanned := true }))

theorem deliverScan_eq (u : State) : deliverScan u = dockScan (chargeScan (inverterDelivered u)) := rfl

theorem inverterDelivered_unqualified {u : State} (h : u.chc.state ≠ .qualify) : (inverterDelivered u).chc = u.chc ∧
    (inverterDelivered u).dlk = u.dlk ∧ (inverterDelivered u).pkm.state = u.pkm.state := by
  obtain ⟨chc, dlk, state⟩ := deliverTInv_unqualified (s := u.setPkm { u.pkm with scanned := true }) h (u.pkm.tInv.getD 0)
  simp only [inverterDelivered, evaluate_frame]
  exact ⟨chc, dlk, state⟩

/-- The charge leaves the pack state of an ON scan end alone where CUTOFF and a charge do not meet. -/
theorem deliverScan_pack {u : State} (unqualified : u.chc.state ≠ .qualify) (h : PackStands u) :
    (deliverScan u).pkm.state = u.pkm.state := by
  obtain ⟨chc, -, state⟩ := inverterDelivered_unqualified unqualified
  rw [deliverScan_eq, (dockScan_frame _).2.2.2.2.2.2.2.1, chargeScan_pack, state]
  unfold PackStands
  rw [chc, state]
  exact h

/-- A charge in FAULT is left there by its scan: the setpoint capped, the bleed set empty. -/
theorem chargeScan_fault {s : State} (h : s.chc.state = .fault) : (chargeScan s).chc.state = .fault ∧
    (chargeScan s).chc.faultCause = s.chc.faultCause ∧ (chargeScan s).chc.iSet ≤ s.chc.iSet ∧
      (chargeScan s).dlk = s.dlk ∧ (chargeScan s).fmg = s.fmg := by
  have untested (i : Int) : stageTest i s = s := if_neg (by simp [h, stageJudged, isCharging])
  have stays (i : Int) : chargeStepped i (capSetpoint s) = capSetpoint s := by
    simp [chargeStepped, capSetpoint, h, isCharging, stateStep]
  obtain ⟨set, scanned⟩ := chargeScan_eq s
  rw [scanned, chargeTested, untested, stays]
  simp [handBleed, capSetpoint, h]

theorem ovEvents_charge (l : List Nat) (s : State) : (l.foldl (fun s i => ovEvent i s) s).chc.state = s.chc.state ∨
    (l.foldl (fun s i => ovEvent i s) s).chc.state = .fault := by
  cases l with
  | nil => exact .inl rfl
  | cons cell l =>
    cases charges : isCharging s.chc.state with
    | true => exact .inr (by rw [(ovEvents_faults charges cell l).1, enteredChc_state])
    | false => exact .inl (by rw [(ovEvents_calm charges (cell :: l)).2.1])

/-- The cells' protections leave the charge where it stands, or in FAULT. -/
theorem cellsProtected_charge (before : Pkm) (s : State) : (cellsProtected before s).chc.state = s.chc.state ∨
    (cellsProtected before s).chc.state = .fault := by
  cases cut : cutoffDue s with
  | true => exact .inl (by rw [(cellsProtected_cut cut before).2.1])
  | false => rw [cellsProtected_uncut cut]; exact ovEvents_charge _ s

theorem gaugeDone_charge {was now : ChargeState} {x : ChargeState} (h : x = was ∨ (x = .fault ∧ now = .fault))
    (t : Uptime) (g : Gge) : gaugeDone x now t g = gaugeDone was now t g := by
  obtain same | ⟨fault, stays⟩ := h
  · rw [same]
  · rw [gaugeDone_elsewhere (.inl (by simp [stays])), gaugeDone_elsewhere (.inl (by simp [stays]))]

/-- The gauge through the deliveries: full where the charge is done at this scan end (R119). -/
theorem deliverScan_gauge (u : State) : (deliverScan u).gge =
    gaugeDone (inverterDelivered u).chc.state (deliverScan u).chc.state (inverterDelivered u).slc.uptime u.gge := by
  have gauge : (inverterDelivered u).gge = u.gge := by simp [inverterDelivered]
  have scanned := chargeScan_gauge (inverterDelivered u)
  rw [gauge] at scanned
  rw [deliverScan_eq]
  simp only [dockScan_frame]
  exact scanned

theorem gaugeDone_rest (was now : ChargeState) (t : Uptime) (g : Gge) :
    (gaugeDone was now t g).f = g.f ∧ (gaugeDone was now t g).estimatePending = g.estimatePending := by
  unfold gaugeDone
  split <;> exact ⟨rfl, rfl⟩

theorem gaugeDone_q (was now : ChargeState) (t : Uptime) (g : Gge) :
    (gaugeDone was now t g).q = if now = .done ∧ was ≠ .done then fullCharge g.f else g.q := by
  unfold gaugeDone
  split <;> rfl

end Sys2Proof.Proofs

namespace Sys2Proof.Proofs

open Sys2Proof.Machine Sys2Proof.Safety

/-! ### The pack state at an ON scan end (R103, R104, R108) -/

theorem uncutState_congr {s t : State} (gge : t.gge = s.gge) (par : t.packPar = s.packPar)
    (discharge : t.pkm.discharge = s.pkm.discharge) : uncutState t = judgedPack s := by
  simp only [uncutState, judgedPack, gge, par, discharge]

/-- The measures of the cells' protections are those recorded. -/
theorem cellsProtected_measures (r : ScanReading) (s : State) :
    measured (cellsProtected s.pkm (hotJudged r s)).pkm = measured (recordOthers r (recordCells r s)).pkm :=
  (measured_cellsProtected ..).trans (hotJudged_measured r s)

/-- The voltages of the cells are the ones read. -/
theorem measured_mv {p : Pkm} {r : ScanReading} {s : State}
    (h : measured p = measured (recordOthers r (recordCells r s)).pkm) :
    p.cells.map (·.mv) = r.cells.map fun v => some (clampNat 0 5000 v) := by
  have mv (q : Pkm) : (measured q).cells.map (·.mv) = q.cells.map (·.mv) := rfl
  rw [← mv p, h, mv, recordOthers_pkm]
  exact scannedCells_mv r s

section
variable {r : ScanReading} {s : State}

/-- The cells have recovered at the pack's judgement as the voltages read say (R104). -/
theorem protected_recovered : cellsRecovered (judgeDeepUv (cellsProtected s.pkm (hotJudged r s))).1 = true ↔
    ∀ x ∈ r.cells.toList, s.packPar.uvRelease ≤ clampNat 0 5000 x := by
  have mv := measured_mv (cellsProtected_measures r s)
  rw [cellsRecovered_iff (v := r.cells) (by rw [judgeDeepUv_pkm]; exact mv)]
  simp [hotJudged]

/-- In CUTOFF with a cell below uv_release the pack stays there (R104). -/
theorem packJudged_cut (cut : (cellsProtected s.pkm (hotJudged r s)).pkm.state = .cutoff)
    (low : ¬ ∀ x ∈ r.cells.toList, s.packPar.uvRelease ≤ clampNat 0 5000 x) : (packJudged r s).pkm.state = .cutoff := by
  have stays : (judgeRelease (judgeDeepUv (cellsProtected s.pkm (hotJudged r s))).1).pkm.state = .cutoff := by
    rw [judgeRelease_pack, if_neg fun k => low (protected_recovered.1 k.2), judgeDeepUv_pkm]
    exact cut
  rw [packJudged, judgePackState_pack, if_pos stays]

/-- Outside CUTOFF, or with every cell at uv_release, the pack state is judged anew (R104, R108). -/
theorem packJudged_uncut (uncut : cutoffDue (hotJudged r s) = false) (same : (hotJudged r s).pkm.state = s.pkm.state)
    (high : s.pkm.state ≠ .cutoff ∨ ∀ x ∈ r.cells.toList, s.packPar.uvRelease ≤ clampNat 0 5000 x) :
    (packJudged r s).pkm.state = if s.pkm.scanned then judgedPack s else .normal := by
  let d := (judgeDeepUv (cellsProtected s.pkm (hotJudged r s))).1
  have measures : measured (judgeRelease d).pkm = { measured (recordOthers r (recordCells r s)).pkm with
      deepPending := d.pkm.deepPending } := by
    rw [measured_judgeRelease, ← cellsProtected_measures]
    rfl
  have discharge : (judgeRelease d).pkm.discharge = s.pkm.discharge :=
    (congrArg Pkm.discharge measures).trans (by rw [recordOthers_pkm]; rfl)
  have scanned : (judgeRelease d).pkm.scanned = s.pkm.scanned :=
    (congrArg Pkm.scanned measures).trans (by rw [recordOthers_pkm]; rfl)
  have gauge : d.gge = s.gge := by
    simp only [d, judgeDeepUv_frame, cellsProtected_gauge, uncut]
    simp [hotJudged]
  have state : d.pkm.state = s.pkm.state := by
    simp only [d, judgeDeepUv_pkm, cellsProtected_pack, uncut, same]
    simp
  have judged (t : State) (gge : t.gge = d.gge) (par : t.packPar = d.packPar)
      (k : t.pkm.discharge = s.pkm.discharge) : uncutState t = judgedPack s :=
    uncutState_congr (gge.trans gauge) (par.trans (by simp [d, hotJudged])) k
  have away : (judgeRelease d).pkm.state ≠ .cutoff := by
    rw [judgeRelease_pack]
    split
    · exact uncutState_ne d
    · next kept =>
      rw [state] at kept ⊢
      obtain uncut | recovered := high
      · exact uncut
      · exact fun cut => kept ⟨cut, protected_recovered.2 recovered⟩
  have named : (packJudged r s).pkm.state = (judgePackState (judgeRelease d)).pkm.state := rfl
  rw [named, judgePackState_pack, if_neg away, scanned, judged _ (by simp) (by simp) discharge]

end

end Sys2Proof.Proofs

namespace Sys2Proof.Proofs

open Sys2Proof.Machine Sys2Proof.Safety

/-! ### An ON scan end as a whole: what it measures and counts (R101, R107 to R112, R116) -/

/-- An ON scan's end without a deep flag, from the state in which the scan stands. -/
def onScanned (sc : Scan) (r : ScanReading) (s : State) : State :=
  demandRefresh (deliverScan (gaugeMoved sc r (scanClosed sc s)))

section
variable {sc : Scan} {r : ScanReading} {s : State}

theorem exec_scanEnd_on (on : s.slc.power = .on) (begun : s.pkm.scan = some sc) (awake : sc.watch = false)
    (shallow : (scannedCells r s).toList.any (·.deep) = false) :
    exec (.scanEnd r) s = .next (beginTransmission (onScanned sc r s)) := by
  have ended : scanEnd r s = onScanned sc r s := by
    rw [scanEnd_begun begun, if_neg (by simp [awake]), onScanEnd_shallow (s := scanClosed sc s) shallow]
    rfl
  rw [← ended]
  exact congrArg Host.Outcome.next (whilePowered_on on)

/-- What the Pack Monitor holds after an ON scan end, but for what the deliveries move. -/
theorem onScanned_measured (shallow : (scannedCells r s).toList.any (·.deep) = false) :
    measured (onScanned sc r s).pkm = { allowances sc s.packPar s.chargePar
      { measured (recordOthers r (recordCells r (scanClosed sc s))).pkm with deepPending := false } with
        scanned := true } := by
  rw [onScanned, measured_demandRefresh, measured_deliverScan, measured_gaugeMoved (s := scanClosed sc s) shallow]
  rfl

theorem onScanned_off : (onScanned sc r s).mdr.state = .off → s.mdr.state = .off := by
  intro off
  have delivered := (demandRefresh_inverter _).2.2 off
  simp only [deliverScan_eq, dockScan_frame, chargeScan_frame, inverterDelivered, evaluate_frame] at delivered
  have moved := (deliverTInv_inverter _ _).2.2 delivered
  simp only [State.setPkm_mdr, (gaugeMoved_frame ..).1] at moved
  exact hotJudged_off r (scanClosed sc s) (cellsProtected_off _ _ moved)

/-- The motor takes T_INV, and its derate with it (R42). -/
theorem onScanned_inverter (shallow : (scannedCells r s).toList.any (·.deep) = false) :
    (onScanned sc r s).mdr.tInv = some (clampInt (-40) 125 r.tInv) ∧
      (onScanned sc r s).mdr.derate = derateCurrent s.motorPar (clampInt (-40) 125 r.tInv) := by
  obtain ⟨tInv, derate, -⟩ := demandRefresh_inverter (deliverScan (gaugeMoved sc r (scanClosed sc s)))
  obtain ⟨tInv', derate', -⟩ := deliverTInv_inverter ((gaugeMoved sc r (scanClosed sc s)).pkm.tInv.getD 0)
    ((gaugeMoved sc r (scanClosed sc s)).setPkm { (gaugeMoved sc r (scanClosed sc s)).pkm with scanned := true })
  have read : (gaugeMoved sc r (scanClosed sc s)).pkm.tInv = some (clampInt (-40) 125 r.tInv) := by
    refine (congrArg Pkm.tInv (measured_gaugeMoved (sc := sc) (s := scanClosed sc s) shallow)).trans ?_
    rw [recordOthers_pkm]
    rfl
  have par : (gaugeMoved sc r (scanClosed sc s)).motorPar = s.motorPar := (gaugeMoved_frame ..).2.2.2.2.2.2.1.1
  rw [onScanned, tInv, derate]
  simp only [deliverScan_eq, dockScan_frame, chargeScan_frame, inverterDelivered, evaluate_frame]
  rw [tInv', derate', read, State.setPkm_motorPar, par]
  exact ⟨rfl, rfl⟩

theorem onScanned_frame : (onScanned sc r s).sbt = s.sbt ∧ ParamsKept s (onScanned sc r s) ∧
    (onScanned sc r s).pending = s.pending := by
  simp [onScanned, gaugeMoved, packJudged, hotJudged, scanClosed, ParamsKept]

/-- No cell newly at deep_uv, none before: no deep flag after the scan (R102). -/
theorem scannedCells_shallow (deep : s.packPar.deepUv ≤ 5000)
    (h : ∀ v ∈ r.cells.toList, (s.packPar.deepUv : Int) ≤ v) : (scannedCells r s).toList.any (·.deep) = false := by
  refine scannedCells_unmarked fun c v member => scannedCell_shallow c ?_
  have := h v member
  simp only [clampNat, clampInt]
  omega

/-- CUTOFF is entered at an ON scan end as the flags, the charge and the pack state say (R103). -/
theorem cutoffDue_hotJudged (same : (hotJudged r (scanClosed sc s)).chc = s.chc ∧
      (hotJudged r (scanClosed sc s)).pkm.state = s.pkm.state) : cutoffDue (hotJudged r (scanClosed sc s)) =
    ((scannedCells r s).toList.any (·.uv) && !isCharging s.chc.state && decide (s.pkm.state ≠ .cutoff)) := by
  have flags : (hotJudged r (scanClosed sc s)).pkm.cells.toList.any (·.uv) = (scannedCells r s).toList.any (·.uv) := by
    have uv (x : Pkm) := cells_any_measured (mark := (·.uv)) (fun _ => rfl) x
    rw [← uv, hotJudged_measured, uv, recordOthers_pkm]
    rfl
  simp only [cutoffDue, flags, same]

theorem hotJudged_uptime (r : ScanReading) (s : State) : (hotJudged r s).slc.uptime = s.slc.uptime := by
  unfold hotJudged judgePackHot raiseStop applyStop trip
  repeat' split
  all_goals simp

/-- The mean of the voltages read. -/
theorem meanMv_read {p : Pkm} {v : Seven Int} (h : p.cells.map (·.mv) = v.map fun x => some (clampNat 0 5000 x)) :
    meanMv p = (v.toList.map (clampNat 0 5000)).sum / 7 := by
  simp only [Seven.map, Seven.mk.injEq] at h
  obtain ⟨h1, h2, h3, h4, h5, h6, h7⟩ := h
  simp [meanMv, Seven.toList, h1, h2, h3, h4, h5, h6, h7]

/-- The gauge before the charge is scanned (R116, R118, R120). -/
theorem gaugeMoved_gauge {cut : Bool} (due : cutoffDue (hotJudged r (scanClosed sc s)) = cut)
    (shallow : (scannedCells r s).toList.any (·.deep) = false) :
    let g := (gaugeMoved sc r (scanClosed sc s)).gge
    g.q = (if s.gge.estimatePending then
        (if cut then 0 else s.gge.f * estimateSoc ((r.cells.toList.map (clampNat 0 5000)).sum / 7) * 36000)
      else clampNat 0 (fullCharge s.gge.f)
        ((if cut then 0 else (s.gge.q : Int)) - clampInt (-60000) 60000 r.current * sc.dt)) ∧
      g.estimatePending = false ∧ g.f = s.gge.f ∧ (cut = true → g.event = .empty) := by
  let c := scanClosed sc s
  let m := moveAllowances sc (packJudged r c)
  have gauge : m.gge = if cut then { s.gge with q := 0, event := .empty, eventAt := s.slc.uptime } else s.gge := by
    have up : (hotJudged r c).slc.uptime = s.slc.uptime := hotJudged_uptime r c
    simp only [m, moveAllowances_frame, packJudged, judgePackState_frame, judgeRelease_frame, judgeDeepUv_frame,
      cellsProtected_gauge]
    rw [due, up]
    simp [hotJudged, c, scanClosed]
  have moved := gaugeStep_gauge sc cut m
  have named : gaugeMoved sc r c = gaugeStep sc cut m := by rw [← due]; rfl
  have measures := measured_gaugeMoved (sc := sc) (r := r) (s := c) shallow
  rw [named, (gaugeStep_frame ..).2.2.2.2.2.2.2.1, recordOthers_pkm] at measures
  have current : m.pkm.current = some (clampInt (-60000) 60000 r.current) := congrArg Pkm.current measures
  have mean : meanMv m.pkm = (r.cells.toList.map (clampNat 0 5000)).sum / 7 :=
    meanMv_read (congrArg (fun p => p.cells.map (·.mv)) measures)
  rw [named]
  dsimp only at moved ⊢
  rw [gauge, current, mean] at moved
  cases cut <;> simpa using moved

end

end Sys2Proof.Proofs

namespace Sys2Proof.Proofs

open Sys2Proof.Machine Sys2Proof.Safety

section
variable {sc : Scan} {r : ScanReading} {s : State}

/-- What an ON scan end leaves in the gauge of the estimate and the capacity. -/
theorem onScanned_gauge_rest (shallow : (scannedCells r s).toList.any (·.deep) = false) :
    (onScanned sc r s).gge.estimatePending = false ∧ (onScanned sc r s).gge.f = s.gge.f := by
  obtain ⟨-, pending, f, -⟩ := gaugeMoved_gauge (sc := sc) (r := r) (s := s) rfl shallow
  rw [onScanned, (demandRefresh_frame _).2.1, deliverScan_gauge]
  exact ⟨(gaugeDone_rest ..).2.trans pending, (gaugeDone_rest ..).1.trans f⟩

/-- The charge when it is scanned stands where it stood before the scan's end, or in FAULT. -/
theorem inverterDelivered_charge (unqualified : s.chc.state ≠ .qualify) :
    (gaugeMoved sc r (scanClosed sc s)).chc.state ≠ .qualify ∧
      ((gaugeMoved sc r (scanClosed sc s)).chc.state = s.chc.state ∨
        (gaugeMoved sc r (scanClosed sc s)).chc.state = .fault) := by
  have hot : (hotJudged r (scanClosed sc s)).chc.state = s.chc.state := by
    rw [(hotJudged_unqualified (s := scanClosed sc s) unqualified r).1]
    rfl
  have charge := cellsProtected_charge (scanClosed sc s).pkm (hotJudged r (scanClosed sc s))
  rw [← (gaugeMoved_frame sc r (scanClosed sc s)).2.1, hot] at charge
  refine ⟨?_, charge⟩
  obtain same | fault := charge
  · rwa [same]
  · simp [fault]

/-- Q after an ON scan end with no charge in QUALIFY (R116, R118 to R120). -/
theorem onScanned_q {cut : Bool} (unqualified : s.chc.state ≠ .qualify)
    (due : cutoffDue (hotJudged r (scanClosed sc s)) = cut)
    (shallow : (scannedCells r s).toList.any (·.deep) = false) : (onScanned sc r s).gge.q =
      if (onScanned sc r s).chc.state = .done ∧ s.chc.state ≠ .done then fullCharge s.gge.f
      else if s.gge.estimatePending then
        (if cut then 0 else s.gge.f * estimateSoc ((r.cells.toList.map (clampNat 0 5000)).sum / 7) * 36000)
      else clampNat 0 (fullCharge s.gge.f)
        ((if cut then 0 else (s.gge.q : Int)) - clampInt (-60000) 60000 r.current * sc.dt) := by
  let u := gaugeMoved sc r (scanClosed sc s)
  obtain ⟨still, charge⟩ := inverterDelivered_charge (sc := sc) (r := r) unqualified
  obtain ⟨chc, -⟩ := inverterDelivered_unqualified still
  obtain ⟨q, -, f, -⟩ := gaugeMoved_gauge due shallow
  have final : (onScanned sc r s).chc = (deliverScan u).chc := (demandRefresh_charge _).1
  have standing : u.chc.state = s.chc.state ∨ (u.chc.state = .fault ∧ (deliverScan u).chc.state = .fault) := by
    obtain same | fault := charge
    · exact .inl same
    · refine .inr ⟨fault, ?_⟩
      rw [deliverScan_eq, (dockScan_frame _).2.2.2.2.2.2.2.2.2.1]
      exact (chargeScan_fault (by rw [chc]; exact fault)).1
  have gauge : (onScanned sc r s).gge = gaugeDone s.chc.state (deliverScan u).chc.state
      (inverterDelivered u).slc.uptime u.gge := by
    rw [onScanned, (demandRefresh_frame _).2.1, deliverScan_gauge, chc]
    exact gaugeDone_charge standing ..
  rw [gauge, gaugeDone_q, final, f, q]

/-! ### CUTOFF at an ON scan end (R103, R104) -/

/-- The pack state after an ON scan end with no charge in QUALIFY is the one judged before the deliveries. -/
theorem onScanned_pack (unqualified : s.chc.state ≠ .qualify)
    (h : (packJudged r (scanClosed sc s)).pkm.state ≠ .cutoff ∨ isCharging s.chc.state = false) :
    (onScanned sc r s).pkm.state = (packJudged r (scanClosed sc s)).pkm.state := by
  obtain ⟨still, charge⟩ := inverterDelivered_charge (sc := sc) (r := r) unqualified
  have state : (gaugeMoved sc r (scanClosed sc s)).pkm.state = (packJudged r (scanClosed sc s)).pkm.state := by
    rw [gaugeMoved, (gaugeStep_frame ..).2.2.2.2.2.2.2.1]
    rfl
  have stands : PackStands (gaugeMoved sc r (scanClosed sc s)) := by
    unfold PackStands
    rw [state]
    obtain uncut | uncharged := h
    · exact .inl uncut
    · refine .inr ⟨?_, still⟩
      obtain same | fault := charge
      · rw [same]; exact uncharged
      · rw [fault]; rfl
  rw [onScanned, demandRefresh_pkm, ← state]
  exact deliverScan_pack still stands

end

end Sys2Proof.Proofs

namespace Sys2Proof.Proofs

open Sys2Proof.Machine Sys2Proof.Safety

/-! ### The weakest of the flagged cells (R103) -/

/-- The first of the numbered voltages that no other is below. -/
theorem weakest_least (l : List (Nat × Nat)) (ne : l ≠ []) (sorted : l.Pairwise fun x y => x.1 < y.1) :
    ∃ x ∈ l, weakest l = some x ∧ ∀ y ∈ l, x.2 ≤ y.2 ∧ (y.1 < x.1 → x.2 < y.2) := by
  induction l with
  | nil => exact absurd rfl ne
  | cons c rest ih =>
    obtain ⟨before, sorted'⟩ := List.pairwise_cons.1 sorted
    by_cases only : rest = []
    · subst only
      exact ⟨c, by simp, rfl, by simp⟩
    · obtain ⟨d, member, least, below⟩ := ih only sorted'
      by_cases lower : d.2 < c.2
      · refine ⟨d, by simp [member], by simp [weakest, least, lower], ?_⟩
        rintro y (_ | ⟨_, other⟩)
        · exact ⟨Nat.le_of_lt lower, fun _ => lower⟩
        · exact below y other
      · refine ⟨c, by simp, by simp [weakest, least, lower], ?_⟩
        rintro y (_ | ⟨_, other⟩)
        · exact ⟨Nat.le_refl _, fun k => absurd k (Nat.lt_irrefl _)⟩
        · have first := before y other
          have second := (below y other).1
          exact ⟨by omega, fun k => by omega⟩

/-- The cells of seven records with their numbers, voltages and UV flags. -/
def numberedCells (v : Seven CellRecord) : List (Nat × Nat × Bool) :=
  (v.zipWith (fun c i => (i, c.mv.getD 0, c.uv)) Seven.numbers).toList

theorem numberedCells_sorted (v : Seven CellRecord) : (numberedCells v).Pairwise fun x y => x.1 < y.1 := by
  simp [numberedCells, Seven.zipWith, Seven.numbers, Seven.toList]

theorem markedMvs_eq (p : Pkm) : markedMvs (·.uv) p =
    ((numberedCells p.cells).filter (·.2.2)).map fun x => (x.1, x.2.1) := by
  have marked : markedMvs (·.uv) p =
      (numberedCells p.cells).filterMap fun x => if x.2.2 then some (x.1, x.2.1) else none := rfl
  rw [marked]
  induction numberedCells p.cells with
  | nil => rfl
  | cons x l ih => cases flag : x.2.2 <;> simp [flag, ih]

theorem numberedCells_flagged {v : Seven CellRecord} (h : v.toList.any (·.uv) = true) :
    (numberedCells v).filter (·.2.2) ≠ [] := by
  intro none
  rw [List.filter_eq_nil_iff] at none
  simp [numberedCells, Seven.zipWith, Seven.numbers, Seven.toList] at none
  simp [Seven.toList, none] at h

/-- The cell the entry to CUTOFF names: the lowest of those flagged, of several at it the first (R103, log 22). -/
theorem weakestUvCell_least {p : Pkm} {v : Seven CellRecord} (h : markedMvs (·.uv) p =
      ((numberedCells v).filter (·.2.2)).map fun x => (x.1, x.2.1)) (flagged : v.toList.any (·.uv) = true) :
    ∃ x ∈ (numberedCells v).filter (·.2.2), weakestUvCell p = x.1 ∧
      ∀ y ∈ (numberedCells v).filter (·.2.2), x.2.1 ≤ y.2.1 ∧ (y.1 < x.1 → x.2.1 < y.2.1) := by
  have sorted : (markedMvs (·.uv) p).Pairwise fun x y => x.1 < y.1 := by
    rw [h, List.pairwise_map]
    exact (numberedCells_sorted v).filter _
  obtain ⟨x, member, least, below⟩ := weakest_least _ (by simp [h, numberedCells_flagged flagged]) sorted
  simp only [h, List.mem_map] at member below
  obtain ⟨a, isFlagged, rfl⟩ := member
  refine ⟨a, isFlagged, by simp [weakestUvCell, least], fun y other => ?_⟩
  exact below _ ⟨y, other, rfl⟩

end Sys2Proof.Proofs

namespace Sys2Proof.Proofs

open Sys2Proof.Machine Sys2Proof.Safety

/-! ### CUTOFF at an ON scan end (R103) -/

theorem scannedCells_marked {r : ScanReading} {s : State} {mark : CellRecord → Bool}
    (h : (scannedCells r s).toList.any mark = true) :
    ∃ c, ∃ v ∈ r.cells.toList, mark (scannedCell s.packPar c v) = true := by
  by_contra none
  push Not at none
  simp [scannedCells_unmarked fun c v member => by simpa using none c v member] at h

/-- A cell flagged stands below uv_release. -/
theorem flagged_low {r : ScanReading} {s : State} (flagged : (scannedCells r s).toList.any (·.uv) = true)
    (order : s.packPar.cellUv ≤ s.packPar.uvRelease) :
    ¬ ∀ x ∈ r.cells.toList, s.packPar.uvRelease ≤ clampNat 0 5000 x := by
  obtain ⟨c, v, member, uv⟩ := scannedCells_marked flagged
  intro high
  have low := scannedCell_low uv
  have := high v member
  omega

/-- With no charge on and none done, a scan of the charge ends with none done. -/
theorem chargeScan_undone {s : State} (uncharged : isCharging s.chc.state = false) (unqualified : s.chc.state ≠ .qualify)
    (done : (chargeScan s).chc.state = .done) : s.chc.state = .done := by
  obtain ⟨set, scanned⟩ := chargeScan_eq s
  have bled (t : State) : (handBleed set t).chc.state = t.chc.state := rfl
  rw [scanned, bled] at done
  generalize (measuredCharge s.pkm).getD 0 = i at done
  obtain ⟨-, -, same | fault⟩ := chargeTested_charge s
  · rw [← same] at uncharged unqualified ⊢
    by_contra undone
    rw [chargeStepped, if_neg (by simp [uncharged])] at done
    split at done
    · next suspended => exact suspendStep_undone suspended done
    · next free =>
      cases state : (chargeTested s).chc.state <;> simp [state, isCharging, stateStep] at *
  · simp [chargeStepped, fault, isCharging, stateStep] at done

theorem deliverTInv_table {j : FaultKind} {s : State} (hot : .invHot ≠ j) (ov : j ≠ .cellOv ∨ s.chc.state ≠ .qualify)
    (t : Int) : (deliverTInv t s).fmg.table.get j = s.fmg.table.get j := by
  have stopped := raiseStop_table (s := inverterTaken t s) hot (by simpa using ov) (.celsius t)
  have moved {new : MotorState} (h : motorParked new = false) (cause : MotorCause) (pend : Bool) :
      (motorTo new cause pend (inverterTaken t s)).fmg = s.fmg := by
    rw [(motorTo_moving h cause pend _).2.2.2.1]
    simp
  simp only [inverterTaken_frame] at stopped
  rw [deliverTInv_eq]
  dsimp only
  repeat' split
  · exact stopped
  · unfold precheckDecide
    repeat' split
    · exact stopped
    · rw [moved rfl]
    · rw [moved rfl]
    · rw [moved rfl]
  · simp

theorem inverterDelivered_table {j : FaultKind} {u : State} (hot : .invHot ≠ j)
    (ov : j ≠ .cellOv ∨ u.chc.state ≠ .qualify) :
    (inverterDelivered u).fmg.table.get j = u.fmg.table.get j := by
  simp only [inverterDelivered, evaluate_frame]
  exact deliverTInv_table (s := u.setPkm { u.pkm with scanned := true }) hot ov _

theorem deliverScan_table {j : FaultKind} (hot : .invHot ≠ j) (ov : .cellOv ≠ j) (stage : .stage ≠ j) (u : State) :
    (deliverScan u).fmg.table.get j = u.fmg.table.get j := by
  rw [deliverScan_eq, (dockScan_frame _).2.2.2.2.2.2.2.2.2.2.2.1, (chargeScan_stands ov stage _).table]
  exact inverterDelivered_table hot (.inl ov.symm)

theorem hotJudged_table {j : FaultKind} {s : State} (hot : .packHot ≠ j) (ov : j ≠ .cellOv ∨ s.chc.state ≠ .qualify)
    (r : ScanReading) : (hotJudged r s).fmg.table.get j = s.fmg.table.get j := by
  unfold hotJudged judgePackHot
  repeat' split
  · rw [raiseStop_table hot (by simpa using ov)]
    simp
  · simp
  · simp

section
variable {sc : Scan} {r : ScanReading} {s : State}

/-- The entry to CUTOFF at an ON scan end, as far as the deliveries leave it. -/
theorem onScanned_cut (unqualified : s.chc.state ≠ .qualify)
    (due : ((scannedCells r s).toList.any (·.uv) && !isCharging s.chc.state && decide (s.pkm.state ≠ .cutoff)) = true)
    (shallow : (scannedCells r s).toList.any (·.deep) = false) (order : s.packPar.cellUv ≤ s.packPar.uvRelease) :
    let t := onScanned sc r s
    t.pkm.state = .cutoff ∧ Stopped t ∧ t.gge.event = .empty ∧
      t.fmg.table.cellUv = raisedEntry .cellUv (.cell (weakestUvCell (hotJudged r (scanClosed sc s)).pkm)) s := by
  let c := scanClosed sc s
  let u := gaugeMoved sc r c
  obtain ⟨hotChc, -, hotPack⟩ := hotJudged_unqualified (s := c) unqualified r
  have enters : cutoffDue (hotJudged r c) = true := (cutoffDue_hotJudged ⟨hotChc, hotPack⟩).trans due
  obtain ⟨flagged, uncharged⟩ : (scannedCells r s).toList.any (·.uv) = true ∧ isCharging s.chc.state = false := by
    simp only [Bool.and_eq_true, Bool.not_eq_true'] at due
    exact due.1
  obtain ⟨-, chc, -, -, fmg, -⟩ := cellsProtected_cut enters c.pkm
  obtain ⟨-, chc', -, fmg', -⟩ := gaugeMoved_frame sc r c
  have charge : u.chc = s.chc := chc'.trans (chc.trans hotChc)
  refine ⟨?pack, ?stopped, ?event, ?table⟩
  case pack =>
    refine (onScanned_pack unqualified (.inr uncharged)).trans (packJudged_cut ?_ (flagged_low (s := c) flagged order))
    rw [cellsProtected_pack, enters]
    rfl
  case stopped =>
    have protect : Stopped (cellsProtected c.pkm (hotJudged r c)) := by
      rw [cellsProtected, if_pos enters]
      exact ovEvents_stopped (enterCutoff_stopped _) _
    have delivered := deliverScan_stopped (protect.kept (gaugeMoved_resolverKept sc r c))
    have rests : onScanned sc r s = deliverScan (gaugeMoved sc r c) := delivered.rests
    exact rests ▸ delivered
  case event =>
    obtain ⟨-, -, -, event⟩ := gaugeMoved_gauge (sc := sc) enters shallow
    obtain ⟨given, -⟩ := inverterDelivered_unqualified (u := u) (by rw [charge]; exact unqualified)
    have undone : (deliverScan u).chc.state ≠ .done ∨ (inverterDelivered u).chc.state = .done := by
      by_cases done : (deliverScan u).chc.state = .done
      · refine .inr (chargeScan_undone (by rw [given, charge]; exact uncharged)
          (by rw [given, charge]; exact unqualified) ?_)
        rwa [deliverScan_eq, (dockScan_frame _).2.2.2.2.2.2.2.2.2.1] at done
      · exact .inl done
    rw [onScanned, (demandRefresh_frame _).2.1, deliverScan_gauge, gaugeDone_elsewhere undone]
    exact event rfl
  case table =>
    have kept := deliverScan_table (j := .cellUv) (by simp) (by simp) (by simp) u
    have before := hotJudged_table (j := .cellUv) (s := c) (by simp) (.inl (by simp)) r
    have raised : u.fmg.table.cellUv =
        raisedEntry .cellUv (.cell (weakestUvCell (hotJudged r c).pkm)) (hotJudged r c) := by
      rw [fmg', fmg, noteRaise_fmg_eq]
      rfl
    have same : raisedEntry .cellUv (.cell (weakestUvCell (hotJudged r c).pkm)) (hotJudged r c) =
        raisedEntry .cellUv (.cell (weakestUvCell (hotJudged r c).pkm)) s := by
      simp only [raisedEntry, before, hotJudged_uptime]
      rfl
    rw [onScanned, (demandRefresh_charge _).2.2]
    exact kept.trans (raised.trans same)

/-- The cell named by CUTOFF, among those the scan flags. -/
theorem onScanned_weakest (flagged : (scannedCells r s).toList.any (·.uv) = true) :
    ∃ x ∈ (numberedCells (scannedCells r s)).filter (·.2.2),
      weakestUvCell (hotJudged r (scanClosed sc s)).pkm = x.1 ∧
        ∀ y ∈ (numberedCells (scannedCells r s)).filter (·.2.2), x.2.1 ≤ y.2.1 ∧ (y.1 < x.1 → x.2.1 < y.2.1) := by
  refine weakestUvCell_least ?_ flagged
  have marked (q : Pkm) : markedMvs (·.uv) (measured q) = markedMvs (·.uv) q := rfl
  rw [← marked, hotJudged_measured, marked, recordOthers_pkm, markedMvs_eq]
  rfl

/-- Where CUTOFF is not entered, and a pack in CUTOFF recovers, the pack state is judged anew (R104, R108). -/
theorem onScanned_uncut (unqualified : s.chc.state ≠ .qualify)
    (uncut : ((scannedCells r s).toList.any (·.uv) && !isCharging s.chc.state && decide (s.pkm.state ≠ .cutoff)) = false)
    (high : s.pkm.state ≠ .cutoff ∨ ∀ v ∈ r.cells.toList, s.packPar.uvRelease ≤ clampNat 0 5000 v) :
    (onScanned sc r s).pkm.state = if s.pkm.scanned then judgedPack s else .normal := by
  obtain ⟨chc, -, pack⟩ := hotJudged_unqualified (s := scanClosed sc s) unqualified r
  have judged := packJudged_uncut (r := r) (s := scanClosed sc s) ((cutoffDue_hotJudged ⟨chc, pack⟩).trans uncut) pack high
  have away : (packJudged r (scanClosed sc s)).pkm.state ≠ .cutoff := by
    rw [judged]
    split
    · exact uncutState_ne (scanClosed sc s)
    · simp
  exact (onScanned_pack unqualified (.inl away)).trans judged

/-- In CUTOFF with a cell below uv_release and no charge on, the pack stays there (R104). -/
theorem onScanned_stays (unqualified : s.chc.state ≠ .qualify) (uncharged : isCharging s.chc.state = false)
    (cut : s.pkm.state = .cutoff) (low : ∃ v ∈ r.cells.toList, clampNat 0 5000 v < s.packPar.uvRelease) :
    (onScanned sc r s).pkm.state = .cutoff := by
  obtain ⟨-, -, pack⟩ := hotJudged_unqualified (s := scanClosed sc s) unqualified r
  obtain ⟨v, member, below⟩ := low
  refine (onScanned_pack unqualified (.inr uncharged)).trans (packJudged_cut ?_ fun high => ?_)
  · rw [cellsProtected_pack, pack]
    split
    · rfl
    · exact cut
  · have : s.packPar.uvRelease ≤ clampNat 0 5000 v := high v member
    omega

end

end Sys2Proof.Proofs

namespace Sys2Proof.Proofs

open Sys2Proof.Machine Sys2Proof.Safety

/-! ### Trips at an ON scan end (R43, R107, R168, R170) -/

/-- The first cause, its detail and the state it tripped the motor in. -/
def firstCause (r : TripRecord) : FaultKind × Detail × MotorState := (r.first, r.detail, r.motor)

theorem FaultStands.cause {j : FaultKind} {s t : State} (h : FaultStands j s t) :
    t.fmg.trip.map firstCause = s.fmg.trip.map firstCause := by
  have first (o : Option TripRecord) : o.map firstCause = (o.map (causeSeen j)).map fun x => (x.1, x.2.1, x.2.2.1) := by
    cases o <;> rfl
  rw [first, h.trip, ← first]

/-- With the motor tripped in `s`, it stays so in `t`, and what is said of a kind stands. -/
structure TripStands (j : FaultKind) (s t : State) : Prop where
  state : t.mdr.state = s.mdr.state
  gates : t.mdr.gates = s.mdr.gates
  stopped : Stopped s → Stopped t
  fault : FaultStands j s t

theorem TripStands.trans {j : FaultKind} {s t u : State} (h : TripStands j s t) (k : TripStands j t u) :
    TripStands j s u :=
  ⟨k.state.trans h.state, k.gates.trans h.gates, fun x => k.stopped (h.stopped x), h.fault.trans k.fault⟩

theorem TripStands.of_mdr {j : FaultKind} {s t : State} (mdr : t.mdr = s.mdr) (stopped : Stopped s → Stopped t)
    (fault : FaultStands j s t) : TripStands j s t := ⟨by rw [mdr], by rw [mdr], stopped, fault⟩

theorem demandRefresh_tripped_stands {s : State} (h : s.mdr.state = .tripped) (j : FaultKind) :
    TripStands j s (demandRefresh s) := by
  refine .of_mdr ?_ (fun stopped => by rw [stopped.rests]; exact stopped) (.of_fmg (demandRefresh_charge s).2.2)
  unfold demandRefresh demandRise demandFall
  dsimp only
  repeat' split
  all_goals simp_all [evaluateAs]

theorem cellsProtected_trip {s : State} (h : s.mdr.state = .tripped) {j : FaultKind} (uv : .cellUv ≠ j) (ov : .cellOv ≠ j)
    (before : Pkm) : TripStands j s (cellsProtected before s) := by
  refine .of_mdr ?_ (fun stopped => cellsProtected_stopped stopped before) (cellsProtected_stands uv ov before s)
  let noted := noteRaise .cellUv (.cell (weakestUvCell s.pkm)) (s.setPkm { s.pkm with state := .cutoff })
  have parked : motorParked noted.mdr.state = true := by simp [noted, h, motorParked]
  have entered : (enterCutoff s).mdr = s.mdr := by
    have stays : (enterCutoff s).mdr = (forcedStop noted).mdr := by simp [enterCutoff, noted]
    rw [stays, (forcedStop_mdr noted).2.2 (.inr parked)]
    simp [noted]
  unfold cellsProtected
  split <;> simp [entered]

theorem gaugeMoved_trip (j : FaultKind) (sc : Scan) (r : ScanReading) (s : State) :
    TripStands j (cellsProtected s.pkm (hotJudged r s)) (gaugeMoved sc r s) := by
  obtain ⟨mdr, -, -, fmg, -⟩ := gaugeMoved_frame sc r s
  exact .of_mdr mdr (fun stopped => stopped.kept (gaugeMoved_resolverKept sc r s)) (.of_fmg fmg)

theorem inverterDelivered_trip {u : State} (h : u.mdr.state = .tripped) {j : FaultKind} (hot : .invHot ≠ j) :
    TripStands j u (inverterDelivered u) := by
  let v := u.setPkm { u.pkm with scanned := true }
  let t := u.pkm.tInv.getD 0
  have taken : TripStands j u (inverterTaken t v) := by
    have mdr := inverterTaken_mdr t v
    exact ⟨by rw [mdr]; rfl, by rw [mdr]; rfl, fun stopped => (stopped.of_drs (t := v) rfl).kept (inverterTaken_steady t v).toResolverKept,
      .of_fmg (by simp [v])⟩
  have delivered : TripStands j u (deliverTInv t v) := by
    obtain later | none := deliverTInv_tripped (t := t) (s := v) h
    · rw [later]
      exact taken.trans (.of_mdr (by simp) (fun stopped => stopped.of_drs (by simp)) (noteRaise_stands hot _ _))
    · rw [none]
      exact taken
  exact delivered.trans (.of_mdr (by simp [inverterDelivered, t, v])
    (fun stopped => stopped.kept (evaluate_resolverKept _)) (.of_fmg (by simp [inverterDelivered, t, v])))

/-- From T_INV on, whatever the motor's state. -/
theorem chargeDelivered_trip {j : FaultKind} (ov : .cellOv ≠ j) (stage : .stage ≠ j) (s : State) :
    TripStands j s (dockScan (chargeScan s)) :=
  .of_mdr (by simp) (fun stopped => stopped.kept ((chargeScan_steady s).trans (dockScan_steady _)).toResolverKept)
    ((chargeScan_stands ov stage s).trans (.of_fmg (by simp)))

section
variable {sc : Scan} {r : ScanReading} {s : State}

/-- A motor tripped when the cells are protected is so at the scan's end, its cause and PACK_HOT's place standing. -/
theorem onScanned_tripped (h : (hotJudged r (scanClosed sc s)).mdr.state = .tripped) :
    TripStands .packHot (hotJudged r (scanClosed sc s)) (onScanned sc r s) := by
  have protect := cellsProtected_trip h (j := .packHot) (by simp) (by simp) (scanClosed sc s).pkm
  have moved := protect.trans (gaugeMoved_trip .packHot sc r (scanClosed sc s))
  have delivered := moved.trans ((inverterDelivered_trip (moved.state.trans h) (by simp)).trans
    (chargeDelivered_trip (by simp) (by simp) _))
  exact delivered.trans (demandRefresh_tripped_stands (delivered.state.trans h) .packHot)

/-- The pack's temperature at the cut. -/
theorem judgePackHot_hot {t : Int} {s : State} (read : s.pkm.packT = some t) (hot : s.packPar.cut ≤ t)
    (met : motorWatched s.mdr.state = true ∨ overtakenByOc s = true) :
    judgePackHot s = raiseStop .packHot (.celsius t) s := by
  simp only [judgePackHot, read]
  exact if_pos ⟨hot, met⟩

theorem watched_untripped {m : MotorState} (h : motorWatched m = true) : m ≠ .tripped := by
  rintro rfl
  simp [motorWatched] at h

/-- A hot pack trips a watched motor (R107). -/
theorem onScanned_packHot (hot : s.packPar.cut ≤ max (clampInt (-40) 125 r.tPack1) (clampInt (-40) 125 r.tPack2))
    (watched : motorWatched s.mdr.state = true) :
    let t := onScanned sc r s
    t.mdr.state = .tripped ∧ t.mdr.gates = none ∧ Stopped t ∧ t.fmg.trip.map firstCause =
      some (.packHot, .celsius (max (clampInt (-40) 125 r.tPack1) (clampInt (-40) 125 r.tPack2)), s.mdr.state) := by
  let c := recordOthers r (recordCells r (scanClosed sc s))
  have mdr : c.mdr = s.mdr := by simp [c, scanClosed]
  have running : c.mdr.state ≠ .tripped := by rw [mdr]; exact watched_untripped watched
  have judged : hotJudged r (scanClosed sc s) =
      raiseStop .packHot (.celsius (max (clampInt (-40) 125 r.tPack1) (clampInt (-40) 125 r.tPack2))) c :=
    judgePackHot_hot (congrArg Pkm.packT (recordOthers_pkm r (scanClosed sc s))) (by simpa [c, scanClosed] using hot)
      (.inl (by rw [mdr]; exact watched))
  have trips := raiseStop_enters running .packHot
    (.celsius (max (clampInt (-40) 125 r.tPack1) (clampInt (-40) 125 r.tPack2)))
  have cause := trips.first firstCause fun _ => rfl
  have stopped := raiseStop_running_stopped running .packHot
    (.celsius (max (clampInt (-40) 125 r.tPack1) (clampInt (-40) 125 r.tPack2)))
  rw [tripRecordOf_tableRaise, ← judged] at cause
  rw [← judged] at stopped
  have motor := trips.mdr
  rw [← judged] at motor
  have stands := onScanned_tripped (sc := sc) (r := r) (s := s) (by rw [motor]; rfl)
  refine ⟨stands.state.trans (by rw [motor]; rfl), stands.gates.trans (by rw [motor]; rfl), stands.stopped stopped,
    stands.fault.cause.trans (cause.trans ?_)⟩
  rw [← mdr]
  rfl

/-- A hot pack met by the OC_HW of the same ms is its later cause (R170, log 40). -/
theorem onScanned_later {tr : TripRecord} (record : s.fmg.trip = some tr) (first : tr.first = .ocHw)
    (now : tr.uptime = s.slc.uptime) (motor : motorWatched tr.motor = true) (tripped : s.mdr.state = .tripped)
    (hot : s.packPar.cut ≤ max (clampInt (-40) 125 r.tPack1) (clampInt (-40) 125 r.tPack2)) :
    let t := onScanned sc r s
    t.mdr.state = .tripped ∧ t.fmg.table.packHot.count = min 255 (s.fmg.table.packHot.count + 1) ∧
      t.fmg.trip.map (causeSeen .packHot) = some (.ocHw, tr.detail, tr.motor, true) := by
  let c := recordOthers r (recordCells r (scanClosed sc s))
  let hottest := max (clampInt (-40) 125 r.tPack1) (clampInt (-40) 125 r.tPack2)
  have mdr : c.mdr = s.mdr := by simp [c, scanClosed]
  have fmg : c.fmg = s.fmg := by simp [c, scanClosed]
  have uptime : c.slc.uptime = s.slc.uptime := by simp [c, scanClosed]
  have ofNow : tripOfNow c = some tr := by
    simp [tripOfNow, fmg, record, mdr, tripped, State.now, uptime, now, motor]
  have par : c.packPar = s.packPar := by simp [c, scanClosed]
  have overtaken : overtakenByOc c = true := by
    rw [overtakenByOc, ofNow]
    exact decide_eq_true first
  have judged : hotJudged r (scanClosed sc s) = raiseStop .packHot (.celsius hottest) c :=
    judgePackHot_hot (congrArg Pkm.packT (recordOthers_pkm r (scanClosed sc s))) (by rw [par]; exact hot)
      (.inr overtaken)
  rw [raiseStop_tripped (by rw [mdr]; exact tripped)] at judged
  have motorStands : (hotJudged r (scanClosed sc s)).mdr.state = .tripped := by rw [judged]; simpa [mdr] using tripped
  have stands := onScanned_tripped (sc := sc) (r := r) (s := s) motorStands
  have noted := noteRaise_fmg_eq .packHot (.celsius hottest) c
  rw [← judged, if_pos ⟨by rw [mdr]; exact tripped, by simp [responseOf]⟩, fmg, record] at noted
  refine ⟨stands.state.trans motorStands, ?_, stands.fault.trip.trans ?_⟩
  · have table := congrArg FaultEntry.count stands.fault.table
    rw [noted] at table
    refine table.trans ?_
    simp [KindMap.get, KindMap.put, raisedEntry, fmg]
  · rw [noted]
    simp [causeSeen, first, KindMap.get, KindMap.put]

end

end Sys2Proof.Proofs

namespace Sys2Proof.Proofs

open Sys2Proof.Machine Sys2Proof.Safety

section
variable {sc : Scan} {r : ScanReading} {s : State}

/-- T_INV as the motor takes it. -/
theorem gaugeMoved_tInv (shallow : (scannedCells r s).toList.any (·.deep) = false) :
    (gaugeMoved sc r (scanClosed sc s)).pkm.tInv.getD 0 = clampInt (-40) 125 r.tInv := by
  have read := congrArg Pkm.tInv (measured_gaugeMoved (sc := sc) (r := r) (s := scanClosed sc s) shallow)
  rw [recordOthers_pkm] at read
  exact congrArg (·.getD 0) (show (gaugeMoved sc r (scanClosed sc s)).pkm.tInv = _ from read)

/-- With a cool pack CUTOFF is due as the flags say, whatever the charge. -/
theorem cutoffDue_cool (cool : max (clampInt (-40) 125 r.tPack1) (clampInt (-40) 125 r.tPack2) < s.packPar.cut) :
    cutoffDue (hotJudged r (scanClosed sc s)) =
      ((scannedCells r s).toList.any (·.uv) && !isCharging s.chc.state && decide (s.pkm.state ≠ .cutoff)) := by
  refine cutoffDue_hotJudged ?_
  rw [hotJudged_cool (s := scanClosed sc s) cool, recordOthers_pkm]
  exact ⟨by simp [scanClosed], rfl⟩

/-- With a cool pack and no entry to CUTOFF, the motor stands until T_INV, and no fault but CELL_OV is raised. -/
theorem gaugeMoved_calm (cool : max (clampInt (-40) 125 r.tPack1) (clampInt (-40) 125 r.tPack2) < s.packPar.cut)
    (uncut : ((scannedCells r s).toList.any (·.uv) && !isCharging s.chc.state && decide (s.pkm.state ≠ .cutoff)) = false) :
    (gaugeMoved sc r (scanClosed sc s)).mdr = s.mdr ∧ ResolverKept s (gaugeMoved sc r (scanClosed sc s)) ∧
      ∀ j, .cellOv ≠ j → FaultStands j s (gaugeMoved sc r (scanClosed sc s)) := by
  let c := scanClosed sc s
  obtain ⟨mdr, -, -, fmg, -⟩ := gaugeMoved_frame sc r c
  have rest := hotJudged_cool (r := r) (s := c) cool
  have events := cellsProtected_uncut ((cutoffDue_cool (sc := sc) cool).trans uncut) c.pkm
  refine ⟨?motor, ?resolver, fun j ov => ?fault⟩
  case motor =>
    rw [mdr, events, (ovEvents_frame ..).2.1, rest]
    simp [c, scanClosed]
  case resolver =>
    have recorded : ResolverKept s (hotJudged r c) := .of_drs (by rw [rest]; simp [c, scanClosed])
    have protect : ResolverKept (hotJudged r c) (cellsProtected c.pkm (hotJudged r c)) := by
      rw [events]
      exact (ovEvents_steady _ _).toResolverKept
    exact recorded.trans (protect.trans (gaugeMoved_resolverKept sc r c))
  case fault =>
    have recorded : FaultStands j s (hotJudged r c) := .of_fmg (by rw [rest]; simp [c, scanClosed])
    have protect : FaultStands j (hotJudged r c) (cellsProtected c.pkm (hotJudged r c)) := by
      rw [events]
      exact ovEvents_stands ov _ _
    exact recorded.trans (protect.trans (.of_fmg fmg))

/-- A hot inverter trips a watched motor (R43). -/
theorem onScanned_invHot (shallow : (scannedCells r s).toList.any (·.deep) = false)
    (hot : s.motorPar.invCut ≤ clampInt (-40) 125 r.tInv) (watched : motorWatched s.mdr.state = true)
    (cool : max (clampInt (-40) 125 r.tPack1) (clampInt (-40) 125 r.tPack2) < s.packPar.cut)
    (uncut : ((scannedCells r s).toList.any (·.uv) && !isCharging s.chc.state && decide (s.pkm.state ≠ .cutoff)) = false) :
    let t := onScanned sc r s
    t.mdr.state = .tripped ∧ t.mdr.gates = none ∧ Stopped t ∧
      t.fmg.table.invHot.count = min 255 (s.fmg.table.invHot.count + 1) ∧
      t.fmg.trip.map firstCause = some (.invHot, .celsius (clampInt (-40) 125 r.tInv), s.mdr.state) := by
  let u := gaugeMoved sc r (scanClosed sc s)
  let v := u.setPkm { u.pkm with scanned := true }
  let x := inverterTaken (clampInt (-40) 125 r.tInv) v
  obtain ⟨mdr, -, stands⟩ := gaugeMoved_calm (sc := sc) cool uncut
  have motor : x.mdr.state = s.mdr.state := ((inverterTaken_motor ..).1).trans (congrArg Mdr.state mdr)
  have running : x.mdr.state ≠ .tripped := by rw [motor]; exact watched_untripped watched
  have par : v.motorPar = s.motorPar := (gaugeMoved_frame sc r (scanClosed sc s)).2.2.2.2.2.2.1.1
  have given : inverterDelivered u = evaluate (raiseStop .invHot (.celsius (clampInt (-40) 125 r.tInv)) x) := by
    rw [inverterDelivered, gaugeMoved_tInv shallow, deliverTInv_hot (s := v) (by rw [par]; exact hot)
      ((congrArg motorWatched (congrArg Mdr.state mdr)).trans watched)]
  generalize hy : raiseStop .invHot (.celsius (clampInt (-40) 125 r.tInv)) x = y at given
  have trips : TrippedBy .invHot (.celsius (clampInt (-40) 125 r.tInv)) _ y := hy ▸ raiseStop_enters running _ _
  have stopped : Stopped y := hy ▸ raiseStop_running_stopped running _ _
  have later : TripStands .invHot y (deliverScan u) := by
    rw [deliverScan_eq, given]
    exact (TripStands.of_mdr (by simp) (fun k => k.kept (evaluate_resolverKept _)) (.of_fmg (by simp))).trans
      (chargeDelivered_trip (by simp) (by simp) _)
  have rests : onScanned sc r s = deliverScan u := (later.stopped stopped).rests
  have cause := trips.first firstCause fun _ => rfl
  rw [tripRecordOf_tableRaise] at cause
  rw [rests]
  refine ⟨later.state.trans (by rw [trips.mdr]; rfl), later.gates.trans (by rw [trips.mdr]; rfl), later.stopped stopped,
    ?table, later.fault.cause.trans (cause.trans ?cause)⟩
  case cause =>
    rw [← motor]
    rfl
  case table =>
    have kept := later.fault.table.trans (trips.table .invHot (by simp))
    have before : x.fmg.table.get .invHot = s.fmg.table.get .invHot := by
      rw [(inverterTaken_frame ..).2.2.2.2.1]
      exact (stands .invHot (by simp)).table
    have count := congrArg FaultEntry.count kept
    rw [tableRaise, State.setFmg_fmg] at count
    rw [KindMap.get_put_same, before] at count
    exact count

end

end Sys2Proof.Proofs

namespace Sys2Proof.Proofs

open Sys2Proof.Machine Sys2Proof.Safety

section
variable {sc : Scan} {r : ScanReading} {s : State}

/-- The scan's end marked, and T_INV below the cut taken. -/
def coolTaken (u : State) : State :=
  inverterTaken (u.pkm.tInv.getD 0) (u.setPkm { u.pkm with scanned := true })

theorem coolTaken_mdr (u : State) : (coolTaken u).mdr = { u.mdr with
    tInv := some (u.pkm.tInv.getD 0), derate := derateCurrent u.motorPar (u.pkm.tInv.getD 0) } :=
  inverterTaken_mdr ..

theorem coolTaken_steady (u : State) : Steady u (coolTaken u) := by
  have marked : Steady u (u.setPkm { u.pkm with scanned := true }) := .of_fields (by simp)
  exact marked.trans (inverterTaken_steady _ _)

/-- Below the inverter's cut, a PRECHECK held for T_INV is decided. -/
theorem inverterDelivered_held {u : State} (cool : u.pkm.tInv.getD 0 < u.motorPar.invCut)
    (held : u.mdr.state = .precheck ∧ u.mdr.precheckHeld = true) :
    inverterDelivered u = evaluate (precheckDecide (u.pkm.tInv.getD 0) (coolTaken u)) :=
  congrArg evaluate ((deliverTInv_cool (s := u.setPkm { u.pkm with scanned := true }) cool).trans (if_pos held))

/-- Below the inverter's cut, with nothing held for T_INV, it is taken and no more. -/
theorem inverterDelivered_free {u : State} (cool : u.pkm.tInv.getD 0 < u.motorPar.invCut)
    (free : ¬ (u.mdr.state = .precheck ∧ u.mdr.precheckHeld = true)) :
    inverterDelivered u = evaluate (coolTaken u) :=
  congrArg evaluate ((deliverTInv_cool (s := u.setPkm { u.pkm with scanned := true }) cool).trans (if_neg free))

theorem deliverScan_mdr (u : State) : (deliverScan u).mdr = (inverterDelivered u).mdr := by
  simp [deliverScan_eq]

/-- The motor below the inverter's cut, with nothing held for T_INV: the deliveries leave its state. -/
theorem deliverScan_motor {u : State} (cool : u.pkm.tInv.getD 0 < u.motorPar.invCut)
    (free : ¬ (u.mdr.state = .precheck ∧ u.mdr.precheckHeld = true)) : (deliverScan u).mdr.state = u.mdr.state := by
  rw [deliverScan_mdr, inverterDelivered_free cool free, (evaluate_frame _).2.1, coolTaken_mdr]

/-- The entry to CUTOFF lets a running motor coast (R8, R24, R103). -/
theorem onScanned_cut_coasts (unqualified : s.chc.state ≠ .qualify)
    (due : ((scannedCells r s).toList.any (·.uv) && !isCharging s.chc.state && decide (s.pkm.state ≠ .cutoff)) = true)
    (shallow : (scannedCells r s).toList.any (·.deep) = false) (order : s.packPar.cellUv ≤ s.packPar.uvRelease)
    (run : s.mdr.state = .run) (demand : s.drs.record.runDemand = true)
    (cool : max (clampInt (-40) 125 r.tPack1) (clampInt (-40) 125 r.tPack2) < s.packPar.cut)
    (inverter : clampInt (-40) 125 r.tInv < s.motorPar.invCut) : (onScanned sc r s).mdr.state = .coast := by
  let c := scanClosed sc s
  let u := gaugeMoved sc r c
  have rest := hotJudged_cool (r := r) (s := c) cool
  let h := hotJudged r c
  let noted := noteRaise .cellUv (.cell (weakestUvCell h.pkm)) (h.setPkm { h.pkm with state := .cutoff })
  have enters : cutoffDue h = true := (cutoffDue_cool cool).trans due
  obtain ⟨-, -, -, motor, -⟩ := cellsProtected_cut enters c.pkm
  obtain ⟨mdr, -, -, -, -, -, params, -⟩ := gaugeMoved_frame sc r c
  have entered : (enterCutoff h).mdr = (forcedStop noted).mdr := by simp [enterCutoff, noted]
  have standing : noted.mdr.state = .run ∧ noted.drs.record.runDemand = true := by
    simp [noted, h, rest, c, scanClosed, run, demand]
  have coasts : u.mdr = enteredMdr .coast false noted.mdr := by
    rw [mdr, motor, entered]
    exact (forcedStop_mdr noted).1 standing.2 (by simp [standing.1, runningMotor, motorWatched])
  have state : u.mdr.state = .coast := by rw [coasts]; rfl
  obtain ⟨-, stopped, -⟩ := onScanned_cut (sc := sc) unqualified due shallow order
  have protect : Stopped (cellsProtected c.pkm h) := by
    rw [cellsProtected, if_pos enters]
    exact ovEvents_stopped (enterCutoff_stopped _) _
  have rests : onScanned sc r s = deliverScan u :=
    (deliverScan_stopped (protect.kept (gaugeMoved_resolverKept sc r c))).rests
  rw [rests, deliverScan_motor ?_ (by simp [state]), state]
  rw [gaugeMoved_tInv shallow, params.1]
  exact inverter

/-! ### PRECHECK at an ON scan end (R29) -/

theorem Steady.follows {s t : State} (h : Steady s t) (k : DemandFollows s) : DemandFollows t := by
  simpa only [DemandFollows, h.demand, h.wantsToRun] using k

/-- Run demand true, and followed: no inhibit is present. -/
theorem uninhibited {s : State} (follows : DemandFollows s) (demand : s.drs.record.runDemand = true) :
    (firstInhibit s).isNone = true := by
  have want : wantsToRun s = true := follows ▸ demand
  simp only [wantsToRun, Bool.and_eq_true] at want
  exact want.2

/-- With run demand true, a scan end without CUTOFF brings no inhibit before the deliveries. -/
theorem gaugeMoved_follows (follows : DemandFollows s) (demand : s.drs.record.runDemand = true)
    (on : s.slc.power = .on)
    (cool : max (clampInt (-40) 125 r.tPack1) (clampInt (-40) 125 r.tPack2) < s.packPar.cut)
    (uncut : ((scannedCells r s).toList.any (·.uv) && !isCharging s.chc.state && decide (s.pkm.state ≠ .cutoff)) = false) :
    DemandFollows (gaugeMoved sc r (scanClosed sc s)) := by
  let c := scanClosed sc s
  obtain ⟨absent, idle, pack, motor, -⟩ := (firstInhibit_isNone s).1 (uninhibited follows demand)
  obtain ⟨mdr, resolver, -⟩ := gaugeMoved_calm (sc := sc) cool uncut
  obtain ⟨-, chc, dlk, -, slc, -⟩ := gaugeMoved_frame sc r c
  have unqualified : s.chc.state ≠ .qualify := by simp [idle]
  obtain ⟨hotChc, -, hotPack⟩ := hotJudged_unqualified (s := c) unqualified r
  have due := (cutoffDue_cool (sc := sc) cool).trans uncut
  have charge : (gaugeMoved sc r c).chc.state = .idle := by
    rw [chc, cellsProtected_uncut due,
      (ovEvents_calm (by rw [hotChc]; exact congrArg isCharging idle) _).2.1, hotChc]
    exact idle
  have state : (gaugeMoved sc r c).pkm.state ≠ .cutoff := by
    have judged := packJudged_uncut (r := r) (s := c) due hotPack (.inl pack)
    rw [gaugeMoved, (gaugeStep_frame ..).2.2.2.2.2.2.2.1]
    show (packJudged r c).pkm.state ≠ .cutoff
    rw [judged]
    split
    · exact uncutState_ne c
    · simp
  have power : (gaugeMoved sc r c).slc.power = .on := by
    rw [slc, cellsProtected_uncut due, (ovEvents_frame ..).2.2.2.2.2.2.2.1, hotJudged_cool (s := c) cool]
    simpa [c, scanClosed] using on
  have free : (firstInhibit (gaugeMoved sc r c)).isNone = true :=
    (firstInhibit_isNone _).2 ⟨by rw [dlk]; simpa [c, scanClosed] using absent, charge, state, by rw [mdr]; exact motor, power⟩
  rw [DemandFollows, wantsToRun, resolver.demand, resolver.trigger, resolver.host, free]
  have want := follows
  rw [DemandFollows, wantsToRun, uninhibited follows demand] at want
  exact want

/-- The charge, scanned, leaves run demand where it follows. -/
theorem deliverScan_rests {u : State} (follows : DemandFollows (inverterDelivered u)) :
    demandRefresh (deliverScan u) = deliverScan u := by
  have steady : Steady (inverterDelivered u) (deliverScan u) :=
    (chargeScan_steady _).trans (dockScan_steady _)
  exact demandRefresh_stands (steady.follows follows).symm

/-- A PRECHECK held for T_INV is decided at the scan's end, by the rotor (R29). -/
theorem onScanned_precheck_held (follows : DemandFollows s) (demand : s.drs.record.runDemand = true)
    (on : s.slc.power = .on) (shallow : (scannedCells r s).toList.any (·.deep) = false)
    (cool : max (clampInt (-40) 125 r.tPack1) (clampInt (-40) 125 r.tPack2) < s.packPar.cut)
    (inverter : clampInt (-40) 125 r.tInv < s.motorPar.invCut)
    (uncut : ((scannedCells r s).toList.any (·.uv) && !isCharging s.chc.state && decide (s.pkm.state ≠ .cutoff)) = false)
    (precheck : s.mdr.state = .precheck) (held : s.mdr.precheckHeld = true) :
    let t := onScanned sc r s
    t.mdr.precheckHeld = false ∧ t.mdr.state = (if s.motorPar.catchSpeed ≤ offGatesSpeed s.mdr then .catching
      else if belowStop s.mdr = true then .align else .coast) ∧ t.mdr.startPending = decide (t.mdr.state = .coast) := by
  let u := gaugeMoved sc r (scanClosed sc s)
  obtain ⟨mdr, -, -⟩ := gaugeMoved_calm (sc := sc) cool uncut
  have par : u.motorPar = s.motorPar := (gaugeMoved_frame sc r (scanClosed sc s)).2.2.2.2.2.2.1.1
  have tInv : u.pkm.tInv.getD 0 = clampInt (-40) 125 r.tInv := gaugeMoved_tInv shallow
  have taken : DemandFollows (coolTaken u) :=
    (coolTaken_steady u).follows (gaugeMoved_follows follows demand on cool uncut)
  have motor := coolTaken_mdr u
  rw [mdr] at motor
  have untripped : (coolTaken u).mdr.state ≠ .tripped := by rw [motor]; simp [precheck]
  have given : inverterDelivered u = evaluate (precheckDecide (u.pkm.tInv.getD 0) (coolTaken u)) :=
    inverterDelivered_held (by rw [tInv, par]; exact inverter) ⟨(congrArg Mdr.state mdr).trans precheck,
      (congrArg Mdr.precheckHeld mdr).trans held⟩
  have speed : offGatesSpeed (coolTaken u).mdr = offGatesSpeed s.mdr := by rw [motor]; rfl
  have rest : belowStop (coolTaken u).mdr = belowStop s.mdr := by rw [motor]; rfl
  have catchSpeed : (coolTaken u).motorPar.catchSpeed = s.motorPar.catchSpeed := by simp [coolTaken, par]
  have invCut : ¬ ((coolTaken u).motorPar.invCut : Int) ≤ u.pkm.tInv.getD 0 := by
    rw [tInv]
    simp [coolTaken, par]
    omega
  have decided : precheckDecide (u.pkm.tInv.getD 0) (coolTaken u) =
      if s.motorPar.catchSpeed ≤ offGatesSpeed s.mdr then motorTo .catching .catchable false (coolTaken u)
      else if belowStop s.mdr = true then motorTo .align .atRest false (coolTaken u)
      else motorTo .coast .spinning true (coolTaken u) := by
    rw [precheckDecide, if_neg invCut, speed, rest, catchSpeed]
  have moved {new : MotorState} (h : new ≠ .tripped) (cause : MotorCause) (pend : Bool)
      (entered : precheckDecide (u.pkm.tInv.getD 0) (coolTaken u) = motorTo new cause pend (coolTaken u)) :
      (onScanned sc r s).mdr = enteredMdr new pend (coolTaken u).mdr := by
    have still : DemandFollows (inverterDelivered u) := by
      rw [given, entered]
      exact (evaluate_steady _).follows (motorTo_demandFollows h cause pend untripped taken)
    have rests : onScanned sc r s = deliverScan u := deliverScan_rests still
    rw [rests, deliverScan_mdr, given, entered]
    simp
  dsimp only
  by_cases fast : s.motorPar.catchSpeed ≤ offGatesSpeed s.mdr
  · rw [if_pos fast] at decided
    rw [if_pos fast, moved (by simp) _ _ decided]
    exact ⟨rfl, rfl, rfl⟩
  · rw [if_neg fast] at decided
    rw [if_neg fast]
    by_cases still : belowStop s.mdr = true
    · rw [if_pos still] at decided
      rw [if_pos still, moved (by simp) _ _ decided]
      exact ⟨rfl, rfl, rfl⟩
    · rw [if_neg still] at decided
      rw [if_neg still, moved (by simp) _ _ decided]
      exact ⟨rfl, rfl, rfl⟩

/-- A PRECHECK that is not held goes on (R29). -/
theorem onScanned_precheck_free (follows : DemandFollows s) (demand : s.drs.record.runDemand = true)
    (on : s.slc.power = .on) (shallow : (scannedCells r s).toList.any (·.deep) = false)
    (cool : max (clampInt (-40) 125 r.tPack1) (clampInt (-40) 125 r.tPack2) < s.packPar.cut)
    (inverter : clampInt (-40) 125 r.tInv < s.motorPar.invCut)
    (uncut : ((scannedCells r s).toList.any (·.uv) && !isCharging s.chc.state && decide (s.pkm.state ≠ .cutoff)) = false)
    (precheck : s.mdr.state = .precheck) (free : s.mdr.precheckHeld = false) :
    (onScanned sc r s).mdr.state = .precheck := by
  let u := gaugeMoved sc r (scanClosed sc s)
  obtain ⟨mdr, -, -⟩ := gaugeMoved_calm (sc := sc) cool uncut
  have par : u.motorPar = s.motorPar := (gaugeMoved_frame sc r (scanClosed sc s)).2.2.2.2.2.2.1.1
  have inverter' : u.pkm.tInv.getD 0 < u.motorPar.invCut := by
    rw [gaugeMoved_tInv shallow, par]
    exact inverter
  have unheld : ¬ (u.mdr.state = .precheck ∧ u.mdr.precheckHeld = true) := by
    rw [mdr]
    simp [free]
  have still : DemandFollows (inverterDelivered u) := by
    rw [inverterDelivered_free inverter' unheld]
    exact (evaluate_steady _).follows ((coolTaken_steady u).follows (gaugeMoved_follows follows demand on cool uncut))
  have rests : onScanned sc r s = deliverScan u := deliverScan_rests still
  rw [rests, deliverScan_motor inverter' unheld, mdr]
  exact precheck

end

end Sys2Proof.Proofs

namespace Sys2Proof.Proofs

open Sys2Proof.Machine Sys2Proof.Safety

/-! ### A new OV flag while charging (R106, R136) -/

/-- A link released, and not in negotiation, has nothing to say at a scan end. -/
theorem dockScan_silent {s : State} (settled : s.dlk.state ≠ .negotiating)
    (released : s.dlk.state = .active → s.dlk.released = true) : dockScan s = s := by
  unfold dockScan
  split
  · next negotiating => exact absurd negotiating settled
  · next active => exact if_neg (by simp [released active])
  · rfl

theorem releasedDlk_state (r : ReleaseReason) (d : Dlk) : (releasedDlk r d).state = d.state ∧
    (d.state = .active → (releasedDlk r d).released = true) := by
  unfold releasedDlk
  dsimp only
  split
  · split
    · exact ⟨rfl, fun _ => rfl⟩
    · exact ⟨rfl, fun _ => rfl⟩
  · next neither => exact ⟨rfl, fun active => absurd (.inl active) neither⟩

/-- A cell newly flagged is among the OV events. -/
theorem newOv_fresh {p q : Pkm} (h : (p.cells.zipWith (fun b a => !b.ov && a.ov) q.cells).toList.any id = true) :
    newOv p q ≠ [] := by
  intro none
  rw [newOv, List.filterMap_eq_nil_iff] at none
  revert none h
  generalize p.cells.zipWith (fun b a => !b.ov && a.ov) q.cells = fresh
  intro h none
  simp [Seven.zipWith, Seven.numbers, Seven.toList] at none
  simp [Seven.toList, none] at h

section
variable {sc : Scan} {r : ScanReading} {s : State}

/-- A new OV flag stops a charge (R106, R136). -/
theorem onScanned_ov (charging : isCharging s.chc.state = true)
    (fresh : (s.pkm.cells.zipWith (fun b a => !b.ov && a.ov) (scannedCells r s)).toList.any id = true) :
    let t := onScanned sc r s
    t.chc.state = .fault ∧ t.chc.faultCause = some .cellOv ∧ t.chc.iSet = 0 ∧
      (s.dlk.state ≠ .negotiating → t.dlk = releasedDlk .fault s.dlk) ∧
      t.fmg.table.cellOv.count = min 255 (s.fmg.table.cellOv.count + 1) := by
  let c := scanClosed sc s
  let u := gaugeMoved sc r c
  have unqualified : s.chc.state ≠ .qualify := fun k => by simp [k, isCharging] at charging
  obtain ⟨hotChc, hotDlk, hotPack⟩ := hotJudged_unqualified (s := c) unqualified r
  have due : cutoffDue (hotJudged r c) = false := by
    rw [cutoffDue_hotJudged ⟨hotChc, hotPack⟩, charging]
    simp
  have events : newOv c.pkm (hotJudged r c).pkm ≠ [] := by
    have read (q : Pkm) : newOv c.pkm (measured q) = newOv c.pkm q := rfl
    rw [← read, hotJudged_measured, read, recordOthers_pkm]
    exact newOv_fresh fresh
  obtain ⟨cell, l, listed⟩ := List.exists_cons_of_ne_nil events
  obtain ⟨chc, dlk, count⟩ := ovEvents_faults (s := hotJudged r c) (by rw [hotChc]; exact charging) cell l
  rw [← listed, ← cellsProtected_uncut due] at chc dlk count
  obtain ⟨-, chc', dlk', fmg', -⟩ := gaugeMoved_frame sc r c
  rw [← chc', hotChc] at chc
  rw [← dlk', hotDlk] at dlk
  rw [← fmg'] at count
  have fault : u.chc.state = .fault := by rw [chc, enteredChc_state]
  obtain ⟨given, dock, -⟩ := inverterDelivered_unqualified (u := u) (by rw [fault]; simp)
  obtain ⟨state, cause, iSet, dlkKept, fmgKept⟩ := chargeScan_fault (s := inverterDelivered u) (by rw [given]; exact fault)
  have table := inverterDelivered_table (j := .cellOv) (u := u) (by simp) (.inr (by rw [fault]; simp))
  have before := hotJudged_table (j := .cellOv) (s := c) (by simp) (.inr unqualified) r
  obtain ⟨finalChc, finalDlk, finalFmg⟩ := demandRefresh_charge (deliverScan u)
  have charge : (onScanned sc r s).chc = (chargeScan (inverterDelivered u)).chc :=
    finalChc.trans (by rw [deliverScan_eq]; simp)
  refine ⟨by rw [charge]; exact state, ?_, ?_, fun settled => ?_, ?_⟩
  · rw [charge, cause, given, chc]
    rfl
  · rw [given, chc] at iSet
    rw [charge]
    exact Nat.le_zero.1 iSet
  · have link : (chargeScan (inverterDelivered u)).dlk = releasedDlk .fault s.dlk := dlkKept.trans (dock.trans dlk)
    obtain ⟨same, released⟩ := releasedDlk_state .fault s.dlk
    refine finalDlk.trans ?_
    rw [deliverScan_eq, dockScan_silent (by rw [link, same]; exact settled) (by rw [link, same]; exact released), link]
  · have fmg : (onScanned sc r s).fmg = (inverterDelivered u).fmg :=
      finalFmg.trans (by rw [deliverScan_eq, (dockScan_frame _).2.2.2.2.2.2.2.2.2.2.2.1, fmgKept])
    rw [fmg]
    refine (congrArg FaultEntry.count table).trans (count.trans ?_)
    exact congrArg (fun e : FaultEntry => min 255 (e.count + 1)) before

end

/-! ### SHIP asked for by a deep flag (R105, R186) -/

theorem shipEntry_rests (s : State) : demandRefresh (shipEntry s) = shipEntry s := by
  have reset : (shipEntry s).drs = Drs.reset := by
    unfold shipEntry
    dsimp only
    split
    · rw [powerReset_eq]
      rfl
    · rfl
  exact demandRefresh_unclaimed (by rw [reset]; rfl) (by rw [reset]; rfl) (by rw [reset]; rfl)

section
variable {sc : Scan} {r : ScanReading} {s : State}

/-- The cells' protections ask for SHIP as the flags, the dock and a SHIP asked for before say (R105). -/
theorem deepAsks_protected {t : State} (before : Pkm) (deep : t.pkm.cells.toList.any (·.deep) = true)
    (absent : t.dlk.state = .absent) (first : t.pkm.deepPending = false) :
    deepAsks (cellsProtected before t) = true := by
  have measures := measured_cellsProtected before t
  have pending : (cellsProtected before t).pkm.deepPending = t.pkm.deepPending :=
    (congrArg Pkm.deepPending measures :)
  simp [deepAsks, anyDeep_measured measures, deep, absent, pending, first]

/-- The end of any scan with a deep flag and no dock is the entry to SHIP. -/
theorem scanEnd_ship (begun : s.pkm.scan = some sc) (absent : s.dlk.state = .absent) (first : s.pkm.deepPending = false)
    (deep : (scannedCells r s).toList.any (·.deep) = true) :
    ∃ x, scanEnd r s = shipEntry x ∧ x.dlk.contact = s.dlk.contact := by
  let c := scanClosed sc s
  rw [scanEnd_begun begun]
  cases watch : sc.watch with
  | true =>
    have asks := deepAsks_protected (t := recordCells r c) c.pkm (by rw [recordCells_pkm]; exact deep)
      (by simpa [c, scanClosed] using absent) (by rw [recordCells_pkm]; exact first)
    refine ⟨judgeRelease (judgeDeepUv (cellsProtected c.pkm (recordCells r c))).1, ?_, ?_⟩
    · rw [if_pos rfl, watchScanEnd_eq, if_pos asks, shipEntry_rests]
    · simp [c, scanClosed]
  | false =>
    have measures := hotJudged_measured r c
    rw [recordOthers_pkm] at measures
    have asks := deepAsks_protected (t := hotJudged r c) c.pkm (by rw [anyDeep_measured measures]; exact deep)
      (by simpa [c, scanClosed] using absent) ((congrArg Pkm.deepPending measures).trans first)
    refine ⟨deliverScan (gaugeMoved sc r c), ?_, ?_⟩
    · rw [if_neg (by simp), onScanEnd_eq, if_pos asks, shipEntry_rests]
    · rw [(deliverScan_dock _).2, (gaugeMoved_frame sc r c).2.2.1]
      simp [c, scanClosed]

/-- SHIP with the contacts down: everything is off (R186). -/
theorem shipEntry_down (x : State) (down : x.dlk.contact = false) : let t := beginTransmission (shipEntry x)
    t.slc.power = .ship ∧ t.mdr = Mdr.reset ∧ t.pkm = Pkm.reset ∧ t.gge = Gge.reset ∧ t.icn = Icn.reset := by
  have entered : shipEntry x = _ := if_neg (show ¬ (x.setTrg _).dlk.contact = true by simp [down])
  rw [entered]
  exact ⟨rfl, rfl, rfl, rfl, rfl⟩

/-- SHIP with the contacts up: the reset that a dock makes at once (R187). -/
theorem shipEntry_up (x : State) (up : x.dlk.contact = true) : let t := beginTransmission (shipEntry x)
    t.slc = Slc.reset .shipWake ∧ t.dlk = startedDlk true ∧ t.chc = startedChc true ∧ t.pkm = startedPkm ∧
      t.mdr = Mdr.reset := by
  have entered : shipEntry x = powerReset .shipWake (x.setTrg { x.trg with debounced := none }) := if_pos up
  rw [entered, powerReset_eq]
  simp only [beginTransmission_frame, State.setTrg_dlk, up]
  exact ⟨rfl, rfl, rfl, rfl, rfl⟩

end

end Sys2Proof.Proofs

namespace Sys2Proof.Proofs

open Sys2Proof.Machine Sys2Proof.Safety

/-! ### A WATCH scan's end (R100, R103, R104) -/

section
variable {sc : Scan} {r : ScanReading} {s : State}

/-- What a WATCH scan leaves before run demand is recomputed. -/
def watchScanned (sc : Scan) (r : ScanReading) (s : State) : State :=
  judgeRelease (judgeDeepUv (cellsProtected (scanClosed sc s).pkm (recordCells r (scanClosed sc s)))).1

theorem exec_scanEnd_watch (powered : s.slc.power ≠ .ship) (begun : s.pkm.scan = some sc) (watch : sc.watch = true)
    (shallow : (scannedCells r s).toList.any (·.deep) = false) :
    exec (.scanEnd r) s = .next (beginTransmission (demandRefresh (watchScanned sc r s))) := by
  have ended : scanEnd r s = demandRefresh (watchScanned sc r s) := by
    rw [scanEnd_begun begun, if_pos watch, watchScanEnd_shallow (s := scanClosed sc s) shallow]
    rfl
  rw [← ended]
  exact congrArg Host.Outcome.next (if_neg powered)

/-- A WATCH scan takes CUTOFF as its flags and the pack state say, with no charge on. -/
theorem cutoffDue_watch (uncharged : isCharging s.chc.state = false) : cutoffDue (recordCells r (scanClosed sc s)) =
    ((scannedCells r s).toList.any (·.uv) && decide (s.pkm.state ≠ .cutoff)) := by
  have charge : (recordCells r (scanClosed sc s)).chc = s.chc := by simp [scanClosed]
  simp only [cutoffDue, recordCells_pkm, charge, uncharged, Bool.not_false, Bool.and_true]
  rfl

/-- The OV events of a WATCH scan are notices, with no charge on. -/
theorem watchProtected_uncut (uncharged : isCharging s.chc.state = false)
    (uncut : ((scannedCells r s).toList.any (·.uv) && decide (s.pkm.state ≠ .cutoff)) = false) :
    let c := recordCells r (scanClosed sc s)
    let t := cellsProtected (scanClosed sc s).pkm c
    t.pkm = c.pkm ∧ t.chc = s.chc ∧ t.dlk = s.dlk ∧ t.drs = s.drs ∧ t.icn.counters = s.icn.counters := by
  have calm : isCharging (recordCells r (scanClosed sc s)).chc.state = false := by
    simpa [scanClosed] using uncharged
  have due := (cutoffDue_watch (sc := sc) (r := r) uncharged).trans uncut
  dsimp only
  rw [cellsProtected_uncut due]
  obtain ⟨pkm, chc, dlk, -, drs, icn⟩ := ovEvents_calm calm
    (newOv (scanClosed sc s).pkm (recordCells r (scanClosed sc s)).pkm)
  rw [pkm, chc, dlk, drs, icn]
  simp [scanClosed]

/-- What the protections of a WATCH scan without an entry to CUTOFF leave, before a release is judged. -/
theorem watchJudged_uncut (uncharged : isCharging s.chc.state = false)
    (uncut : ((scannedCells r s).toList.any (·.uv) && decide (s.pkm.state ≠ .cutoff)) = false)
    (shallow : (scannedCells r s).toList.any (·.deep) = false) :
    let d := (judgeDeepUv (cellsProtected (scanClosed sc s).pkm (recordCells r (scanClosed sc s)))).1
    d.pkm = { s.pkm with
      cells := scannedCells r s, scan := none, switches := if sc.measuring then s.pkm.bleedSet else s.pkm.switches
      deepPending := false } ∧ d.chc = s.chc ∧ d.dlk = s.dlk ∧ d.drs = s.drs ∧ d.icn.counters = s.icn.counters ∧
      d.gge = s.gge := by
  obtain ⟨pkm, chc, dlk, drs, icn⟩ := watchProtected_uncut (sc := sc) (r := r) uncharged uncut
  have due := (cutoffDue_watch (sc := sc) (r := r) uncharged).trans uncut
  have gge := cellsProtected_gauge (scanClosed sc s).pkm (recordCells r (scanClosed sc s))
  rw [due] at gge
  simp only [judgeDeepUv_frame, judgeDeepUv_pkm, pkm, chc, dlk, drs, icn, gge, recordCells_pkm]
  refine ⟨?_, trivial, trivial, trivial, trivial, by simp [scanClosed]⟩
  rw [if_neg (Bool.eq_false_iff.1 (show (scannedCells r (scanClosed sc s)).toList.any (·.deep) = false from shallow))]
  rfl

/-- A quiet WATCH scan records the cells, and nothing else. -/
theorem watchScanned_quiet (uncharged : isCharging s.chc.state = false) (away : s.pkm.state ≠ .cutoff)
    (calm : (scannedCells r s).toList.any (·.uv) = false) (shallow : (scannedCells r s).toList.any (·.deep) = false)
    (follows : DemandFollows s) : let t := beginTransmission (demandRefresh (watchScanned sc r s))
    t.pkm = { s.pkm with
      cells := scannedCells r s, scan := none, switches := if sc.measuring then s.pkm.bleedSet else s.pkm.switches
      deepPending := false } ∧ t.gge = s.gge ∧ t.chc = s.chc ∧ t.dlk = s.dlk ∧ SuctionKept s t ∧ ParamsKept s t ∧
      RestKept s t := by
  let d := (judgeDeepUv (cellsProtected (scanClosed sc s).pkm (recordCells r (scanClosed sc s)))).1
  obtain ⟨pkm, chc, dlk, drs, icn, gge⟩ := watchJudged_uncut (sc := sc) uncharged (by simp [calm]) shallow
  have due := (cutoffDue_watch (sc := sc) (r := r) uncharged).trans
    (show ((scannedCells r s).toList.any (·.uv) && decide (s.pkm.state ≠ .cutoff)) = false by simp [calm])
  have kept : watchScanned sc r s = d := if_neg fun k => away (by rw [pkm] at k; exact k.1)
  have motor : d.mdr = s.mdr ∧ d.slc = s.slc ∧ d.trg = s.trg ∧ d.srg = s.srg ∧ d.sbt = s.sbt ∧ d.blm = s.blm ∧
      d.dse = s.dse ∧ d.pending = s.pending ∧ ParamsKept s d := by
    simp only [d, cellsProtected_uncut due]
    simp [scanClosed, ParamsKept]
  obtain ⟨mdr, slc, trg, srg, sbt, blm, dse, pending, params⟩ := motor
  have steady : Steady s d := .of_fields ⟨drs, by rw [mdr], by rw [mdr], by rw [dlk], by rw [chc], by rw [pkm], by rw [slc]⟩
  have rests : demandRefresh (watchScanned sc r s) = d := by
    rw [kept]
    exact demandRefresh_stands (steady.follows follows).symm
  dsimp only
  rw [rests]
  simp only [SuctionKept, ParamsKept, RestKept, beginTransmission_frame, beginTransmission_port]
  exact ⟨pkm, gge, chc, dlk, ⟨trg, drs, mdr, srg, sbt, blm, dse⟩, params, icn, pending⟩

/-- The entry to CUTOFF moves the Pack Monitor's state and interval alone. -/
theorem enterCutoff_pkm (s : State) : ∃ i, (enterCutoff s).pkm = { s.pkm with state := .cutoff, interval := i } := by
  let noted := noteRaise .cellUv (.cell (weakestUvCell s.pkm)) (s.setPkm { s.pkm with state := .cutoff })
  have stopped : (enterCutoff s).pkm = (forcedStop noted).pkm := by simp [enterCutoff, noted]
  refine ⟨(forcedStop noted).pkm.interval, ?_⟩
  rw [stopped, forcedStop, demandRefresh_pkm]
  simp [noted, clearClaims]

theorem enterCutoff_power (s : State) : (enterCutoff s).slc.power = s.slc.power := by simp [enterCutoff]

/-- A WATCH scan enters CUTOFF (R103). -/
theorem watchScanned_cut (uncharged : isCharging s.chc.state = false) (away : s.pkm.state ≠ .cutoff)
    (flagged : (scannedCells r s).toList.any (·.uv) = true) (order : s.packPar.cellUv ≤ s.packPar.uvRelease) :
    let t := beginTransmission (demandRefresh (watchScanned sc r s))
    t.pkm.state = .cutoff ∧ t.pkm.cells = scannedCells r s ∧
      t.gge = { s.gge with q := 0, event := .empty, eventAt := s.slc.uptime } ∧ t.slc.power = s.slc.power := by
  let c := recordCells r (scanClosed sc s)
  let u := cellsProtected (scanClosed sc s).pkm c
  let d := (judgeDeepUv u).1
  have due : cutoffDue c = true := by
    rw [cutoffDue_watch uncharged, flagged]
    simpa using away
  obtain ⟨pkm, -, -, -, -, gge⟩ := cellsProtected_cut due (scanClosed sc s).pkm
  obtain ⟨i, entered⟩ := enterCutoff_pkm c
  have cells : u.pkm = { c.pkm with state := .cutoff, interval := i } := pkm.trans entered
  have low : cellsRecovered d = true → False := fun recovered => by
    rw [cellsRecovered_iff (v := r.cells) (by rw [judgeDeepUv_pkm, cells, recordCells_pkm]; rfl)] at recovered
    have par : d.packPar = s.packPar := by simp [d, u, c, scanClosed]
    rw [par] at recovered
    exact flagged_low flagged order recovered
  have kept : watchScanned sc r s = d := if_neg fun k => low k.2
  have stopped : Stopped d := by
    have protect : Stopped u := by
      simp only [u, cellsProtected, if_pos due]
      exact ovEvents_stopped (enterCutoff_stopped c) _
    exact protect.of_drs (by simp only [d, judgeDeepUv_frame])
  have power : u.slc.power = s.slc.power := by
    simp only [u, cellsProtected, if_pos due, ovEvents_frame, enterCutoff_power]
    simp [c, scanClosed]
  dsimp only
  rw [kept, stopped.rests]
  simp only [beginTransmission_frame, d, judgeDeepUv_pkm, judgeDeepUv_frame, cells, power]
  refine ⟨trivial, by simp only [c, recordCells_pkm]; rfl, gge.trans (by simp [c, scanClosed]), trivial⟩

/-- A WATCH scan releases a pack in CUTOFF (R104). -/
theorem watchScanned_releases (uncharged : isCharging s.chc.state = false) (cut : s.pkm.state = .cutoff)
    (shallow : (scannedCells r s).toList.any (·.deep) = false)
    (high : ∀ v ∈ r.cells.toList, s.packPar.uvRelease ≤ clampNat 0 5000 v) :
    let t := beginTransmission (demandRefresh (watchScanned sc r s))
    t.pkm.state = judgedPack s ∧ t.pkm.cells = scannedCells r s := by
  let d := (judgeDeepUv (cellsProtected (scanClosed sc s).pkm (recordCells r (scanClosed sc s)))).1
  obtain ⟨pkm, -, -, -, -, gge⟩ := watchJudged_uncut (sc := sc) (r := r) uncharged (by simp [cut]) shallow
  have par : d.packPar = s.packPar := by simp [d, scanClosed]
  have recovered : cellsRecovered d = true := by
    rw [cellsRecovered_iff (v := r.cells) (by rw [pkm]; rfl), par]
    exact high
  have released : watchScanned sc r s = releaseCutoff d := if_pos ⟨by rw [pkm]; exact cut, recovered⟩
  have state : uncutState d = judgedPack s := uncutState_congr gge par (by rw [pkm])
  dsimp only
  rw [(beginTransmission_frame _).2.2.2.2.2.2.2.1, demandRefresh_pkm, released]
  simp only [releaseCutoff, changePackState, evaluate_frame, raisePackNotice_frame, State.setPkm_pkm]
  exact ⟨state, by rw [pkm]⟩

end

end Sys2Proof.Proofs

namespace Sys2Proof.Proofs

open Sys2Proof.Machine Sys2Proof.Safety

/-! ### The start of a scan, its seventh cell (R98, R99), and the gauge's own equations (R116, R118, R120) -/

/-- A scan that is due begins (R98). -/
theorem exec_scanStart_due {s : State} (on : s.slc.power = .on) (idle : s.pkm.scan = none)
    (passed : ∀ t0, s.pkm.lastStart = some t0 → s.pkm.interval.ms ≤ (s.slc.uptime - t0).toNat) :
    exec .scanStart s = .next (beginTransmission (startScan s)) := by
  have due : scanDue s = true := by
    unfold scanDue
    rw [idle]
    cases started : s.pkm.lastStart with
    | none => rfl
    | some t0 => exact decide_eq_true (passed t0 started)
  refine congrArg Host.Outcome.next ((whilePowered_on on).trans (congrArg beginTransmission ?_))
  exact if_pos due

theorem startScan_on {s : State} (on : s.slc.power = .on) : startScan s = s.setPkm { s.pkm with
    scan := some { watch := false, fast := decide (s.pkm.interval = .fast), motor := s.mdr.state
                   dt := (match s.pkm.lastOnStart with
                     | some t => (s.slc.uptime - t).toNat
                     | none => 0)
                   measuring := true }
    switches := Seven.replicate false, lastStart := some s.slc.uptime, lastOnStart := some s.slc.uptime } := by
  simp only [startScan, newScan, on, State.now]
  rfl

/-- A start not due is void (R99). -/
theorem exec_scanStart_void {s : State} (on : s.slc.power = .on)
    (early : s.pkm.scan.isSome = true ∨ ∃ t0 ∈ s.pkm.lastStart, (s.slc.uptime - t0).toNat < s.pkm.interval.ms) :
    exec .scanStart s = .next (beginTransmission s) := by
  have due : scanDue s = false := by
    rcases early with busy | ⟨t0, started, soon⟩
    · obtain ⟨sc, begun⟩ := Option.isSome_iff_exists.1 busy
      simp [scanDue, begun]
    · unfold scanDue
      rw [Option.mem_def.1 started]
      exact Bool.and_eq_false_imp.2 fun _ => decide_eq_false (Nat.not_le.2 soon)
  refine congrArg Host.Outcome.next ((whilePowered_on on).trans (congrArg beginTransmission ?_))
  exact if_neg (by simp [due])

/-- After the seventh cell the switches of the set in force close (R98, R113). -/
theorem exec_seventhCell {sc : Scan} {s : State} (on : s.slc.power = .on) (begun : s.pkm.scan = some sc)
    (measuring : sc.measuring = true) : exec .seventhCellMeasured s = .next (beginTransmission (seventhCell sc s)) := by
  refine congrArg Host.Outcome.next ((whilePowered_on on).trans (congrArg beginTransmission ?_))
  rw [begun]
  exact if_pos measuring

theorem gaugeScan_counts {s : State} (settled : s.gge.estimatePending = false) (i : Int) (dt : Nat) (cutoff : Bool) :
    gaugeScan i dt cutoff s =
      s.setGge { s.gge with current := some i, q := clampNat 0 (fullCharge s.gge.f) ((s.gge.q : Int) - i * dt) } :=
  if_neg (by simp [settled])

theorem gaugeScan_estimates {s : State} (pending : s.gge.estimatePending = true) (i : Int) (dt : Nat) :
    gaugeScan i dt false s = s.setGge { s.gge with
      current := some i, estimatePending := false, event := .estimate, eventAt := s.slc.uptime
      q := s.gge.f * estimateSoc (meanMv s.pkm) * 36000 } :=
  if_pos pending

/-- An EMPTY resync of the same scan end withholds the estimate (R118, R120). -/
theorem gaugeScan_withheld {s : State} (pending : s.gge.estimatePending = true) (i : Int) (dt : Nat) :
    gaugeScan i dt true s = s.setGge { s.gge with current := some i, estimatePending := false } :=
  if_pos pending

/-! ### What an ON scan's end makes of its reading, in the statement's words -/

section
variable {sc : Scan} {r : ScanReading} {s : State}

/-- A scan that reads no cell below deep_uv leaves no deep flag (R102, R105). -/
theorem scannedCells_shallow_inRange (range : ParamsInRange s)
    (h : ∀ v ∈ r.cells.toList, (s.packPar.deepUv : Int) ≤ v) : (scannedCells r s).toList.any (·.deep) = false := by
  have deep : ((s.packPar.deepUv : Nat) : Int) ≤ 2800 := (range .deepUv).2.1
  exact scannedCells_shallow (by omega) h

/-- What a scan measures and allows, read off `measured`. -/
theorem fields_of_measured {p q : Pkm} (h : measured p = q) :
    p.cells.map (fun c => { c with bleeding := false }) = q.cells ∧ p.current = q.current ∧ p.tPack1 = q.tPack1 ∧
      p.tPack2 = q.tPack2 ∧ p.packT = q.packT ∧ p.tInv = q.tInv ∧ p.thermal = q.thermal ∧ p.discharge = q.discharge ∧
      p.chargeAllowance = q.chargeAllowance ∧ p.scan = q.scan ∧ p.scanned = q.scanned ∧ vmin p = vmin q := by
  subst h
  exact ⟨rfl, rfl, rfl, rfl, rfl, rfl, rfl, rfl, rfl, rfl, rfl, rfl⟩

/-- The records of an ON scan, whatever bleeds. -/
theorem onScanned_cells (shallow : (scannedCells r s).toList.any (·.deep) = false) :
    (onScanned sc r s).pkm.cells.map (fun c => { c with bleeding := false }) =
      (scannedCells r s).map fun c => { c with bleeding := false } := by
  rw [(fields_of_measured (onScanned_measured (sc := sc) shallow)).1, recordOthers_pkm]
  rfl

/-- The voltages of an ON scan. -/
theorem onScanned_mv (shallow : (scannedCells r s).toList.any (·.deep) = false) :
    (onScanned sc r s).pkm.cells.map (·.mv) = r.cells.map fun v => some (clampNat 0 5000 v) := by
  have unbled (v : Seven CellRecord) : (v.map fun c => { c with bleeding := false }).map (·.mv) = v.map (·.mv) := rfl
  rw [← unbled, onScanned_cells (sc := sc) shallow, unbled, scannedCells_mv]

/-- The measures and allowances of an ON scan. -/
theorem onScanned_allowances (shallow : (scannedCells r s).toList.any (·.deep) = false) :
    let t := onScanned sc r s
    let t1 := clampInt (-40) 125 r.tPack1
    let t2 := clampInt (-40) 125 r.tPack2
    let thermal := thermalLimit s.packPar (max t1 t2)
    t.pkm.current = some (clampInt (-60000) 60000 r.current) ∧ t.pkm.tPack1 = some t1 ∧ t.pkm.tPack2 = some t2 ∧
      t.pkm.packT = some (max t1 t2) ∧ t.pkm.tInv = some (clampInt (-40) 125 r.tInv) ∧ t.pkm.thermal = thermal ∧
      t.pkm.discharge = min s.packPar.iMax (min thermal (movedSag s.packPar sc ((vmin t.pkm).getD 0) s.pkm.iSag)) ∧
      t.pkm.chargeAllowance = chargeAllowanceOf s.chargePar t1 t2 ∧ t.pkm.scan = none ∧ t.pkm.scanned = true := by
  obtain ⟨-, current, tPack1, tPack2, packT, tInv, thermal, discharge, charge, scan, scanned, low⟩ :=
    fields_of_measured (onScanned_measured (sc := sc) shallow)
  dsimp only
  rw [discharge, current, tPack1, tPack2, packT, tInv, thermal, charge, scan, scanned, low, recordOthers_pkm]
  exact ⟨rfl, rfl, rfl, rfl, rfl, rfl, rfl, rfl, rfl, rfl⟩

/-- CUTOFF is due at an ON scan's end as the statement says it. -/
theorem cutoffDue_unqualified (unqualified : s.chc.state ≠ .qualify) : cutoffDue (hotJudged r (scanClosed sc s)) =
    ((scannedCells r s).toList.any (·.uv) && !isCharging s.chc.state && decide (s.pkm.state ≠ .cutoff)) :=
  have ⟨charge, _, pack⟩ := hotJudged_unqualified (s := scanClosed sc s) unqualified r
  cutoffDue_hotJudged ⟨charge, pack⟩

end

end Sys2Proof.Proofs

namespace Sys2Proof.Proofs

open Sys2Proof.Machine Sys2Proof.Safety

/-! ### O39 -/

/-- What a transmission begun leaves alone need only be shown of the state before it. -/
theorem yields_transmission {c : Instr} {s u : State} {P : State → Prop} (taken : exec c s = .next (beginTransmission u))
    (h : P (beginTransmission u)) : Yields (exec c s) P := ⟨_, taken, h⟩

/-- Settles O39: each branch of a scan's start, seventh cell and end by the lemma of its own, and the gauge's equations. -/
theorem scanAndGauge : Obligations.ScanAndGauge := by
  intro sc r i dt cutoff s
  refine ⟨fun on => ⟨fun idle passed => ?_, exec_scanStart_void on, exec_seventhCell on⟩, ?_, ?_, ?_,
    fun settled => gaugeScan_counts settled i dt cutoff, fun pending => gaugeScan_estimates pending i dt,
    fun pending => gaugeScan_withheld pending i dt⟩
  · exact (exec_scanStart_due on idle passed).trans
      (congrArg (fun t => Host.Outcome.next (beginTransmission t)) (startScan_on on))
  · intro on range begun awake _ high t1 t2 hot inv m p thermal cells cut full
    have shallow := scannedCells_shallow_inRange range high
    have taken := exec_scanEnd_on on begun awake shallow
    refine ⟨yields_transmission taken ?_, fun due order unqualified => yields_transmission taken ?_,
      fun uncut unqualified released => yields_transmission taken ?_,
      fun inCutoff uncharged unqualified low => yields_transmission taken ?_,
      fun tooHot watched => yields_transmission taken ?_,
      fun tooHot watched cool uncut => yields_transmission taken ?_,
      fun inverter cool uncut precheck held follows demand => yields_transmission taken ?_,
      fun inverter cool precheck free follows demand uncut => yields_transmission taken ?_,
      fun tr record first now motor tripped tooHot => yields_transmission taken ?_,
      fun charging fresh => yields_transmission taken ?_⟩
    all_goals simp only [ParamsKept, beginTransmission_frame]
    case refine_1 =>
      obtain ⟨current, tPack1, tPack2, packT, tInv, thermal, discharge, charge, scan, scanned⟩ :=
        onScanned_allowances (sc := sc) shallow
      obtain ⟨estimated, capacity⟩ := onScanned_gauge_rest (sc := sc) shallow
      obtain ⟨motorTInv, derate⟩ := onScanned_inverter (sc := sc) shallow
      obtain ⟨sbt, params, pending⟩ := onScanned_frame (sc := sc) (r := r) (s := s)
      have parked : ¬ ((onScanned sc r s).mdr.state = .off ∧ s.mdr.state ≠ .off) :=
        fun k => k.2 (onScanned_off k.1)
      rw [if_neg parked]
      exact ⟨onScanned_mv shallow, onScanned_cells shallow,
        fun unqualified => onScanned_q unqualified (cutoffDue_unqualified unqualified) shallow,
        current, tPack1, tPack2, packT, tInv, motorTInv, derate, thermal, discharge, charge, scan, scanned, estimated,
        capacity, sbt, params, pending⟩
    case refine_2 =>
      obtain ⟨pack, stopped, event, entry⟩ := onScanned_cut (sc := sc) unqualified due shallow order
      have flagged : (scannedCells r s).toList.any (·.uv) = true :=
        (Bool.and_eq_true_iff.1 (Bool.and_eq_true_iff.1 due).1).1
      obtain ⟨x, member, weakest, least⟩ := onScanned_weakest (sc := sc) flagged
      rw [entry]
      exact ⟨pack, stopped.trigger, stopped.host, stopped.demand, stopped.edit, event, rfl, rfl,
        ⟨x, member, congrArg Detail.cell weakest, least⟩,
        fun run demand cool inverter => onScanned_cut_coasts unqualified due shallow order run demand cool inverter⟩
    case refine_3 => exact onScanned_uncut unqualified uncut released
    case refine_4 => exact onScanned_stays unqualified uncharged inCutoff low
    case refine_5 =>
      obtain ⟨motor, gates, stopped, trip⟩ := onScanned_packHot (sc := sc) tooHot watched
      exact ⟨motor, gates, stopped.trigger, stopped.host, stopped.demand, trip⟩
    case refine_6 =>
      obtain ⟨motor, gates, stopped, count, trip⟩ := onScanned_invHot (sc := sc) shallow tooHot watched cool uncut
      exact ⟨motor, gates, stopped.trigger, stopped.host, stopped.demand, count, trip⟩
    case refine_7 => exact onScanned_precheck_held follows demand on shallow cool inverter uncut precheck held
    case refine_8 => exact onScanned_precheck_free follows demand on shallow cool inverter uncut precheck free
    case refine_9 => exact onScanned_later record first now motor tripped tooHot
    case refine_10 => exact onScanned_ov charging fresh
  · intro powered begun absent first deep
    obtain ⟨x, ended, contact⟩ := scanEnd_ship begun absent first deep
    have taken : exec (.scanEnd r) s = .next (beginTransmission (shipEntry x)) := by
      rw [← ended]
      exact congrArg Host.Outcome.next (if_neg powered)
    exact ⟨fun down => yields_transmission taken (shipEntry_down x (contact.trans down)),
      fun up => yields_transmission taken (shipEntry_up x (contact.trans up))⟩
  · intro powered begun watch shallow uncharged uv p watched
    have taken := exec_scanEnd_watch powered begun watch shallow
    exact ⟨fun away calm follows => yields_transmission taken (watchScanned_quiet uncharged away calm shallow follows),
      fun away flagged order => yields_transmission taken (watchScanned_cut uncharged away flagged order),
      fun inCutoff high => yields_transmission taken (watchScanned_releases uncharged inCutoff shallow high)⟩

end Sys2Proof.Proofs

namespace Sys2Proof.Proofs

open Sys2Proof.Machine Sys2Proof.Safety

/-! ### The revolution end of the Speed Regulator (R48 to R52) -/

/-- A clamp at 0 or above, as a number with a sign. -/
theorem clampNat_cast (lo hi : Nat) (v : Int) : (clampNat lo hi v : Int) = max (lo : Int) (min (hi : Int) v) := by
  unfold clampNat clampInt
  omega

theorem slewed_rises {st sReq : Nat} (h : st < sReq) (up down : Nat) : slewed st sReq up down = min (st + up) sReq :=
  if_pos h

theorem slewed_falls {st sReq : Nat} (h : sReq ≤ st) (up down : Nat) : slewed st sReq up down = max (st - down) sReq :=
  if_neg (by omega)

section
variable {dc im iC : Nat}

theorem limited_over (h : iC < im) (dcStep : Nat) : limited dc im iC dcStep = dc - max 1 (dc * (im - iC) / im) :=
  if_pos h

theorem limited_under (h : im < iC - iC / 16) (dcStep : Nat) : limited dc im iC dcStep = min 4095 (dc + dcStep) := by
  rw [limited, if_neg (by omega), if_pos h]

theorem limited_between (h : im ≤ iC) (k : iC - iC / 16 ≤ im) (dcStep : Nat) : limited dc im iC dcStep = dc := by
  rw [limited, if_neg (by omega), if_neg (by omega)]

/-- The ceiling never leaves the range of the duty (R49). -/
theorem limited_le (h : dc ≤ 4095) (dcStep : Nat) : limited dc im iC dcStep ≤ 4095 := by
  unfold limited
  repeat' split
  all_goals omega

end

/-- The integral takes its step where the last duty was not pinned at the bound the error points to, and lies under the
ceiling either way (R51). -/
theorem integrated_cast (acc : Nat) (high low : Bool) (ki : Nat) (e : Int) (dc : Nat) :
    (integrated acc high low ki e dc : Int) = max 0 (min ((dc : Int) * 1024)
      (if (high = true ∧ 0 < e) ∨ (low = true ∧ e < 0) then (acc : Int) else (acc : Int) + ki * e)) := by
  unfold integrated
  split <;> exact clampNat_cast ..

theorem integrated_le (acc : Nat) (high low : Bool) (ki : Nat) (e : Int) (dc : Nat) :
    integrated acc high low ki e dc ≤ dc * 1024 := by
  have := integrated_cast acc high low ki e dc
  omega

theorem loopDuty_le (acc kp : Nat) (e : Int) (dc : Nat) : loopDuty acc kp e dc ≤ dc :=
  (clampNat_range 0 dc _ (Nat.zero_le dc)).2

/-- Settles O34: each of the four steps by its own equation and bound. -/
theorem regulatorActs : Obligations.RegulatorActs := by
  intro speed mean s im r up down q e top pinned
  have mean_measured : measuredIm mean = im := by simp only [measuredIm, im]; omega
  have ceiling : r.dc = limited s.srg.dc im q.iC s.motorPar.dcStep := congrArg (limited _ · _ _) mean_measured
  refine ⟨fun below => slewed_rises below .., fun above => slewed_falls above.le .., fun same => ?_, fun exceeds => ?_,
    fun under => ceiling.trans (limited_under under _), fun least most => ceiling.trans (limited_between least most _),
    fun full => ceiling ▸ limited_le full _, integrated_cast .., clampNat_cast .., loopDuty_le .., integrated_le ..,
    decide_eq_true_iff, decide_eq_true_iff⟩
  · have reached : r.st = max (s.srg.st - down) q.sReq := slewed_falls same.ge ..
    omega
  · rw [ceiling, limited_over exceeds]
    omega

end Sys2Proof.Proofs

namespace Sys2Proof.Proofs

open Sys2Proof.Machine Sys2Proof.Safety

/-! ### The drive: the duty under its ceiling, the bridge driven in the driven states alone (R49 to R56, 2.1) -/

/-- The regulator's values lie under their bounds, and the bridge is driven only in the driven states. -/
def DriveSound (s : State) : Prop := RegulatorSound s ∧ GatesSound s.mdr

/-- What O51 asks of a part of a step: a sound drive stays sound. -/
structure KeepsDrive (s t : State) : Prop where
  sound : DriveSound s → DriveSound t

theorem KeepsDrive.refl (s : State) : KeepsDrive s s := ⟨id⟩

theorem KeepsDrive.trans {s t u : State} (h : KeepsDrive s t) (k : KeepsDrive t u) : KeepsDrive s u :=
  ⟨k.sound ∘ h.sound⟩

/-- A part of a step that leaves the regulator, the pair driven, the motor's state and its parameters alone. -/
theorem KeepsDrive.of_frame {s t : State} (h : t.srg = s.srg ∧ t.mdr.gates = s.mdr.gates ∧
    t.mdr.state = s.mdr.state ∧ t.motorPar = s.motorPar) : KeepsDrive s t := by
  obtain ⟨srg, gates, state, par⟩ := h
  exact ⟨by simp only [DriveSound, RegulatorSound, GatesSound, srg, gates, state, par, imp_self]⟩

/-- An event that acts where its moment has come, and is void otherwise. -/
theorem KeepsDrive.ite {s t : State} (c : Prop) [Decidable c] (h : c → KeepsDrive s t) :
    KeepsDrive s (if c then t else s) := by
  split
  · next k => exact h k
  · exact .refl s

/-! ### The bridge -/

theorem gatesSound_off {m : Mdr} (h : m.gates = none) : GatesSound m := by simp [GatesSound, h]

/-- A write of the Motor Drive under which the bridge stays off outside the driven states. -/
theorem KeepsDrive.of_mdr {s : State} {m : Mdr} (h : GatesSound s.mdr → GatesSound m) : KeepsDrive s (s.setMdr m) :=
  ⟨fun ⟨regulator, gates⟩ => ⟨regulator, h gates⟩⟩

/-- A write of the Motor Drive that leaves its state and the pair driven. -/
theorem KeepsDrive.moved {s t : State} {m : Mdr} (h : KeepsDrive s t)
    (k : m.gates = t.mdr.gates ∧ m.state = t.mdr.state) : KeepsDrive s (t.setMdr m) :=
  h.trans (.of_frame ⟨rfl, k.1, k.2, rfl⟩)

/-- An entry drives a pair in ALIGN and RAMP, lets one stand in HANDOVER and RUN, and otherwise turns the gates off
(R29 to R40). -/
theorem enteredMdr_gatesSound (new : MotorState) (pend : Bool) (m : Mdr) : GatesSound (enteredMdr new pend m) := by
  cases new
  case align | ramp | handover | run => simp [GatesSound]
  all_goals exact gatesSound_off rfl

/-! ### The regulator -/

/-- A write of the regulator that keeps its values under their bounds. -/
theorem KeepsDrive.of_srg {s : State} {r : Srg} (h : RegulatorSound s → RegulatorSound (s.setSrg r)) :
    KeepsDrive s (s.setSrg r) :=
  ⟨fun ⟨regulator, gates⟩ => ⟨h regulator, gates⟩⟩

/-- A revolution end keeps the duty and the integral under the ceiling, and the ceiling at full duty at most (R49 to
R52). -/
theorem regulated_regulatorSound {s : State} (h : RegulatorSound s) (speed im : Nat) :
    RegulatorSound (s.setSrg (regulated s speed im)) :=
  ⟨limited_le h.1 _, loopDuty_le .., integrated_le .., h.2.2.2⟩

/-- The seed of HANDOVER is the duty of RAMP (R44, R55). -/
theorem seedHandover_regulatorSound {s : State} (h : RegulatorSound s) (p : Nat) :
    RegulatorSound (s.setSrg (seedHandover s.motorPar.rampDuty p s.srg)) := by
  obtain ⟨-, -, -, ramp⟩ := h
  refine ⟨le_rfl, ?_, ?_, ramp⟩ <;> simp only [seedHandover, State.setSrg_srg] <;> omega

/-- The seed of a catch is held at full duty (R56). -/
theorem seedCatch_regulatorSound {s : State} (h : RegulatorSound s) (speed kvDuty : Nat) :
    RegulatorSound (s.setSrg (seedCatch speed kvDuty s.srg)) := by
  have held : catchDuty speed kvDuty ≤ 4095 := Nat.min_le_left ..
  exact ⟨le_rfl, held, Nat.mul_le_mul_right _ held, h.2.2.2⟩

/-- The entries to OFF and RUN leave the regulator under its bounds: reset, or with its ceiling raised to full duty
(R45, R55, R56). -/
theorem deliverSrg_regulatorSound {s : State} (h : RegulatorSound s) (new : MotorState) :
    RegulatorSound (deliverSrg new s) := by
  obtain ⟨ceiling, duty, integral, ramp⟩ := h
  cases new
  case off => exact ⟨Nat.le_refl 4095, Nat.zero_le _, Nat.zero_le _, ramp⟩
  case run =>
    exact ⟨le_rfl, duty.trans ceiling, integral.trans (Nat.mul_le_mul_right _ ceiling), ramp⟩
  all_goals exact ⟨ceiling, duty, integral, ramp⟩

/-! ### A change of motor state (R23) -/

/-- A change of motor state leaves of the regulator what the delivery to it leaves. -/
theorem motorTo_srg (new : MotorState) (cause : MotorCause) (pend : Bool) (s : State) :
    (motorTo new cause pend s).srg = (deliverSrg new s).srg := by
  cases new <;> simp [motorTo, deliverSrg]

theorem motorTo_keepsDrive (new : MotorState) (cause : MotorCause) (pend : Bool) (s : State) :
    KeepsDrive s (motorTo new cause pend s) := by
  refine ⟨fun ⟨regulator, _⟩ => ⟨?_, ?_⟩⟩
  · simpa only [RegulatorSound, motorTo_srg, motorTo_frame, deliverSrg_frame] using deliverSrg_regulatorSound regulator new
  · rw [motorTo_mdr]
    exact enteredMdr_gatesSound new pend s.mdr

theorem demandRise_keepsDrive (s : State) : KeepsDrive s (demandRise s) := by
  unfold demandRise
  repeat' split
  any_goals exact .refl s
  all_goals exact motorTo_keepsDrive ..

theorem demandFall_keepsDrive (s : State) : KeepsDrive s (demandFall s) := by
  unfold demandFall
  split
  · exact .refl s
  · exact .refl s
  · exact .of_mdr id
  · exact motorTo_keepsDrive ..

theorem demandRefresh_keepsDrive (s : State) : KeepsDrive s (demandRefresh s) := by
  have evaluated (b : Bool) : KeepsDrive s (evaluateAs b s) := .of_frame (by simp)
  unfold demandRefresh
  dsimp only
  repeat' split
  · exact .refl s
  · exact (evaluated _).trans (demandRise_keepsDrive _)
  · exact (evaluated _).trans (demandFall_keepsDrive _)

/-- A part of a step that ends in a recomputation of run demand. -/
theorem KeepsDrive.refreshed {s t : State} (h : KeepsDrive s t) : KeepsDrive s (demandRefresh t) :=
  h.trans (demandRefresh_keepsDrive t)

theorem forcedStop_keepsDrive (s : State) : KeepsDrive s (forcedStop s) :=
  (KeepsDrive.of_frame (by simp)).trans (demandRefresh_keepsDrive (clearClaims s))

/-! ### Trips and starts (R29 to R40, R165 to R172) -/

theorem trip_keepsDrive (k : FaultKind) (d : Detail) (s : State) : KeepsDrive s (trip k d s) := by
  have filled : KeepsDrive s (s.setFmg { s.fmg with trip := some (tripRecordOf k d s) }) := .of_frame (by simp)
  exact (filled.trans (motorTo_keepsDrive .tripped .trip false _)).trans (.of_frame (by simp [trip]))

theorem applyStop_keepsDrive (k : FaultKind) (d : Detail) (s : State) : KeepsDrive s (applyStop k d s) := by
  unfold applyStop
  split
  · exact .refl s
  · exact trip_keepsDrive k d s

theorem raiseStop_keepsDrive (k : FaultKind) (d : Detail) (s : State) : KeepsDrive s (raiseStop k d s) :=
  (KeepsDrive.of_frame (by simp)).trans (applyStop_keepsDrive k d (noteRaise k d s))

theorem startFail_keepsDrive (cause : MotorCause) (s : State) : KeepsDrive s (startFail cause s) := by
  have off : KeepsDrive s (s.setMdr { gatesOff s.mdr with attempts := s.mdr.attempts + 1 }) :=
    .of_mdr fun _ => gatesSound_off rfl
  unfold startFail
  dsimp only
  split
  · exact off.trans (motorTo_keepsDrive ..)
  · exact off.trans (raiseStop_keepsDrive ..)

theorem restartDecision_keepsDrive (d : Detail) (s : State) : KeepsDrive s (restartDecision d s) := by
  have aged (l : List Uptime) : KeepsDrive s (s.setMdr { s.mdr with restarts := l }) := .of_mdr id
  unfold restartDecision
  dsimp only
  repeat' split
  · exact (aged _).trans (applyStop_keepsDrive ..)
  · exact ((aged _).trans (motorTo_keepsDrive ..)).trans (motorTo_keepsDrive ..)
  · exact (aged _).trans (motorTo_keepsDrive ..)

theorem raiseSyncLoss_keepsDrive (s : State) : KeepsDrive s (raiseSyncLoss s) := by
  have off : KeepsDrive s (s.setMdr { gatesOff s.mdr with misses := 0 }) := .of_mdr fun _ => gatesSound_off rfl
  have noted (d : Detail) (t : State) : KeepsDrive t (noteRaise .syncLoss d t) := .of_frame (by simp)
  unfold raiseSyncLoss
  dsimp only
  split
  · exact (off.trans (noted _ _)).trans (applyStop_keepsDrive ..)
  · exact (off.trans (noted _ _)).trans (restartDecision_keepsDrive ..)

theorem precheckDecide_keepsDrive (tInv : Int) (s : State) : KeepsDrive s (precheckDecide tInv s) := by
  unfold precheckDecide
  repeat' split
  · exact raiseStop_keepsDrive ..
  all_goals exact motorTo_keepsDrive ..

theorem scheduleCrossing_keepsDrive (t d : Nat) (s : State) : KeepsDrive s (scheduleCrossing t d s) :=
  .of_frame (by simp [scheduleCrossing])

theorem enterRun_keepsDrive (s : State) : KeepsDrive s (enterRun s) := by
  unfold enterRun
  exact (motorTo_keepsDrive .run .inStep false s).moved ⟨rfl, rfl⟩

theorem enterHandover_keepsDrive (t d : Nat) (s : State) : KeepsDrive s (enterHandover t d s) := by
  have entered := motorTo_keepsDrive .handover .locked false s
  unfold enterHandover
  generalize motorTo .handover .locked false s = u at entered ⊢
  have seeded : KeepsDrive u (u.setSrg (seedHandover u.motorPar.rampDuty u.mdr.periods.sum u.srg)) :=
    .of_srg fun h => seedHandover_regulatorSound h _
  refine KeepsDrive.trans ((entered.trans seeded).moved ?_) (scheduleCrossing_keepsDrive t d _)
  exact ⟨rfl, rfl⟩

theorem enterRunCaught_keepsDrive (s : State) : KeepsDrive s (enterRunCaught s) := by
  have seeded : KeepsDrive s (s.setSrg (seedCatch (speedOfSum s.mdr.periods.sum) s.motorPar.kvDuty s.srg)) :=
    .of_srg fun h => seedCatch_regulatorSound h ..
  unfold enterRunCaught
  refine KeepsDrive.trans (seeded.moved ?_) ((enterRun_keepsDrive _).trans (scheduleCrossing_keepsDrive _ _ _))
  exact ⟨rfl, rfl⟩

theorem coastEnd_keepsDrive (cause : MotorCause) (s : State) : KeepsDrive s (coastEnd cause s) := by
  rw [coastEnd_eq]
  exact motorTo_keepsDrive ..

theorem clearTrip_keepsDrive (way : ClearWay) (s : State) : KeepsDrive s (clearTrip way s) := by
  have cleared : KeepsDrive s (s.setFmg { s.fmg with trip := none }) := .of_frame (by simp)
  exact (cleared.trans (motorTo_keepsDrive .off .tripClear false _)).trans (.of_frame (by simp [clearTrip]))

theorem raisePersist_keepsDrive (s : State) : KeepsDrive s (raisePersist s) := by
  unfold raisePersist
  dsimp only
  split
  · exact raiseStop_keepsDrive ..
  · exact .of_frame (by simp)

theorem enterBlocked_keepsDrive (s : State) : KeepsDrive s (enterBlocked s) := by
  have entered : KeepsDrive s (enteredBlocked s) := .of_frame (by simp [enteredBlocked])
  rw [enterBlocked_eq]
  split
  · exact entered.trans (raisePersist_keepsDrive _)
  · exact entered

theorem expireBlock_keepsDrive (s : State) : KeepsDrive s (expireBlock s) :=
  KeepsDrive.ite _ fun _ => (enterBlocked_keepsDrive s).refreshed

/-! ### Dock, sleep and reset (chapters 9 and 13) -/

theorem dockArrival_keepsDrive (s : State) : KeepsDrive s (dockArrival s) := by
  have arrived : KeepsDrive s (s.setDlk (arrivedDlk s.dlk)) := .of_frame (by simp)
  exact (arrived.trans (forcedStop_keepsDrive _)).trans (.of_frame (by simp [dockArrival]))

theorem dockLoss_keepsDrive (s : State) : KeepsDrive s (dockLoss s) :=
  KeepsDrive.refreshed (.of_frame (by simp))

theorem enterSleep_keepsDrive (s : State) : KeepsDrive s (enterSleep s) := by
  have slept : KeepsDrive s (s.setSlc { s.slc with power := .sleep, idle := 0, entry := .none }) := .of_frame (by simp)
  exact (slept.trans (forcedStop_keepsDrive _)).trans (.of_frame (by simp [enterSleep]))

theorem wakeIfAsleep_keepsDrive (cause : WakeCause) (s : State) : KeepsDrive s (wakeIfAsleep cause s) := by
  have begun (t : State) : KeepsDrive t (beginTransmission t) := .of_frame (by simp)
  unfold wakeIfAsleep wake
  exact KeepsDrive.ite _ fun _ => .trans (.refreshed (.of_frame (by simp))) (begun _)

theorem contactRisen_keepsDrive (s : State) : KeepsDrive s (contactRisen s) := by
  have risen : KeepsDrive s (s.setDlk { s.dlk with contact := true, lossTimer := none }) := .of_frame (by simp)
  exact risen.trans (KeepsDrive.ite _ fun _ => (wakeIfAsleep_keepsDrive ..).trans (dockArrival_keepsDrive _))

theorem startAtOnce_keepsDrive (s : State) : KeepsDrive s (startAtOnce s) := by
  have seen : KeepsDrive s (contactSeen s) := KeepsDrive.ite _ fun _ => contactRisen_keepsDrive s
  exact seen.trans (.of_frame (by simp [startAtOnce]))

/-- The values of a reset are a sound drive, whatever stood before it (R45, R187). -/
theorem KeepsDrive.of_reset {s t : State} (srg : t.srg = Srg.reset) (mdr : t.mdr = Mdr.reset)
    (par : t.motorPar = State.reset.motorPar) : KeepsDrive s t := by
  refine ⟨fun _ => ⟨?_, gatesSound_off (by rw [mdr]; rfl)⟩⟩
  rw [RegulatorSound, srg, par]
  decide

theorem powerReset_keepsDrive (cause : ResetCause) (s : State) : KeepsDrive s (powerReset cause s) :=
  (KeepsDrive.of_reset (t := resetValues cause s) rfl rfl rfl).trans (startAtOnce_keepsDrive _)

theorem resetRequest_keepsDrive (tag : Byte) (s : State) : KeepsDrive s (resetRequest tag s) := by
  have reset : KeepsDrive s (hostReset s) := by
    unfold hostReset
    refine KeepsDrive.trans ?_ (startAtOnce_keepsDrive _)
    exact .of_reset rfl rfl rfl
  exact reset.trans (.of_frame (by simp [resetRequest]))

theorem shipEntry_keepsDrive (s : State) : KeepsDrive s (shipEntry s) := by
  unfold shipEntry
  dsimp only
  split
  · exact KeepsDrive.trans (.of_frame (by simp)) (powerReset_keepsDrive .shipWake _)
  · exact .of_reset rfl rfl rfl

theorem makeEntry_keepsDrive (s : State) : KeepsDrive s (makeEntry s) := by
  unfold makeEntry
  split
  · exact .of_frame (by simp)
  · exact enterSleep_keepsDrive s
  · exact shipEntry_keepsDrive s

end Sys2Proof.Proofs

namespace Sys2Proof.Proofs

open Sys2Proof.Machine Sys2Proof.Safety

/-! ### The scan's end (R100) -/

theorem enterCutoff_keepsDrive (s : State) : KeepsDrive s (enterCutoff s) := by
  have cut (d : Detail) : KeepsDrive s (noteRaise .cellUv d (s.setPkm { s.pkm with state := .cutoff })) :=
    .of_frame (by simp)
  exact ((cut (.cell (weakestUvCell s.pkm))).trans (forcedStop_keepsDrive _)).trans (.of_frame (by simp [enterCutoff]))

theorem protectCells_keepsDrive (before : Pkm) (s : State) : KeepsDrive s (protectCells before s).1 := by
  have entered : KeepsDrive s (if cutoffDue s then enterCutoff s else s) :=
    KeepsDrive.ite _ fun _ => enterCutoff_keepsDrive s
  exact entered.trans (.of_frame (by simp [protectCells]))

theorem judgePackHot_keepsDrive (s : State) : KeepsDrive s (judgePackHot s) := by
  unfold judgePackHot
  split
  · exact KeepsDrive.ite _ fun _ => raiseStop_keepsDrive ..
  · exact .refl s

theorem refreshDerate_keepsDrive (s : State) : KeepsDrive s (refreshDerate s) := by
  have published (v : Nat) : KeepsDrive s (evaluate (s.setMdr { s.mdr with derate := v })) := .of_frame (by simp)
  unfold refreshDerate
  dsimp only
  repeat' split
  · exact .refl s
  · exact .refl s
  · exact published _

theorem deliverTInv_keepsDrive (t : Int) (s : State) : KeepsDrive s (deliverTInv t s) := by
  have held : KeepsDrive s (s.setMdr { s.mdr with tInv := some t }) := (KeepsDrive.refl s).moved ⟨rfl, rfl⟩
  have taken : KeepsDrive s (inverterTaken t s) := held.trans (refreshDerate_keepsDrive _)
  rw [deliverTInv_eq]
  dsimp only
  repeat' split
  · exact taken.trans (raiseStop_keepsDrive ..)
  · exact taken.trans (precheckDecide_keepsDrive ..)
  · exact taken

theorem deliverScan_keepsDrive (s : State) : KeepsDrive s (deliverScan s) := by
  have scanned : KeepsDrive s (s.setPkm { s.pkm with scanned := true }) := .of_frame (by simp)
  exact (scanned.trans (deliverTInv_keepsDrive (s.pkm.tInv.getD 0) _)).trans (.of_frame (by simp [deliverScan]))

theorem watchScanEnd_keepsDrive (r : ScanReading) (s : State) : KeepsDrive s (watchScanEnd r s) := by
  have recorded : KeepsDrive s (recordCells r s) := .of_frame (by simp)
  have judged (t : State) : KeepsDrive t (judgeRelease t) := .of_frame (by simp)
  have protect := (recorded.trans (protectCells_keepsDrive s.pkm _)).trans (judged _)
  unfold watchScanEnd
  dsimp only
  split
  · exact protect.trans (shipEntry_keepsDrive _)
  · exact protect

theorem onScanEnd_keepsDrive (sc : Scan) (r : ScanReading) (s : State) : KeepsDrive s (onScanEnd sc r s) := by
  have recorded : KeepsDrive s (recordOthers r (recordCells r s)) := .of_frame (by simp)
  have judged (cut : Bool) (t : State) :
      KeepsDrive t (gaugeStep sc cut (moveAllowances sc (judgePackState (judgeRelease t)))) := .of_frame (by simp)
  have protect := (recorded.trans (judgePackHot_keepsDrive _)).trans (protectCells_keepsDrive s.pkm _)
  have delivered (cut : Bool) := (protect.trans (judged cut _)).trans (deliverScan_keepsDrive _)
  unfold onScanEnd
  dsimp only
  split
  · exact (delivered _).trans (shipEntry_keepsDrive _)
  · exact delivered _

theorem scanEnd_keepsDrive (r : ScanReading) (s : State) : KeepsDrive s (scanEnd r s) := by
  have begun : KeepsDrive s (match s.pkm.scan with
      | some _ => s
      | none => startScan s) := by
    split
    · exact .refl s
    · exact .of_frame (by simp)
  have closed (t : State) (w : Seven Bool) : KeepsDrive t (t.setPkm { t.pkm with scan := none, switches := w }) :=
    .of_frame (by simp)
  have ended (sc : Scan) (t : State) : KeepsDrive t (if sc.watch then watchScanEnd r t else onScanEnd sc r t) := by
    split
    · exact watchScanEnd_keepsDrive r t
    · exact onScanEnd_keepsDrive sc r t
  unfold scanEnd
  exact ((begun.trans (closed _ _)).trans (ended _ _)).refreshed

/-! ### The parameters (R181) -/

theorem writeTriggerMode_keepsDrive (m : TriggerMode) (s : State) : KeepsDrive s (writeTriggerMode m s) := by
  unfold writeTriggerMode
  split
  · exact .refl s
  · exact .refreshed (.of_frame (by simp))

/-- A write leaves the ramp's duty within its range where the value lies there (R44). -/
theorem paramWrite_keepsDrive (p : Param) {v : Int} (range : p = .rampDuty → v ≤ 2000) (s : State) :
    KeepsDrive s (p.write v s) := by
  cases p
  case rampDuty =>
    have within : v.toNat ≤ 2000 := by have := range rfl; omega
    exact ⟨fun ⟨⟨ceiling, duty, integral, _⟩, gates⟩ => ⟨⟨ceiling, duty, integral, within⟩, gates⟩⟩
  case blockTime => exact KeepsDrive.trans (.of_frame (by simp)) (expireBlock_keepsDrive _)
  case triggerMode => exact writeTriggerMode_keepsDrive _ s
  case invDerateStart | invCut =>
    refine KeepsDrive.trans ?_ (refreshDerate_keepsDrive _)
    exact ⟨id⟩
  case alignDuty | alignTime | rampAccel | handoverSpeed | rampTimeLimit | blankFrac | fixedAdvance | kp | ki | dcStep |
      catchSpeed | kvDuty | coastTimeout | ocLevel => exact ⟨id⟩
  all_goals exact .of_frame (by simp [Param.write])

/-- A block that serves a request and leaves the drive sound. -/
def ServesDrive (serve : State → Served) : Prop := ∀ s, KeepsDrive s (serve s).state

/-- A clamp keeps the ramp's duty in its range, which no other parameter bounds further (R44, R181). -/
theorem taken_rampDuty (v : Int) (s : State) : Param.rampDuty.taken v s ≤ 2000 := by
  have clamped : Param.rampDuty.taken v s = clampInt 100 2000 v := rfl
  rw [clamped, clampInt]
  omega

theorem serveSetKnown_keepsDrive (id : Byte) (p : Param) (value : BitVec 32) : ServesDrive (serveSetKnown id p value) := by
  intro s
  unfold serveSetKnown
  split
  · exact .refl s
  · split
    · next cs enum =>
      split
      · exact paramWrite_keepsDrive p (by rintro rfl; nomatch enum) s
      · exact .refl s
    · exact paramWrite_keepsDrive p (by rintro rfl; exact taken_rampDuty ..) s

theorem serveSetParam_keepsDrive (id : Byte) (value : BitVec 32) : ServesDrive (serveSetParam id value) := by
  intro s
  unfold serveSetParam
  split
  · exact serveSetKnown_keepsDrive id _ value s
  · exact .refl s

/-! ### Requests (R176) -/

theorem serveGetParam_keepsDrive (id : Byte) : ServesDrive (serveGetParam id) := by
  intro s
  unfold serveGetParam
  split <;> exact .refl s

theorem serveNoticeMask_keepsDrive (enables : BitVec 16) : ServesDrive (serveNoticeMask enables) := by
  intro s
  refine .of_frame ?_
  unfold serveNoticeMask
  dsimp only
  repeat' split
  all_goals simp [answered, refuse]

theorem serveSleep_keepsDrive : ServesDrive serveSleep := by
  intro s
  unfold serveSleep
  split <;> exact .of_frame (by simp [answered, refuse])

theorem serveShip_keepsDrive : ServesDrive serveShip := by
  intro s
  unfold serveShip
  split <;> exact .of_frame (by simp [answered, refuse])

theorem serveCellResetMinmax_keepsDrive : ServesDrive serveCellResetMinmax := fun _ => .of_frame ⟨rfl, rfl, rfl, rfl⟩

theorem serveGaugeAdjust_keepsDrive (delta : BitVec 16) : ServesDrive (serveGaugeAdjust delta) :=
  fun _ => .of_frame (by simp [serveGaugeAdjust, answered])

theorem serveChargeEnable_keepsDrive : ServesDrive serveChargeEnable := by
  intro s
  refine .of_frame ?_
  unfold serveChargeEnable chargeAnswered answered
  dsimp only
  split <;> simp

theorem serveChargeDisable_keepsDrive : ServesDrive serveChargeDisable := by
  intro s
  unfold serveChargeDisable chargeAnswered answered
  dsimp only
  split
  · exact .of_frame (by simp)
  · exact .refreshed (.of_frame (by simp))

theorem serveChargePause_keepsDrive : ServesDrive serveChargePause := by
  intro s
  refine .of_frame ?_
  unfold serveChargePause chargeAnswered answered
  dsimp only
  repeat' split
  all_goals simp

theorem serveChargeResume_keepsDrive : ServesDrive serveChargeResume := by
  intro s
  refine .of_frame ?_
  unfold serveChargeResume chargeAnswered answered
  dsimp only
  repeat' split
  all_goals simp

theorem serveChargeClear_keepsDrive : ServesDrive serveChargeClear := by
  intro s
  refine .of_frame ?_
  unfold serveChargeClear chargeAnswered answered
  split <;> simp

theorem serveChargeControl_keepsDrive (action : Byte) : ServesDrive (serveChargeControl action) := by
  intro s
  unfold serveChargeControl
  split
  · exact serveChargeEnable_keepsDrive s
  · exact serveChargeDisable_keepsDrive s
  · exact serveChargePause_keepsDrive s
  · exact serveChargeResume_keepsDrive s
  · exact serveChargeClear_keepsDrive s
  · exact .refl s

theorem serveCounterSetup_keepsDrive (k source : Byte) (threshold : BitVec 32) (options start : Byte) :
    ServesDrive (serveCounterSetup k source threshold options start) := by
  intro s
  refine .of_frame ?_
  unfold serveCounterSetup
  dsimp only
  repeat' split
  all_goals simp [answered, refuse]

theorem serveCounterAdjust_keepsDrive (k : Byte) (delta : BitVec 32) : ServesDrive (serveCounterAdjust k delta) := by
  intro s
  refine .of_frame ?_
  unfold serveCounterAdjust
  dsimp only
  repeat' split
  all_goals simp [answered, refuse]

theorem serveRunStart_keepsDrive : ServesDrive serveRunStart := by
  intro s
  unfold serveRunStart
  split
  · exact .refl s
  · exact .refl s
  · exact .refreshed (.of_frame ⟨rfl, rfl, rfl, rfl⟩)

theorem serveRunStop_keepsDrive : ServesDrive serveRunStop := fun _ => .refreshed (.of_frame ⟨rfl, rfl, rfl, rfl⟩)

theorem serveStepSelect_keepsDrive (step : Byte) : ServesDrive (serveStepSelect step) := by
  intro s
  unfold serveStepSelect
  split <;> exact .of_frame (by simp [answered, refuse])

theorem serveEditBegin_keepsDrive (label : Byte) : ServesDrive (serveEditBegin label) := by
  intro s
  unfold serveEditBegin
  split <;> exact .of_frame (by simp [answered])

theorem serveEditSet_keepsDrive (field : Byte) (value : BitVec 32) : ServesDrive (serveEditSet field value) := by
  intro s
  refine .of_frame ?_
  unfold serveEditSet
  repeat' split
  all_goals simp [answered, refuse]

theorem serveEditCommit_keepsDrive : ServesDrive serveEditCommit := by
  intro s
  refine .of_frame ?_
  unfold serveEditCommit
  repeat' split
  all_goals simp [answered]

theorem serveEditAbort_keepsDrive : ServesDrive serveEditAbort := by
  intro s
  unfold serveEditAbort
  split <;> exact .of_frame (by simp [answered])

theorem serveTripClear_keepsDrive : ServesDrive serveTripClear := by
  intro s
  unfold serveTripClear
  repeat' split
  any_goals exact .refl s
  exact (clearTrip_keepsDrive .host s).refreshed

theorem serveFaultRead_keepsDrive (clearCounts : Byte) : ServesDrive (serveFaultRead clearCounts) := by
  intro s
  refine .of_frame ?_
  unfold serveFaultRead
  repeat' split
  all_goals simp [answered, refuse]

theorem serveBandMode_keepsDrive (mode : Byte) : ServesDrive (serveBandMode mode) := by
  intro s
  unfold serveBandMode
  split <;> exact .of_frame (by simp [answered, refuse])

theorem serveBandClear_keepsDrive : ServesDrive serveBandClear := by
  intro s
  unfold serveBandClear
  split <;> exact .of_frame (by simp [answered, refuse])

theorem serveBandRead_keepsDrive (index : Byte) : ServesDrive (serveBandRead index) := by
  intro s
  unfold serveBandRead
  repeat' split
  all_goals exact .refl s

theorem serveBandWrite_keepsDrive (index advance : Byte) (loadRef : BitVec 16) (flags : Byte) :
    ServesDrive (serveBandWrite index advance loadRef flags) := by
  intro s
  refine .of_frame ?_
  unfold serveBandWrite
  repeat' split
  all_goals simp [answered, refuse]

/-- Every request of the catalogue is served by one of the blocks (12.6). -/
theorem requestServed_keepsDrive {kind : Nat} {payload : List Byte} (known : knownKind kind = true)
    {serve : State → Served} (h : requestServed kind payload = some serve) : ServesDrive serve := by
  have bound : kind ≤ 0x32 := by simp [knownKind] at known; omega
  interval_cases kind
  all_goals
    rcases payload with
      _ | ⟨a, _ | ⟨b, _ | ⟨c, _ | ⟨d, _ | ⟨e, _ | ⟨f, _ | ⟨g, _ | ⟨i, _ | l⟩⟩⟩⟩⟩⟩⟩⟩
  all_goals cases h
  · exact fun s => .refl s
  · exact fun s => .of_frame ⟨rfl, rfl, rfl, rfl⟩
  · exact serveGetParam_keepsDrive _
  · exact serveSetParam_keepsDrive _ _
  · exact serveNoticeMask_keepsDrive _
  · exact serveSleep_keepsDrive
  · exact serveShip_keepsDrive
  · exact serveRunStart_keepsDrive
  · exact serveRunStop_keepsDrive
  · exact serveStepSelect_keepsDrive _
  · exact serveEditBegin_keepsDrive _
  · exact serveEditSet_keepsDrive _ _
  · exact serveEditCommit_keepsDrive
  · exact serveEditAbort_keepsDrive
  · exact fun s => .refl s
  · exact serveTripClear_keepsDrive
  · exact serveFaultRead_keepsDrive _
  · exact serveBandMode_keepsDrive _
  · exact serveBandClear_keepsDrive
  · exact serveBandRead_keepsDrive _
  · exact serveBandWrite_keepsDrive _ _ _ _
  · exact fun s => .refl s
  · exact fun s => .refl s
  · exact serveCellResetMinmax_keepsDrive
  · exact fun s => .refl s
  · exact serveGaugeAdjust_keepsDrive _
  · exact serveChargeControl_keepsDrive _
  · exact fun s => .refl s
  · exact fun s => .refl s
  · exact serveCounterSetup_keepsDrive _ _ _ _ _
  · exact fun s => .refl s
  · exact serveCounterAdjust_keepsDrive _ _

end Sys2Proof.Proofs

namespace Sys2Proof.Proofs

open Sys2Proof.Machine Sys2Proof.Safety

/-! ### The host line (R174 to R178) -/

theorem beginTransmission_keepsDrive (s : State) : KeepsDrive s (beginTransmission s) := .of_frame (by simp)

theorem idleZero_keepsDrive (s : State) : KeepsDrive s (idleZero s) := .of_frame (by simp)

theorem setMpt_keepsDrive (m : Mpt) (s : State) : KeepsDrive s (s.setMpt m) := .of_frame ⟨rfl, rfl, rfl, rfl⟩

theorem discardFrame_keepsDrive (reason : DiscardReason) (s : State) : KeepsDrive s (discardFrame reason s) :=
  .of_frame (by simp)

theorem whilePowered_keepsDrive {f : State → State} (h : ∀ s, KeepsDrive s (f s)) (s : State) :
    KeepsDrive s (whilePowered f s) := by
  unfold whilePowered
  split
  · exact .refl s
  · exact (h s).trans (beginTransmission_keepsDrive _)

theorem judgeRequest_keepsDrive (kind tag : Byte) {serve : State → Served} (h : ServesDrive serve) (s : State) :
    KeepsDrive s (judgeRequest kind tag serve s) := by
  have queued (r : Reply) (t : State) : KeepsDrive t (queueReply r t) := .of_frame (by simp)
  have served (m : Mpt) (r : Reply) : KeepsDrive s (queueReply r (serve (s.setMpt m)).state) :=
    ((setMpt_keepsDrive m s).trans (h _)).trans (queued r _)
  unfold judgeRequest takeRequest
  dsimp only
  repeat' split
  · exact setMpt_keepsDrive _ s
  · exact queued _ s
  · exact (served _ _).trans (enterSleep_keepsDrive _)
  · exact served _ _

theorem onHostFrame_keepsDrive {f : State → State} (h : ∀ s, KeepsDrive s (f s)) (s : State) :
    KeepsDrive s (onHostFrame f s) :=
  whilePowered_keepsDrive (fun t => (wakeIfAsleep_keepsDrive .link t).trans
    ((beginTransmission_keepsDrive _).trans ((h _).trans (idleZero_keepsDrive _)))) s

theorem onRequest_keepsDrive (kind tag : Byte) {serve : State → Served} (h : ServesDrive serve) (s : State) :
    KeepsDrive s (onRequest kind tag serve s) :=
  onHostFrame_keepsDrive (fun t => (setMpt_keepsDrive _ t).trans (judgeRequest_keepsDrive kind tag h _)) s

theorem serveFrame_keepsDrive (kind : Byte) (payload : List Byte) : ServesDrive (serveFrame kind payload) := by
  intro s
  unfold serveFrame
  repeat' split
  · next known _ _ served => exact requestServed_keepsDrive known served s
  · exact .refl s
  · exact .refl s

theorem dispatchFrame_keepsDrive (kind tag : Byte) (payload : List Byte) (s : State) :
    KeepsDrive s (dispatchFrame kind tag payload s) := by
  unfold dispatchFrame
  split
  · exact resetRequest_keepsDrive tag s
  · exact judgeRequest_keepsDrive kind tag (serveFrame_keepsDrive kind payload) s

theorem completeFrame_keepsDrive (bytes : List Byte) (s : State) : KeepsDrive s (completeFrame bytes s) := by
  unfold completeFrame
  dsimp only
  repeat' split
  · exact (setMpt_keepsDrive _ s).trans (dispatchFrame_keepsDrive ..)
  · exact discardFrame_keepsDrive _ s
  · exact .refl s

theorem frameByte_keepsDrive (bytes : List Byte) (s : State) : KeepsDrive s (frameByte bytes s) := by
  unfold frameByte
  repeat' split
  · exact discardFrame_keepsDrive _ s
  · exact setMpt_keepsDrive _ s
  · exact discardFrame_keepsDrive _ s
  · exact setMpt_keepsDrive _ s
  · exact setMpt_keepsDrive _ s
  · exact completeFrame_keepsDrive _ s
  · exact setMpt_keepsDrive _ s
  · exact .refl s

theorem receiveByte_keepsDrive (byte : Byte) (stopBit : Bool) (s : State) :
    KeepsDrive s (receiveByte byte stopBit s) := by
  unfold receiveByte
  repeat' split
  · exact setMpt_keepsDrive _ s
  · exact .refl s
  · exact frameByte_keepsDrive _ s
  · exact discardFrame_keepsDrive _ s

theorem linkActivity_keepsDrive (before after : State) : KeepsDrive after (linkActivity before after) :=
  KeepsDrive.ite _ fun _ => idleZero_keepsDrive after

theorem replyEnded_keepsDrive (r : Reply) (s : State) : KeepsDrive s (replyEnded r s) := by
  unfold replyEnded
  dsimp only
  split
  · exact setMpt_keepsDrive _ s
  · exact ((setMpt_keepsDrive _ s).trans (setMpt_keepsDrive _ _)).trans (makeEntry_keepsDrive _)

/-! ### The events of the motor (R25 to R41) -/

/-- A crossing with the gates off leaves the pair and the state. -/
theorem observeCrossing_drive (sector t : Nat) (m : Mdr) :
    (observeCrossing sector t m).gates = m.gates ∧ (observeCrossing sector t m).state = m.state := by
  unfold observeCrossing
  split <;> exact ⟨rfl, rfl⟩

theorem coastCrossing_keepsDrive (sector t : Nat) (s : State) : KeepsDrive s (coastCrossing sector t s) := by
  have observed := (KeepsDrive.refl s).moved (observeCrossing_drive sector t s.mdr)
  unfold coastCrossing
  dsimp only
  split
  · exact observed.trans (coastEnd_keepsDrive ..)
  · exact observed

theorem catchCrossing_keepsDrive (sector t : Nat) (s : State) : KeepsDrive s (catchCrossing sector t s) := by
  have observed (limit : Option Nat) : KeepsDrive s (s.setMdr { observeCrossing sector t s.mdr with catchLimit := limit }) :=
    (KeepsDrive.refl s).moved (observeCrossing_drive sector t s.mdr)
  unfold catchCrossing
  dsimp only
  generalize (if 6 ≤ (observeCrossing sector t s.mdr).crossings then none
    else (observeCrossing sector t s.mdr).catchLimit) = limit
  repeat' split
  · exact (KeepsDrive.refl s).moved ⟨rfl, rfl⟩
  · exact (KeepsDrive.refl s).moved ⟨rfl, rfl⟩
  · exact (observed limit).trans (enterRunCaught_keepsDrive _)
  · exact observed limit

theorem rampCrossing_keepsDrive (t d : Nat) (s : State) : KeepsDrive s (rampCrossing t d s) := by
  have seen (n : Nat) : KeepsDrive s (s.setMdr { s.mdr with seen := true, windowShut := true, crossings := n }) :=
    (KeepsDrive.refl s).moved ⟨rfl, rfl⟩
  unfold rampCrossing
  dsimp only
  split
  · exact (seen _).trans (enterHandover_keepsDrive t d _)
  · exact seen _

theorem handoverCrossing_keepsDrive (t d : Nat) (s : State) : KeepsDrive s (handoverCrossing t d s) := by
  have counted : KeepsDrive s (s.setMdr { s.mdr with handoverCount := s.mdr.handoverCount + 1 }) :=
    (KeepsDrive.refl s).moved ⟨rfl, rfl⟩
  have entered := counted.trans (KeepsDrive.ite (6 ≤ s.mdr.handoverCount + 1) fun _ => enterRun_keepsDrive _)
  exact entered.trans (scheduleCrossing_keepsDrive t d _)

theorem crossing_keepsDrive (phase : Phase) (rising : Bool) (t d : Nat) (s : State) :
    KeepsDrive s (crossing phase rising t d s) := by
  unfold crossing
  dsimp only
  split
  · exact (KeepsDrive.refl s).moved (observeCrossing_drive ..)
  · exact catchCrossing_keepsDrive ..
  · exact coastCrossing_keepsDrive ..
  · exact KeepsDrive.ite _ fun _ => rampCrossing_keepsDrive t d s
  · exact KeepsDrive.ite _ fun _ => handoverCrossing_keepsDrive t d s
  · exact KeepsDrive.ite _ fun _ => scheduleCrossing_keepsDrive t d s
  · exact .refl s

theorem precheckEnd_keepsDrive (s : State) : KeepsDrive s (precheckEnd s) := by
  unfold precheckEnd
  repeat' split
  · exact precheckDecide_keepsDrive ..
  · exact (KeepsDrive.refl s).moved ⟨rfl, rfl⟩
  · exact .refl s

/-- A ramp tick drives a pair in RAMP alone (R31). -/
theorem rampTicked_keepsDrive (blankFrac : Nat) {s : State} (ramp : s.mdr.state = .ramp) :
    KeepsDrive s (s.setMdr (rampTicked blankFrac s.mdr)) :=
  .of_mdr fun _ _ => .inr (.inl ((rampTicked_stands blankFrac s.mdr).1.trans ramp))

theorem rampAccelerated_keepsDrive (s : State) : KeepsDrive s (rampAccelerated s) := by
  have grown (inc : BitVec 16) : KeepsDrive s (s.setMdr { s.mdr with rampInc := inc, speed := rampSpeed inc }) :=
    (KeepsDrive.refl s).moved ⟨rfl, rfl⟩
  unfold rampAccelerated
  dsimp only
  split
  · exact (grown _).trans (startFail_keepsDrive ..)
  · exact grown _

/-- The sample and its deliveries leave of the drive what the regulator made of it (R46 to R52, R57). -/
theorem revolutionEnd_keepsDrive (im : Int) (s : State) : KeepsDrive s (revolutionEnd im s) := by
  have sampled : KeepsDrive s (turned im s) := by
    have regulates : RegulatorSound s → RegulatorSound (s.setSrg (turnedSrg (speedOfSum s.mdr.periods.sum) (measuredIm im) s)) := by
      unfold turnedSrg
      split
      · exact fun h => regulated_regulatorSound h ..
      · exact id
    exact ⟨fun ⟨regulator, gates⟩ => ⟨regulates regulator, gates⟩⟩
  rw [revolutionEnd_eq]
  exact sampled.trans (.of_frame (by simp))

/-- A commutation drives the next pair, in HANDOVER and RUN alone (R26). -/
theorem commutate_keepsDrive (period : Nat) (im : Int) {s : State}
    (h : s.mdr.state = .handover ∨ s.mdr.state = .run) : KeepsDrive s (commutate period im s) := by
  have moved : KeepsDrive s (s.setMdr (commutated s.motorPar.blankFrac period s.mdr)) :=
    .of_mdr fun _ _ => .inr (.inr h)
  unfold commutate
  dsimp only
  repeat' split
  · exact (moved.moved ⟨rfl, rfl⟩).trans (revolutionEnd_keepsDrive im _)
  · exact moved.moved ⟨rfl, rfl⟩
  · exact moved

theorem scheduledCommutation_keepsDrive (im : Int) (s : State) : KeepsDrive s (scheduledCommutation im s) := by
  unfold scheduledCommutation
  repeat' split
  · next h _ _ _ => exact commutate_keepsDrive _ im h
  · exact .refl s
  · exact .refl s

theorem missedCrossing_keepsDrive (im : Int) {s : State} (run : s.mdr.state = .run) :
    KeepsDrive s (missedCrossing im s) := by
  have closed := commutate_keepsDrive (windowCloseTime s.mdr.ts) im (.inr run)
  unfold missedCrossing
  dsimp only
  split
  · exact ((closed.moved ⟨rfl, rfl⟩).trans (raiseSyncLoss_keepsDrive _)).refreshed
  · exact closed.moved ⟨rfl, rfl⟩

theorem windowClosed_keepsDrive (im : Int) (s : State) : KeepsDrive s (windowClosed im s) := by
  unfold windowClosed
  repeat' split
  · exact .refl s
  · exact (KeepsDrive.refl s).moved ⟨rfl, rfl⟩
  · exact (startFail_keepsDrive ..).refreshed
  · next run => exact missedCrossing_keepsDrive im run
  · exact .refl s

theorem rotorStopped_keepsDrive (s : State) : KeepsDrive s (rotorStopped s) := by
  have quiet : KeepsDrive s (s.setMdr { s.mdr with quiet := true, speed := 0 }) :=
    (KeepsDrive.refl s).moved ⟨rfl, rfl⟩
  unfold rotorStopped
  dsimp only
  split
  · exact quiet.trans (coastEnd_keepsDrive ..)
  · exact quiet
  · exact quiet
  · exact .refl s

theorem overcurrent_keepsDrive (s : State) : KeepsDrive s (overcurrent s) := by
  have off : KeepsDrive s (s.setMdr { s.mdr with gates := none }) := .of_mdr fun _ => gatesSound_off rfl
  unfold overcurrent
  repeat' split
  · exact (off.trans (raiseStop_keepsDrive ..)).refreshed
  · exact raiseStop_keepsDrive ..
  · exact .refl s

/-! ### The trigger (R1 to R5, R171) -/

theorem triggerPress_keepsDrive (s : State) : KeepsDrive s (triggerPress s) := by
  refine .of_frame ?_
  unfold triggerPress
  repeat' split
  all_goals simp [raiseTriggerNotice]

theorem triggerRelease_keepsDrive (s : State) : KeepsDrive s (triggerRelease s) := by
  have released : KeepsDrive s (releasedTrigger s) := .of_frame (by simp [releasedTrigger])
  rw [triggerRelease_eq]
  exact released.trans (KeepsDrive.ite _ fun _ => clearTrip_keepsDrive ..)

theorem triggerEdge_keepsDrive (level : Level) (s : State) : KeepsDrive s (triggerEdge level s) := by
  unfold triggerEdge
  repeat' split
  · exact (wakeIfAsleep_keepsDrive .trigger s).trans
      ((triggerPress_keepsDrive _).refreshed.trans (idleZero_keepsDrive _))
  · exact .of_frame (by simp)
  · exact (triggerRelease_keepsDrive s).refreshed.trans (idleZero_keepsDrive _)

theorem debounced_keepsDrive (s : State) : KeepsDrive s (debounced s) := by
  have determined (g : Trg) : KeepsDrive s (s.setTrg g) := .of_frame ⟨rfl, rfl, rfl, rfl⟩
  unfold debounced
  repeat' split
  · exact determined _
  · exact .refl s
  · exact (determined _).trans (triggerEdge_keepsDrive ..)

/-! ### A step -/

theorem tick_keepsDrive (s : State) : KeepsDrive s (tick s) := by
  have timed (t : State) : KeepsDrive t (tickTimers t) := .of_frame ⟨rfl, rfl, rfl, rfl⟩
  have queued (t : State) (l : List Instr) : KeepsDrive t (t.setPending l) := .of_frame ⟨rfl, rfl, rfl, rfl⟩
  unfold tick
  split
  · exact .refl s
  · exact ((startAtOnce_keepsDrive s).trans ((beginTransmission_keepsDrive _).trans (timed _))).trans (queued _ _)

/-- An event of a part that is not in SHIP. -/
theorem event_keepsDrive {f : State → State} (h : ∀ s, KeepsDrive s (f s)) (s : State) :
    Yields (.next (whilePowered f s)) (KeepsDrive s) := ⟨_, rfl, whilePowered_keepsDrive h s⟩

theorem request_keepsDrive (kind tag : Byte) {serve : State → Served} (h : ServesDrive serve) (s : State) :
    Yields (.next (onRequest kind tag serve s)) (KeepsDrive s) := ⟨_, rfl, onRequest_keepsDrive kind tag h s⟩

/-- A block that answers and changes nothing. -/
theorem servesDrive_reading {serve : State → Served} (h : ∀ s, (serve s).state = s) : ServesDrive serve := fun s => by
  rw [h s]
  exact .refl s

end Sys2Proof.Proofs

namespace Sys2Proof.Proofs

open Sys2Proof.Machine Sys2Proof.Safety

/-! ### O51: every command keeps the drive sound -/

theorem execHostFrameReceived_keepsDrive (kind tag : Byte) (payload : List Byte) (s : State) :
    Yields (execHostFrameReceived kind tag payload s) (KeepsDrive s) := by
  refine ⟨_, rfl, ?_⟩
  repeat' split
  · exact .refl s
  · exact whilePowered_keepsDrive (resetRequest_keepsDrive tag) s
  · exact onHostFrame_keepsDrive (discardFrame_keepsDrive _) s
  · exact onHostFrame_keepsDrive (discardFrame_keepsDrive _) s
  · exact onRequest_keepsDrive kind tag (serveFrame_keepsDrive kind payload) s

theorem execTransmitEnd_keepsDrive (s : State) : Yields (execTransmitEnd s) (KeepsDrive s) := by
  refine event_keepsDrive (fun t => ?_) s
  split
  · exact replyEnded_keepsDrive _ t
  · exact setMpt_keepsDrive _ t
  · exact .refl t

theorem execDirtWindowEnd_keepsDrive (amplitude level : Nat) (signal : List Nat) (s : State) :
    Yields (execDirtWindowEnd amplitude level signal s) (KeepsDrive s) := by
  refine event_keepsDrive (fun t => ?_) s
  split
  · exact KeepsDrive.ite _ fun _ => .of_frame (by simp)
  · exact .refl t

theorem execDockContactRise_keepsDrive (s : State) : Yields (execDockContactRise s) (KeepsDrive s) := by
  have risen : KeepsDrive s (s.setDlk { s.dlk with contact := true }) := .of_frame ⟨rfl, rfl, rfl, rfl⟩
  refine ⟨_, rfl, ?_⟩
  split
  · exact risen.trans (powerReset_keepsDrive .shipWake _)
  · exact whilePowered_keepsDrive contactRisen_keepsDrive s

theorem execDockLoss_keepsDrive (s : State) : Yields (execDockLoss s) (KeepsDrive s) := by
  refine event_keepsDrive (fun t => ?_) s
  split
  · exact .of_frame (by simp)
  · exact dockLoss_keepsDrive t

theorem execTriggerRawChange_keepsDrive (l : Level) (s : State) :
    Yields (execTriggerRawChange l s) (KeepsDrive s) := by
  have raw : KeepsDrive s (s.setTrg { s.trg with raw := l, timer := 0 }) := .of_frame ⟨rfl, rfl, rfl, rfl⟩
  refine ⟨_, rfl, ?_⟩
  split
  · exact whilePowered_keepsDrive KeepsDrive.refl s
  · exact raw.trans (whilePowered_keepsDrive KeepsDrive.refl _)

theorem execContactVoltageFall_keepsDrive (s : State) : Yields (execContactVoltageFall s) (KeepsDrive s) := by
  refine ⟨_, rfl, KeepsDrive.trans ?_ (whilePowered_keepsDrive KeepsDrive.refl _)⟩
  exact .of_frame ⟨rfl, rfl, rfl, rfl⟩

theorem execSeventhCellMeasured_keepsDrive (s : State) : Yields (execSeventhCellMeasured s) (KeepsDrive s) := by
  refine event_keepsDrive (fun t => ?_) s
  split
  · exact KeepsDrive.ite _ fun _ => .of_frame (by simp)
  · exact .refl t

theorem execShipWake_keepsDrive (s : State) : Yields (execShipWake s) (KeepsDrive s) := by
  have risen : KeepsDrive s (s.setDlk { s.dlk with contact := true }) := .of_frame ⟨rfl, rfl, rfl, rfl⟩
  exact ⟨_, rfl, KeepsDrive.ite _ fun _ => risen.trans (powerReset_keepsDrive .shipWake _)⟩

theorem execBrownout_keepsDrive (s : State) : Yields (execBrownout s) (KeepsDrive s) := by
  refine ⟨_, rfl, ?_⟩
  split
  · exact .refl s
  · exact powerReset_keepsDrive .brownout s

theorem execLinkWake_keepsDrive (byte : Byte) (stopBit : Bool) (s : State) :
    Yields (execLinkWake byte stopBit s) (KeepsDrive s) :=
  event_keepsDrive (fun t => ((wakeIfAsleep_keepsDrive .link t).trans (beginTransmission_keepsDrive _)).trans
    ((receiveByte_keepsDrive byte stopBit _).trans (linkActivity_keepsDrive ..))) s

theorem abandonReception_keepsDrive (s : State) : KeepsDrive s (abandonReception s) :=
  .of_frame (by simp [abandonReception])

theorem receptionBegun_keepsDrive (s : State) : KeepsDrive s (receptionBegun s) := by
  have begun (t : State) (b : Bool) : KeepsDrive t (t.setDlk { t.dlk with receiving := b }) :=
    .of_frame ⟨rfl, rfl, rfl, rfl⟩
  exact (KeepsDrive.ite _ fun _ => abandonReception_keepsDrive s).trans (begun _ _)

theorem replyTimeout_keepsDrive (s : State) : KeepsDrive s (replyTimeout s) := by
  unfold replyTimeout
  repeat' split
  all_goals exact .of_frame (by simp)

theorem catchRestarted_keepsDrive (s : State) : KeepsDrive s (s.setMdr (restartCatch s.mdr)) :=
  (KeepsDrive.refl s).moved ⟨rfl, rfl⟩

/-- Every command keeps the drive sound. -/
theorem exec_keepsDrive (c : Instr) (s : State) : Yields (exec c s) (KeepsDrive s) := by
  cases c with
  | identify tag => exact request_keepsDrive _ tag (servesDrive_reading fun _ => rfl) s
  | status tag => exact request_keepsDrive _ tag (fun _ => .of_frame ⟨rfl, rfl, rfl, rfl⟩) s
  | getParam tag id => exact request_keepsDrive _ tag (serveGetParam_keepsDrive id) s
  | setParam tag id value => exact request_keepsDrive _ tag (serveSetParam_keepsDrive id value) s
  | setTriggerMode tag value => exact request_keepsDrive _ tag (serveSetKnown_keepsDrive _ _ value) s
  | setOpticalMode tag value => exact request_keepsDrive _ tag (serveSetKnown_keepsDrive _ _ value) s
  | setEmitterCurrent tag value => exact request_keepsDrive _ tag (serveSetKnown_keepsDrive _ _ value) s
  | setEmitterCarrier tag value => exact request_keepsDrive _ tag (serveSetKnown_keepsDrive _ _ value) s
  | setFullCapacity tag value => exact request_keepsDrive _ tag (serveSetKnown_keepsDrive _ _ value) s
  | setIdleSleepS tag value => exact request_keepsDrive _ tag (serveSetKnown_keepsDrive _ _ value) s
  | setReserve tag value => exact request_keepsDrive _ tag (serveSetKnown_keepsDrive _ _ value) s
  | noticeMask tag enables => exact request_keepsDrive _ tag (serveNoticeMask_keepsDrive enables) s
  | reset tag => exact event_keepsDrive (resetRequest_keepsDrive tag) s
  | sleep tag => exact request_keepsDrive _ tag serveSleep_keepsDrive s
  | ship tag => exact request_keepsDrive _ tag serveShip_keepsDrive s
  | runStart tag => exact request_keepsDrive _ tag serveRunStart_keepsDrive s
  | runStop tag => exact request_keepsDrive _ tag serveRunStop_keepsDrive s
  | stepSelect tag st => exact request_keepsDrive _ tag (serveStepSelect_keepsDrive st) s
  | editBegin tag label => exact request_keepsDrive _ tag (serveEditBegin_keepsDrive label) s
  | editSet tag field value => exact request_keepsDrive _ tag (serveEditSet_keepsDrive field value) s
  | editCommit tag => exact request_keepsDrive _ tag serveEditCommit_keepsDrive s
  | editAbort tag => exact request_keepsDrive _ tag serveEditAbort_keepsDrive s
  | profileRead tag => exact request_keepsDrive _ tag (servesDrive_reading fun _ => rfl) s
  | tripClear tag => exact request_keepsDrive _ tag serveTripClear_keepsDrive s
  | faultRead tag clearCounts => exact request_keepsDrive _ tag (serveFaultRead_keepsDrive clearCounts) s
  | bandMode tag mode => exact request_keepsDrive _ tag (serveBandMode_keepsDrive mode) s
  | bandClear tag => exact request_keepsDrive _ tag serveBandClear_keepsDrive s
  | bandRead tag index => exact request_keepsDrive _ tag (serveBandRead_keepsDrive index) s
  | bandWrite tag index advance loadRef flags =>
    exact request_keepsDrive _ tag (serveBandWrite_keepsDrive index advance loadRef flags) s
  | dirtRead tag => exact request_keepsDrive _ tag (servesDrive_reading fun _ => rfl) s
  | cellRead tag => exact request_keepsDrive _ tag (servesDrive_reading fun _ => rfl) s
  | cellResetMinmax tag => exact request_keepsDrive _ tag serveCellResetMinmax_keepsDrive s
  | gaugeRead tag => exact request_keepsDrive _ tag (servesDrive_reading fun _ => rfl) s
  | gaugeAdjust tag delta => exact request_keepsDrive _ tag (serveGaugeAdjust_keepsDrive delta) s
  | chargeEnable tag => exact request_keepsDrive _ tag serveChargeEnable_keepsDrive s
  | chargeDisable tag => exact request_keepsDrive _ tag serveChargeDisable_keepsDrive s
  | chargePause tag => exact request_keepsDrive _ tag serveChargePause_keepsDrive s
  | chargeResume tag => exact request_keepsDrive _ tag serveChargeResume_keepsDrive s
  | chargeClear tag => exact request_keepsDrive _ tag serveChargeClear_keepsDrive s
  | chargeRead tag => exact request_keepsDrive _ tag (servesDrive_reading fun _ => rfl) s
  | dockRead tag => exact request_keepsDrive _ tag (servesDrive_reading fun _ => rfl) s
  | counterSetup tag k source threshold options start =>
    exact request_keepsDrive _ tag (serveCounterSetup_keepsDrive k source threshold options start) s
  | counterRead tag => exact request_keepsDrive _ tag (servesDrive_reading fun _ => rfl) s
  | counterAdjust tag k delta => exact request_keepsDrive _ tag (serveCounterAdjust_keepsDrive k delta) s
  | hostFrameReceived kind tag payload => exact execHostFrameReceived_keepsDrive kind tag payload s
  | hostFrameDiscard reason => exact ⟨_, rfl, onHostFrame_keepsDrive (discardFrame_keepsDrive reason) s⟩
  | hostFrameGap =>
    exact event_keepsDrive (fun t => (beginTransmission_keepsDrive t).trans
      ((discardFrame_keepsDrive .gap _).trans (idleZero_keepsDrive _))) s
  | linkWake byte stopBit => exact execLinkWake_keepsDrive byte stopBit s
  | transmitEnd => exact execTransmitEnd_keepsDrive s
  | triggerDebounce => exact event_keepsDrive debounced_keepsDrive s
  | editTimeout => exact event_keepsDrive (fun _ => .ite _ fun _ => .of_frame (by simp)) s
  | precheckEnd => exact event_keepsDrive precheckEnd_keepsDrive s
  | alignEnd => exact event_keepsDrive (fun _ => .ite _ fun _ => motorTo_keepsDrive ..) s
  | rampTick => exact event_keepsDrive (fun _ => .ite _ fun ramp => rampTicked_keepsDrive _ ramp) s
  | rampAccelTick => exact event_keepsDrive (fun _ => .ite _ fun _ => rampAccelerated_keepsDrive _) s
  | rampTimeout => exact event_keepsDrive (fun _ => .ite _ fun _ => (startFail_keepsDrive ..).refreshed) s
  | restartWaitEnd => exact event_keepsDrive (fun _ => .ite _ fun _ => motorTo_keepsDrive ..) s
  | bemfCrossing phase rising t d => exact event_keepsDrive (crossing_keepsDrive phase rising t d) s
  | commutation im => exact event_keepsDrive (scheduledCommutation_keepsDrive im) s
  | windowClose im => exact event_keepsDrive (windowClosed_keepsDrive im) s
  | catchLimitExpiry => exact event_keepsDrive (fun _ => .ite _ fun _ => motorTo_keepsDrive ..) s
  | rotorStopTimeout => exact event_keepsDrive rotorStopped_keepsDrive s
  | coastTimeout => exact event_keepsDrive (fun _ => .ite _ fun _ => coastEnd_keepsDrive ..) s
  | ocHw => exact event_keepsDrive overcurrent_keepsDrive s
  | bandClearComplete => exact event_keepsDrive (fun _ => .ite _ fun _ => .of_frame (by simp)) s
  | blockTimerExpiry => exact event_keepsDrive expireBlock_keepsDrive s
  | retryTimerExpiry => exact event_keepsDrive (fun _ => .of_frame (by simp)) s
  | clearTimerExpiry => exact event_keepsDrive (fun _ => .ite _ fun _ => .of_frame (by simp)) s
  | noReferenceTimerExpiry => exact event_keepsDrive (fun _ => .ite _ fun _ => .of_frame (by simp)) s
  | normalTimerExpiry => exact event_keepsDrive (fun _ => .ite _ fun _ => .of_frame (by simp)) s
  | dirtWindowEnd amplitude level signal => exact execDirtWindowEnd_keepsDrive amplitude level signal s
  | scanStart => exact event_keepsDrive (fun _ => .of_frame (by simp)) s
  | scanEnd reading => exact event_keepsDrive (scanEnd_keepsDrive reading) s
  | prechargeTimeout => exact event_keepsDrive (fun _ => .of_frame (by simp)) s
  | chargeTimeout => exact event_keepsDrive (fun _ => .of_frame (by simp)) s
  | balanceTimeout => exact event_keepsDrive (fun _ => .of_frame (by simp)) s
  | dockContactRise => exact execDockContactRise_keepsDrive s
  | dockLoss => exact execDockLoss_keepsDrive s
  | settleTimerExpiry => exact event_keepsDrive (fun _ => .ite _ fun _ => .of_frame (by simp)) s
  | dockFrameSent => exact event_keepsDrive (fun _ => .of_frame (by simp)) s
  | dockFrameReceived bytes => exact event_keepsDrive (fun _ => .ite _ fun _ => .of_frame (by simp)) s
  | dockFrameAbandon => exact event_keepsDrive (fun _ => .ite _ fun _ => abandonReception_keepsDrive _) s
  | dockReplyTimeout => exact event_keepsDrive replyTimeout_keepsDrive s
  | keepTimerExpiry => exact event_keepsDrive (fun _ => .ite _ fun _ => .of_frame (by simp)) s
  | dockRetryExpiry => exact event_keepsDrive (fun _ => .ite _ fun _ => .of_frame (by simp)) s
  | idleTimerExpiry => exact event_keepsDrive (fun _ => .ite _ fun _ => enterSleep_keepsDrive _) s
  | powerOn => exact ⟨_, rfl, powerReset_keepsDrive .powerOn s⟩
  | brownout => exact execBrownout_keepsDrive s
  | shipWake => exact execShipWake_keepsDrive s
  | triggerRawChange l => exact execTriggerRawChange_keepsDrive l s
  | contactVoltageFall => exact execContactVoltageFall_keepsDrive s
  | dockReceptionBegin => exact event_keepsDrive (fun _ => .ite _ fun _ => receptionBegun_keepsDrive _) s
  | seventhCellMeasured => exact execSeventhCellMeasured_keepsDrive s
  | catchCrossingTimeout => exact event_keepsDrive (fun t => .ite _ fun _ => catchRestarted_keepsDrive t) s

/-- Every step keeps the drive sound (log 2, 7). -/
theorem step_keepsDrive (s : State) : Yields (step s) (KeepsDrive s) := by
  unfold step
  split
  · exact ⟨_, rfl, tick_keepsDrive s⟩
  · next c rest _ =>
    have taken : KeepsDrive s (s.setPending rest) := .of_frame ⟨rfl, rfl, rfl, rfl⟩
    obtain ⟨t, answer, kept⟩ := exec_keepsDrive c (s.setPending rest)
    exact ⟨t, answer, taken.trans kept⟩

/-- Settles O51: what a step keeps of the regulator and the bridge (R49 to R56, 2.1). -/
theorem driveKept : Obligations.DriveKept := by
  intro s regulator gates
  obtain ⟨t, answer, kept⟩ := step_keepsDrive s
  exact ⟨t, answer, kept.sound ⟨regulator, gates⟩⟩

end Sys2Proof.Proofs

namespace Sys2Proof.Proofs

open Sys2Proof.Machine Sys2Proof.Safety

/-! ### A trip cleared (R129, R172) -/

@[simp] theorem clearTrip_onLine (way : ClearWay) (l : Mpt) (s : State) :
    clearTrip way (onLine l s) = onLine l (clearTrip way s) := by simp [clearTrip]

@[simp] theorem releaseCutoff_counters (s : State) : (releaseCutoff s).icn.counters = s.icn.counters := by
  simp [releaseCutoff, changePackState, raisePackNotice]

@[simp] theorem handRelease_counters (r : ReleaseReason) (s : State) :
    (handRelease r s).icn.counters = s.icn.counters := by
  unfold handRelease
  dsimp only
  repeat' split
  all_goals simp [raiseDockNotice]

@[simp] theorem changeCharge_counters (new : ChargeState) (cause : ChargeCause) (set : SuspendSet) (s : State) :
    (changeCharge new cause set s).icn.counters = s.icn.counters := by
  unfold changeCharge
  dsimp only
  repeat' split
  all_goals simp [raiseChargeNotice]

@[simp] theorem raiseChargeStop_counters (k : FaultKind) (d : Detail) (s : State) :
    (raiseChargeStop k d s).icn.counters = s.icn.counters := by
  unfold raiseChargeStop enterChargeFault
  split
  · exact noteRaise_counters k d s
  · simp [noteRaise_counters]

/-- No judgement of CHC is counted (R159). -/
@[simp] theorem judgeQualify_counters (s : State) : (judgeQualify s).icn.counters = s.icn.counters := by
  unfold judgeQualify enterSuspend
  repeat' split
  all_goals simp

/-- The answer to a request and the idle timer leave every other block alone. -/
@[simp] theorem replied_frame (kind tag : Byte) (status : StatusCode) (body : ReplyBody) (u : State) :
    let t := replied kind tag status body u
    t.trg = u.trg ∧ t.drs = u.drs ∧ t.mdr = u.mdr ∧ t.srg = u.srg ∧ t.sbt = u.sbt ∧ t.blm = u.blm ∧ t.dse = u.dse ∧
      t.pkm = u.pkm ∧ t.gge = u.gge ∧ t.chc = u.chc ∧ t.dlk = u.dlk ∧ t.icn = u.icn ∧ t.fmg = u.fmg ∧
      t.mpt.replies = u.mpt.replies ++ [replyTo kind tag status body] ∧ t.motorPar = u.motorPar ∧
      t.blockPar = u.blockPar ∧ t.packPar = u.packPar ∧ t.chargePar = u.chargePar ∧ t.dirtPar = u.dirtPar ∧
      t.idleSleepS = u.idleSleepS ∧ t.pending = u.pending := by
  simp [replied, idled, repliedMpt]

/-- With the motor tripped there is no Blockage Monitor and no dirt window for the entry to OFF to stop, and it counts
nothing (R23, R74, R77). -/
theorem clearTrip_quiet {s : State} (tripped : s.mdr.state = .tripped) (way : ClearWay) :
    (clearTrip way s).blm = s.blm ∧ (clearTrip way s).dse = s.dse ∧
      (clearTrip way s).icn.counters = s.icn.counters := by
  have blm := deliverBlm_outside (old := s.mdr.state) (new := .off) (by simp [tripped]) (by simp)
  have dse := deliverDse_outside (old := s.mdr.state) (new := .off) (by simp [tripped]) (by simp)
  simp [clearTrip, motorTo, blm, dse, deliverIcn, deliverDrs_of_ne, deliverSrg]

/-- Outside QUALIFY the motor at rest brings no judgement, and the record alone goes from the Fault Manager (R129,
R172). -/
theorem clearTrip_elsewhere {s : State} (charge : s.chc.state ≠ .qualify) (way : ClearWay) :
    (clearTrip way s).chc = s.chc ∧ (clearTrip way s).dlk = s.dlk ∧
      (clearTrip way s).fmg = { s.fmg with trip := none } := by
  simp only [clearTrip, motorTo, raise_frame, State.setTrg_chc, State.setTrg_dlk, State.setTrg_fmg, deliverSlc_frame,
    deliverIcn_frame]
  rw [judgeQualify_elsewhere (by simpa using charge)]
  simp

/-- A CHC in QUALIFY is judged with the motor at rest, as it would be in TRIPPED (R129). -/
theorem clearTrip_judges {s : State} (tripped : s.mdr.state = .tripped) (way : ClearWay)
    (qualify : s.chc.state = .qualify) : (clearTrip way s).chc = judgedIn s s.chc := by
  obtain ⟨-, -, -, judged, -⟩ := motorTo_off_judges (s := s.setFmg { s.fmg with trip := none }) qualify .tripClear
  have parked : motorParked s.mdr.state = true := by simp [tripped, motorParked]
  simp [clearTrip, judged, judgedIn, parked]

/-- The refusals and the answer of TRIP_CLEAR read nothing a request taken moves (R172). -/
theorem tripHot_received (kind tag : Byte) (s : State) :
    inverterHot (received kind tag (beginTransmission s)) = inverterHot s ∧
      packHot (received kind tag (beginTransmission s)) = packHot s := by
  simp [inverterHot, packHot]

/-- A trip that nothing keeps is cleared, and with no claim run demand stays false (R172). -/
theorem tripClear_clears {tag : Byte} {s : State} (h : Accepts s) (tripped : s.mdr.state = .tripped)
    (inverter : inverterHot s = false) (pack : packHot s = false) (trigger : s.drs.triggerClaim = false)
    (host : s.drs.hostClaim = false) (demand : s.drs.record.runDemand = false) :
    onRequest 0x18#8 tag serveTripClear s =
      replied 0x18#8 tag .ok (.trip s.fmg.trip) (clearTrip .host (beginTransmission s)) := by
  have hot := tripHot_received 0x18#8 tag s
  refine onRequest_of_offline (op := clearTrip .host) h (fun _ _ => by simp) (by simp [clearTrip, motorTo_slc_eq]) ?_
  have kept := demandRefresh_clearTrip (s := received 0x18#8 tag (beginTransmission s)) (by simpa using trigger)
    (by simpa using host) (by simpa using demand) .host
  simp [serveTripClear, hot, tripped, inverter, pack, kept]

/-- Settles O15: TRIP_CLEAR refused, or the trip cleared; and FAULT_READ by its argument. -/
theorem tripRequests : Obligations.TripRequests := by
  intro tag clear s
  refine ⟨fun h => ⟨fun elsewhere => ?_, fun tripped inverter => ?_, fun tripped inverter pack => ?_,
    fun tripped inverter pack trigger host demand => ?_⟩, fun h => ⟨fun bad => ?_, fun read => ?_, fun cleared => ?_⟩⟩
  · refine congrArg Host.Outcome.next (onRequest_of_answer h ?_)
    simp [serveTripClear, elsewhere]
  · refine congrArg Host.Outcome.next (onRequest_of_answer h ?_)
    simp [serveTripClear, tripped, (tripHot_received ..).1, inverter]
  · refine congrArg Host.Outcome.next (onRequest_of_answer h ?_)
    simp [serveTripClear, tripped, tripHot_received, inverter, pack]
  · refine ⟨_, congrArg Host.Outcome.next (tripClear_clears h tripped inverter pack trigger host demand), ?_⟩
    obtain ⟨mdr, trip, srg, -, trg⟩ := clearTrip_clears .host (beginTransmission s)
    have motor : (beginTransmission s).mdr.state = .tripped := by simpa using tripped
    obtain ⟨blm, dse, counters⟩ := clearTrip_quiet motor .host
    refine ⟨by simpa using mdr, by simpa using trip, ?_, fun charge => ?_, fun sound => ?_, by simpa using trg,
      by simpa using srg, by simp, by simpa using blm, by simpa using dse, ?_, by simp [ParamsKept], ?_⟩
    · split
      · next qualify => simpa [judgedIn] using clearTrip_judges motor .host (by simpa using qualify)
      · next charge => simpa using (clearTrip_elsewhere (s := beginTransmission s) (by simpa using charge) .host).1
    · obtain ⟨-, dlk, fmg⟩ := clearTrip_elsewhere (s := beginTransmission s) (by simpa using charge) .host
      have drs := clearTrip_drs motor .host (.inl (by simpa using charge))
      simp [dlk, fmg, drs]
    · have idle : s.drs.record = DemandRecord.idle := by simpa [RecordSound, demand] using sound
      simpa using clearTrip_drs motor .host (.inr (by simpa using idle))
    · obtain ⟨-, replies, -⟩ := Offline.port (op := clearTrip .host) (fun _ _ => by simp) (beginTransmission s)
      simp [replies]
    · simp [RestKept, counters]
  · refine congrArg Host.Outcome.next (onRequest_of_answer h ?_)
    simp [serveFaultRead, bad, refuse]
  · refine congrArg Host.Outcome.next (onRequest_of_answer h ?_)
    simp [serveFaultRead, read]
  · refine congrArg Host.Outcome.next (onRequest_of_offline
      (op := fun w => w.setFmg { s.fmg with table := s.fmg.table.map fun e => { e with count := 0 } }) h
      (fun _ _ => rfl) (by simp) ?_)
    simp [serveFaultRead, cleared]

end Sys2Proof.Proofs

namespace Sys2Proof.Proofs

open Sys2Proof.Machine Sys2Proof.Safety

/-! ### The requests of the band table (R62, R69, R70) -/

/-- A write of the band table that is answered: the table alone is written, whatever stands on the host line. -/
theorem onRequest_of_tableWrite {kind tag : Byte} {serve : State → Served} {s : State} {status : StatusCode}
    {body : ReplyBody} {b : Sbt} (h : Accepts s)
    (served : ∀ w : State, w.sbt = s.sbt → serve w = answered status body (w.setSbt b)) :
    onRequest kind tag serve s = replied kind tag status body ((beginTransmission s).setSbt b) :=
  onRequest_of_offline (op := fun w => w.setSbt b) h (fun _ _ => rfl) (by simp) (served _ (by simp))

/-- A request of the band table that is answered and writes nothing. -/
theorem onRequest_of_tableRead {kind tag : Byte} {serve : State → Served} {s : State} {status : StatusCode}
    {body : ReplyBody} (h : Accepts s) (served : ∀ w : State, w.sbt = s.sbt → serve w = answered status body w) :
    onRequest kind tag serve s = replied kind tag status body (beginTransmission s) :=
  onRequest_of_answer h (served _ (by simp))

/-- No flag of an entry is written valid exactly where the flags byte is 0 (R70). -/
theorem writesValid_iff {flags : Byte} (h : flags.toNat ≤ 3) :
    (flags.getLsbD 0 || flags.getLsbD 1) = true ↔ flags ≠ 0#8 := by
  have small : flags = BitVec.ofNat 8 flags.toNat := by simp
  generalize flags.toNat = n at h small
  subst small
  interval_cases n <;> decide

/-- BAND_WRITE in range, with no clear in progress: the entry written with its values clamped (R70). -/
theorem serveBandWrite_writes {index advance flags : Byte} {load : BitVec 16} (inside : index.toNat ≤ 15)
    (known : flags.toNat ≤ 3) {w : State} (idle : w.sbt.clearTimer = none) :
    serveBandWrite index advance load flags w =
      answered (if advance.toNat ≤ 60 ∧ load.toNat ≤ 40000 then .ok else .clamped)
        (.bandWritten (min 60 advance.toNat) (min 40000 load.toNat))
        (w.setSbt (putBand w.sbt index.toNat
          { advance := min 60 advance.toNat, advValid := flags.getLsbD 0, loadRef := some (min 40000 load.toNat)
            loadValid := flags.getLsbD 1
            samples := if flags = 0#8 then (bandAt w.sbt index.toNat).samples else 32, steps := 0 })) := by
  have inRange : (decide (min 60 advance.toNat = advance.toNat) && decide (min 40000 load.toNat = load.toNat)) = true ↔
      advance.toNat ≤ 60 ∧ load.toNat ≤ 40000 := by simp
  have samples (n : Nat) : (if (flags.getLsbD 0 || flags.getLsbD 1) = true then 32 else n) =
      if flags = 0#8 then n else 32 := by
    simp only [writesValid_iff known, ne_eq, ite_not]
  unfold serveBandWrite
  rw [if_neg (by omega), if_neg (by omega), if_neg (by simp [idle])]
  simp only [inRange, writtenBand, samples]

/-- Settles O16: each request of the table on the clear it finds, in progress or not. -/
theorem bandRequests : Obligations.BandRequests := by
  intro tag code index advance flags load m s h u a l
  refine ⟨fun mode => ?_, fun idle => ?_, fun clears => ?_, fun inside idle => ?_, fun inside clears => ?_,
    fun inside known idle => ?_⟩
  · refine congrArg Host.Outcome.next (onRequest_of_tableWrite h fun w same => ?_)
    simp [serveBandMode, mode, same]
  · refine congrArg Host.Outcome.next (onRequest_of_tableWrite h fun w same => ?_)
    simp [serveBandClear, idle, same]
  · refine congrArg Host.Outcome.next (onRequest_of_tableRead h fun w same => ?_)
    simp [serveBandClear, refuse, clears, same]
  · refine congrArg Host.Outcome.next (onRequest_of_tableRead h fun w same => ?_)
    simp [serveBandRead, Nat.not_lt.2 inside, idle, same]
  · refine congrArg Host.Outcome.next (onRequest_of_tableRead h fun w same => ?_)
    simp [serveBandRead, refuse, Nat.not_lt.2 inside, clears, same]
  · refine congrArg Host.Outcome.next (onRequest_of_tableWrite h fun w same => ?_)
    rw [serveBandWrite_writes inside known (by rw [same, idle]), same]

end Sys2Proof.Proofs

namespace Sys2Proof.Proofs

open Sys2Proof.Machine Sys2Proof.Safety

/-! ### The Blockage Monitor by the motor's state (R71 to R74) -/

/-- What O53 asks of the Blockage Monitor with the motor in a state. -/
def BlmSound (m : MotorState) (b : Blm) : Prop :=
  (m ≠ .run → b.state = .normal ∧ b.retries = 0 ∧ b.normalTimer = none) ∧ b.retries ≤ 7 ∧
    (b.retryTimer.isSome = true ↔ b.state = .blocked) ∧ (b.state = .suspect → b.blockTimer.isSome = true) ∧
    (b.blockTimer.isSome = true → b.state = .suspect ∨ b.state = .retrying)

/-- The monitor stands in another state than NORMAL in RUN alone (R74). -/
theorem BlmSound.run_of_state {m : MotorState} {b : Blm} (h : BlmSound m b) (k : b.state ≠ .normal) : m = .run := by
  by_contra outside
  exact k (h.1 outside).1

/-- Outside RUN one motor state is as good as another. -/
theorem BlmSound.outside {m n : MotorState} {b : Blm} (h : BlmSound m b) (k : m ≠ .run) : BlmSound n b :=
  ⟨fun _ => h.1 k, h.2⟩

/-- The entry to RUN starts the normal timer (R74). -/
theorem BlmSound.entered {m : MotorState} {b : Blm} (h : BlmSound m b) :
    BlmSound .run { b with normalTimer := some 0 } := ⟨fun k => absurd rfl k, h.2⟩

/-- The monitor stopped is sound whatever the motor does (R74). -/
theorem blmSound_stopped (m : MotorState) (b : Blm) : BlmSound m (stoppedBlm b) := by simp [BlmSound, stoppedBlm]

/-- Back in NORMAL the monitor runs no timer but the normal timer (R71, R73). -/
theorem BlmSound.returned {b : Blm} (h : BlmSound .run b) : BlmSound .run (returnedNormal b) := by
  obtain ⟨-, retries, -⟩ := h
  simpa [BlmSound, returnedNormal] using retries

/-- BLOCKED runs the retry timer alone, and holds the retry count at 7 (R72). -/
theorem blmSound_blocked (b : Blm) : BlmSound .run (blockedBlm b) := by
  simp [BlmSound, blockedBlm]

/-- RETRYING runs the block timer or not, as the sample says (R73). -/
theorem BlmSound.retrying {b c : Blm} (h : BlmSound .run b) (state : b.state = .retrying)
    (same : c.state = b.state ∧ c.retries = b.retries ∧ c.retryTimer = b.retryTimer) : BlmSound .run c := by
  obtain ⟨-, retries, retry, -, -⟩ := h
  obtain ⟨sameState, sameRetries, sameRetry⟩ := same
  simp_all [BlmSound]

/-- A judgement in RETRYING moves timers and the last hit alone (R73). -/
theorem judgeRetrying_same (hit : Option BlockageHit) (reference : Option Nat) (b : Blm) :
    (judgeRetrying hit reference b).state = b.state ∧ (judgeRetrying hit reference b).retries = b.retries ∧
      (judgeRetrying hit reference b).retryTimer = b.retryTimer := by
  unfold judgeRetrying
  split <;> exact ⟨rfl, rfl, rfl⟩

/-- A sample of a running motor leaves the monitor sound, whatever it finds there (R71 to R73). -/
theorem BlmSound.sampled {b : Blm} (h : BlmSound .run b) (x : Sample) (reference : Option Nat) (ratio sReq : Nat) :
    BlmSound .run (sampledBlm x reference ratio sReq b) := by
  unfold sampledBlm
  split
  · next normal =>
    split
    · obtain ⟨-, retries, retry, -, -⟩ := h
      simp_all [BlmSound]
    · exact h
  · split
    · exact h
    · exact h.returned
  · exact h
  · next retrying =>
    split
    · exact h
    · exact h.retrying retrying (judgeRetrying_same ..)

/-- A ms moves no timer of the monitor between running and stopped (R71 to R74). -/
theorem BlmSound.ticked {m : MotorState} {b : Blm} (h : BlmSound m b) : BlmSound m (tickBlm b) := by
  simpa [BlmSound, tickBlm, tickTimer] using h

/-! ### The dirt windows by the motor's state (R76, R77) -/

/-- What O53 asks of the Dirt Sensing Engine with the motor in a state. -/
def DseSound (m : MotorState) (d : Dse) : Prop :=
  (d.window.isSome = true ↔ m = .run) ∧ (m ≠ .run → d.d = 0 ∧ d.db = 0 ∧ d.level = .clean ∧ d.index = .idle)

/-- In RUN nothing is asked but an open window. -/
theorem dseSound_run {d : Dse} (h : d.window.isSome = true) : DseSound .run d := ⟨by simp [h], fun k => absurd rfl k⟩

/-- The engine stopped is sound outside RUN (R77). -/
theorem dseSound_stopped {m : MotorState} (h : m ≠ .run) (d : Dse) : DseSound m (stoppedDse d) := by
  simp [DseSound, stoppedDse, h]

/-- Outside RUN one motor state is as good as another. -/
theorem DseSound.outside {m n : MotorState} {d : Dse} (h : DseSound m d) (left : m ≠ .run) (entered : n ≠ .run) :
    DseSound n d := by
  obtain ⟨window, rest⟩ := h
  exact ⟨by simpa [left, entered] using window, fun _ => rest left⟩

/-- The channels may move as they will: what is asked is of the window, the indices and the level. -/
theorem DseSound.of_same {m : MotorState} {d e : Dse} (h : DseSound m d)
    (same : e.window.isSome = d.window.isSome ∧ e.d = d.d ∧ e.db = d.db ∧ e.level = d.level ∧ e.index = d.index) :
    DseSound m e := by
  obtain ⟨window, dirt, boost, level, index⟩ := same
  simpa only [DseSound, window, dirt, boost, level, index] using h

/-! ### A part of a step -/

/-- The monitor and the engine are sound for the motor's state. -/
def RunSideSound (s : State) : Prop := BlmSound s.mdr.state s.blm ∧ DseSound s.mdr.state s.dse

theorem runSideSound_iff (s : State) : RunSideSound s ↔ BlockageSound s ∧ DirtSound s := Iff.rfl

/-- What O53 asks of a part of a step: a sound run side stays sound. -/
structure KeepsRunSide (s t : State) : Prop where
  sound : RunSideSound s → RunSideSound t

theorem KeepsRunSide.refl (s : State) : KeepsRunSide s s := ⟨id⟩

theorem KeepsRunSide.trans {s t u : State} (h : KeepsRunSide s t) (k : KeepsRunSide t u) : KeepsRunSide s u :=
  ⟨k.sound ∘ h.sound⟩

/-- A part of a step under which the motor's state stands, by what it makes of the two blocks. -/
theorem KeepsRunSide.of_blocks {s t : State} (motor : t.mdr.state = s.mdr.state)
    (blm : BlmSound s.mdr.state s.blm → BlmSound s.mdr.state t.blm)
    (dse : DseSound s.mdr.state s.dse → DseSound s.mdr.state t.dse) : KeepsRunSide s t := by
  refine ⟨fun ⟨monitor, engine⟩ => ?_⟩
  rw [RunSideSound, motor]
  exact ⟨blm monitor, dse engine⟩

/-- A part of a step that leaves the motor's state, the monitor and the engine alone. -/
theorem KeepsRunSide.of_frame {s t : State} (h : t.mdr.state = s.mdr.state ∧ t.blm = s.blm ∧ t.dse = s.dse) :
    KeepsRunSide s t := by
  obtain ⟨motor, blm, dse⟩ := h
  exact .of_blocks motor (fun k => blm ▸ k) (fun k => dse ▸ k)

/-- A part of a step that moves the monitor alone. -/
theorem KeepsRunSide.of_blm {s t : State} (h : t.mdr.state = s.mdr.state ∧ t.dse = s.dse)
    (blm : BlmSound s.mdr.state s.blm → BlmSound s.mdr.state t.blm) : KeepsRunSide s t := by
  obtain ⟨motor, dse⟩ := h
  exact .of_blocks motor blm (fun k => dse ▸ k)

/-- A part of a step that moves the engine alone. -/
theorem KeepsRunSide.of_dse {s t : State} (h : t.mdr.state = s.mdr.state ∧ t.blm = s.blm)
    (dse : DseSound s.mdr.state s.dse → DseSound s.mdr.state t.dse) : KeepsRunSide s t := by
  obtain ⟨motor, blm⟩ := h
  exact .of_blocks motor (fun k => blm ▸ k) dse

/-- A part of a step followed by one that leaves the motor's state, the monitor and the engine alone. -/
theorem KeepsRunSide.framed {s t u : State} (h : KeepsRunSide s t)
    (k : u.mdr.state = t.mdr.state ∧ u.blm = t.blm ∧ u.dse = t.dse) : KeepsRunSide s u := h.trans (.of_frame k)

/-- A part of a step that acts where its moment has come, and is void otherwise. -/
theorem KeepsRunSide.ite {s t : State} (c : Prop) [Decidable c] (h : c → KeepsRunSide s t) :
    KeepsRunSide s (if c then t else s) := by
  split
  · next k => exact h k
  · exact .refl s

/-- The values of a reset are a sound run side, whatever stood before it (R187). -/
theorem KeepsRunSide.of_reset {s t : State} (mdr : t.mdr = Mdr.reset) (blm : t.blm = Blm.reset)
    (dse : t.dse = Dse.reset) : KeepsRunSide s t := by
  refine ⟨fun _ => ?_⟩
  rw [RunSideSound, mdr, blm, dse]
  simp [BlmSound, DseSound, Mdr.reset, Blm.reset, Dse.reset]

/-! ### A change of motor state (R23, R74, R76, R77) -/

/-- The monitor after a change of motor state: the normal timer at the entry to RUN, stopped at the leaving of it. -/
theorem motorTo_blm (new : MotorState) (cause : MotorCause) (pend : Bool) (s : State) :
    (motorTo new cause pend s).blm = if new = .run then { s.blm with normalTimer := some 0 }
      else if s.mdr.state = .run then stoppedBlm s.blm else s.blm := by
  simp only [motorTo, deliverSlc_frame, deliverIcn_frame, judgeQualify_frame, deliverPkm_frame, deliverDse_frame]
  unfold deliverBlm
  repeat' split
  · simp [blockageEnterRun]
  · simp [blockageLeaveRun_blm]
  · simp

theorem dirtLeaveRun_dse (s : State) : (dirtLeaveRun s).dse = stoppedDse s.dse := by
  unfold dirtLeaveRun
  dsimp only
  repeat' split
  all_goals simp

/-- The engine after a change to another motor state than RUN: stopped at the leaving of RUN. -/
theorem motorTo_dse {new : MotorState} (h : new ≠ .run) (cause : MotorCause) (pend : Bool) (s : State) :
    (motorTo new cause pend s).dse = if s.mdr.state = .run then stoppedDse s.dse else s.dse := by
  simp only [motorTo, deliverSlc_frame, deliverIcn_frame, judgeQualify_frame, deliverPkm_frame]
  unfold deliverDse
  rw [if_neg h]
  split
  · simp [dirtLeaveRun_dse]
  · simp

theorem motorTo_run_window (cause : MotorCause) (pend : Bool) (s : State) :
    (motorTo .run cause pend s).dse.window.isSome = true := by
  simp only [motorTo, deliverSlc_frame, deliverIcn_frame, judgeQualify_frame, deliverPkm_frame]
  simp [deliverDse, dirtEnterRun, beginWindow]

theorem motorTo_keepsRunSide (new : MotorState) (cause : MotorCause) (pend : Bool) (s : State) :
    KeepsRunSide s (motorTo new cause pend s) := by
  refine ⟨fun ⟨monitor, engine⟩ => ?_⟩
  rw [RunSideSound, motorTo_mdr, (enteredMdr_state ..).1, motorTo_blm]
  by_cases enters : new = .run
  · subst enters
    rw [if_pos rfl]
    exact ⟨monitor.entered, dseSound_run (motorTo_run_window ..)⟩
  · rw [if_neg enters, motorTo_dse enters]
    split
    · exact ⟨blmSound_stopped .., dseSound_stopped enters _⟩
    · next outside => exact ⟨monitor.outside outside, engine.outside outside enters⟩

end Sys2Proof.Proofs

namespace Sys2Proof.Proofs

open Sys2Proof.Machine Sys2Proof.Safety

/-- A part of a step that ends in a change of motor state. -/
theorem KeepsRunSide.motor {s t : State} (h : KeepsRunSide s t) (new : MotorState) (cause : MotorCause) (pend : Bool) :
    KeepsRunSide s (motorTo new cause pend t) := h.trans (motorTo_keepsRunSide ..)

theorem demandRefresh_keepsRunSide (s : State) : KeepsRunSide s (demandRefresh s) := by
  have evaluated (b : Bool) : KeepsRunSide s (evaluateAs b s) := .of_frame (by simp)
  unfold demandRefresh
  dsimp only
  split
  · exact .refl s
  · split
    · unfold demandRise
      repeat' split
      any_goals exact evaluated _
      all_goals exact (evaluated _).motor ..
    · unfold demandFall
      repeat' split
      · exact evaluated _
      · exact evaluated _
      · exact (evaluated _).framed ⟨rfl, rfl, rfl⟩
      · exact (evaluated _).motor ..

/-- A part of a step that ends in a recomputation of run demand. -/
theorem KeepsRunSide.refreshed {s t : State} (h : KeepsRunSide s t) : KeepsRunSide s (demandRefresh t) :=
  h.trans (demandRefresh_keepsRunSide t)

theorem forcedStop_keepsRunSide (s : State) : KeepsRunSide s (forcedStop s) :=
  KeepsRunSide.refreshed (.of_frame (by simp))

/-! ### Trips and starts (R29 to R40, R165 to R172) -/

theorem applyStop_keepsRunSide (k : FaultKind) (d : Detail) (s : State) : KeepsRunSide s (applyStop k d s) := by
  have filled : KeepsRunSide s (s.setFmg { s.fmg with trip := some (tripRecordOf k d s) }) := .of_frame ⟨rfl, rfl, rfl⟩
  unfold applyStop
  split
  · exact .refl s
  · exact (filled.motor .tripped .trip false).framed (by simp [trip])

/-- A part of a step that ends in a raise whose response is STOP. -/
theorem KeepsRunSide.raised {s t : State} (h : KeepsRunSide s t) (k : FaultKind) (d : Detail) :
    KeepsRunSide s (raiseStop k d t) :=
  (h.framed (by simp)).trans (applyStop_keepsRunSide k d (noteRaise k d t))

theorem startFail_keepsRunSide (cause : MotorCause) (s : State) : KeepsRunSide s (startFail cause s) := by
  have off : KeepsRunSide s (s.setMdr { gatesOff s.mdr with attempts := s.mdr.attempts + 1 }) :=
    .of_frame ⟨rfl, rfl, rfl⟩
  unfold startFail
  dsimp only
  split
  · exact off.motor ..
  · exact off.raised ..

theorem restartDecision_keepsRunSide (d : Detail) (s : State) : KeepsRunSide s (restartDecision d s) := by
  have aged (l : List Uptime) : KeepsRunSide s (s.setMdr { s.mdr with restarts := l }) := .of_frame ⟨rfl, rfl, rfl⟩
  unfold restartDecision
  dsimp only
  repeat' split
  · exact (aged _).trans (applyStop_keepsRunSide ..)
  · exact ((aged _).motor ..).motor ..
  · exact (aged _).motor ..

theorem raiseSyncLoss_keepsRunSide (s : State) : KeepsRunSide s (raiseSyncLoss s) := by
  have noted (d : Detail) : KeepsRunSide s (noteRaise .syncLoss d (s.setMdr { gatesOff s.mdr with misses := 0 })) :=
    .of_frame (by simp [gatesOff])
  unfold raiseSyncLoss
  dsimp only
  split
  · exact (noted _).trans (applyStop_keepsRunSide ..)
  · exact (noted _).trans (restartDecision_keepsRunSide ..)

theorem precheckDecide_keepsRunSide (tInv : Int) (s : State) : KeepsRunSide s (precheckDecide tInv s) := by
  unfold precheckDecide
  repeat' split
  · exact (KeepsRunSide.refl s).raised ..
  all_goals exact motorTo_keepsRunSide ..

/-- A part of a step that ends in a crossing scheduled. -/
theorem KeepsRunSide.scheduled {s u : State} (h : KeepsRunSide s u) (t d : Nat) :
    KeepsRunSide s (scheduleCrossing t d u) := h.framed (by simp [scheduleCrossing])

theorem enterRun_keepsRunSide (s : State) : KeepsRunSide s (enterRun s) := by
  have entered := motorTo_keepsRunSide .run .inStep false s
  unfold enterRun
  generalize motorTo .run .inStep false s = u at entered ⊢
  exact entered.framed ⟨rfl, rfl, rfl⟩

theorem enterHandover_keepsRunSide (t d : Nat) (s : State) : KeepsRunSide s (enterHandover t d s) := by
  have entered := motorTo_keepsRunSide .handover .locked false s
  unfold enterHandover
  generalize motorTo .handover .locked false s = u at entered ⊢
  refine KeepsRunSide.scheduled ?_ t d
  exact entered.framed ⟨rfl, rfl, rfl⟩

theorem enterRunCaught_keepsRunSide (s : State) : KeepsRunSide s (enterRunCaught s) := by
  refine KeepsRunSide.scheduled (KeepsRunSide.trans ?_ (enterRun_keepsRunSide _)) _ _
  exact .of_frame ⟨rfl, rfl, rfl⟩

theorem coastEnd_keepsRunSide (cause : MotorCause) (s : State) : KeepsRunSide s (coastEnd cause s) := by
  rw [coastEnd_eq]
  exact motorTo_keepsRunSide ..

theorem clearTrip_keepsRunSide (way : ClearWay) (s : State) : KeepsRunSide s (clearTrip way s) := by
  have cleared : KeepsRunSide s (s.setFmg { s.fmg with trip := none }) := .of_frame ⟨rfl, rfl, rfl⟩
  exact (cleared.motor .off .tripClear false).framed (by simp [clearTrip])

/-! ### The timers of the Blockage Monitor (R71 to R75) -/

/-- BLOCKED is entered from SUSPECT or RETRYING, and so in RUN (R72). -/
theorem enterBlocked_keepsRunSide {s : State} (h : s.blm.state ≠ .normal) : KeepsRunSide s (enterBlocked s) := by
  obtain ⟨blm, mdr, -, -⟩ := enteredBlocked_kept s
  have entered : KeepsRunSide s (enteredBlocked s) := by
    refine .of_blm ⟨by rw [mdr], by simp [enteredBlocked]⟩ fun monitor => ?_
    rw [blm, monitor.run_of_state h]
    exact blmSound_blocked _
  rw [enterBlocked_eq]
  split
  · unfold raisePersist
    dsimp only
    split
    · exact entered.raised ..
    · exact entered.framed (by simp)
  · exact entered

theorem expireBlock_keepsRunSide (s : State) : KeepsRunSide s (expireBlock s) := by
  refine KeepsRunSide.ite _ fun due => (enterBlocked_keepsRunSide ?_).refreshed
  simp only [blockTimerRuns, Bool.and_eq_true, Bool.or_eq_true, decide_eq_true_eq] at due
  rcases due.1.2 with suspect | retrying
  · simp [suspect]
  · simp [retrying]

/-- RETRYING has no retry timer (R72, R73). -/
theorem expireRetry_keepsRunSide (s : State) : KeepsRunSide s (expireRetry s) := by
  rw [expireRetry_eq]
  refine KeepsRunSide.ite _ fun ⟨blocked, _⟩ => .of_blm (by simp) fun monitor => ?_
  have run := monitor.run_of_state (by simp [blocked])
  obtain ⟨-, retries, -, -, block⟩ := monitor
  simp_all [BlmSound]

theorem clearBlockage_keepsRunSide (r : BlockageReason) {s : State} (h : s.blm.state = .retrying) :
    KeepsRunSide s (clearBlockage r s) := by
  refine .of_blm (by simp) fun monitor => ?_
  have run := monitor.run_of_state (by simp [h])
  rw [clearBlockage_blm, run]
  exact (run ▸ monitor).returned

/-- The retries are forgotten after 10 s in NORMAL (R74). -/
theorem normalExpired_keepsRunSide (s : State) :
    KeepsRunSide s (s.setBlm { s.blm with retries := 0, normalTimer := none }) :=
  .of_blm ⟨rfl, rfl⟩ fun ⟨outside, _, timers⟩ => ⟨fun left => ⟨(outside left).1, rfl, rfl⟩, Nat.zero_le 7, timers⟩

/-! ### A revolution end and a window end (R46, R57, R64, R71 to R73, R79, R80) -/

/-- A sample is judged by the monitor and its speed joins the open window, with the motor in RUN. -/
theorem revolutionEnd_keepsRunSide (im : Int) {s : State} (run : s.mdr.state = .run) :
    KeepsRunSide s (revolutionEnd im s) := by
  have going : (turned im s).mdr.state = .run := run
  obtain ⟨-, blm, dse, -⟩ := deliverSample_blocks (turnedSample im s) (turned im s)
  rw [revolutionEnd_eq]
  refine .of_blocks (by simpa using going.trans run.symm) (fun monitor => ?_) fun engine => ?_
  · rw [blm, judgeSample_blm (by simpa using going), run]
    exact BlmSound.sampled (by simpa [turned, run] using monitor) ..
  · rw [dse, dirtSample_dse]
    exact engine.of_same (by simp [turned])

theorem commutate_keepsRunSide (period : Nat) (im : Int) (s : State) : KeepsRunSide s (commutate period im s) := by
  have moved : KeepsRunSide s (s.setMdr (commutated s.motorPar.blankFrac period s.mdr)) := .of_frame ⟨rfl, rfl, rfl⟩
  unfold commutate
  dsimp only
  repeat' split
  · next run _ => exact (moved.framed ⟨rfl, rfl, rfl⟩).trans (revolutionEnd_keepsRunSide im run)
  · exact moved.framed ⟨rfl, rfl, rfl⟩
  · exact moved

/-- A window ends where one is open, in RUN, and the next begins at once (R76). -/
theorem dirtWindowEnd_keepsRunSide {w : DirtWindow} {s : State} (h : s.dse.window = some w) (amplitude level : Nat)
    (signal : List Nat) : KeepsRunSide s (dirtWindowEnd w amplitude level signal s) := by
  refine .of_dse (by simp) fun engine => ?_
  rw [engine.1.1 (by simp [h])]
  exact dseSound_run (by simp [dirtWindowEnd, beginWindow])

/-! ### Dock, sleep and reset (chapters 9 and 13) -/

theorem dockArrival_keepsRunSide (s : State) : KeepsRunSide s (dockArrival s) := by
  have arrived : KeepsRunSide s (s.setDlk (arrivedDlk s.dlk)) := .of_frame ⟨rfl, rfl, rfl⟩
  exact (arrived.trans (forcedStop_keepsRunSide _)).framed (by simp [dockArrival])

theorem dockLoss_keepsRunSide (s : State) : KeepsRunSide s (dockLoss s) := KeepsRunSide.refreshed (.of_frame (by simp))

theorem enterSleep_keepsRunSide (s : State) : KeepsRunSide s (enterSleep s) := by
  have slept : KeepsRunSide s (s.setSlc { s.slc with power := .sleep, idle := 0, entry := .none }) :=
    .of_frame ⟨rfl, rfl, rfl⟩
  exact (slept.trans (forcedStop_keepsRunSide _)).framed (by simp [enterSleep])

theorem wakeIfAsleep_keepsRunSide (cause : WakeCause) (s : State) : KeepsRunSide s (wakeIfAsleep cause s) := by
  have begun (t : State) : KeepsRunSide t (beginTransmission t) := .of_frame (by simp)
  unfold wakeIfAsleep wake
  exact .ite _ fun _ => .trans (.refreshed (.of_frame (by simp))) (begun _)

theorem contactRisen_keepsRunSide (s : State) : KeepsRunSide s (contactRisen s) := by
  have risen : KeepsRunSide s (s.setDlk { s.dlk with contact := true, lossTimer := none }) := .of_frame ⟨rfl, rfl, rfl⟩
  exact risen.trans (.ite _ fun _ => (wakeIfAsleep_keepsRunSide ..).trans (dockArrival_keepsRunSide _))

theorem startAtOnce_keepsRunSide (s : State) : KeepsRunSide s (startAtOnce s) := by
  have seen : KeepsRunSide s (contactSeen s) := .ite _ fun _ => contactRisen_keepsRunSide s
  exact seen.framed (by simp [startAtOnce])

theorem powerReset_keepsRunSide (cause : ResetCause) (s : State) : KeepsRunSide s (powerReset cause s) :=
  (KeepsRunSide.of_reset (t := resetValues cause s) rfl rfl rfl).trans (startAtOnce_keepsRunSide _)

theorem resetRequest_keepsRunSide (tag : Byte) (s : State) : KeepsRunSide s (resetRequest tag s) := by
  have reset : KeepsRunSide s (hostReset s) := by
    refine KeepsRunSide.trans ?_ (startAtOnce_keepsRunSide _)
    exact .of_reset rfl rfl rfl
  exact reset.framed ⟨rfl, rfl, rfl⟩

theorem shipEntry_keepsRunSide (s : State) : KeepsRunSide s (shipEntry s) := by
  unfold shipEntry
  dsimp only
  split
  · exact KeepsRunSide.trans (.of_frame (by simp)) (powerReset_keepsRunSide .shipWake _)
  · exact .of_reset rfl rfl rfl

theorem makeEntry_keepsRunSide (s : State) : KeepsRunSide s (makeEntry s) := by
  unfold makeEntry
  split
  · exact .of_frame ⟨rfl, rfl, rfl⟩
  · exact enterSleep_keepsRunSide s
  · exact shipEntry_keepsRunSide s

/-! ### The scan's end (R100) -/

theorem protectCells_keepsRunSide (before : Pkm) (s : State) : KeepsRunSide s (protectCells before s).1 := by
  have cut (d : Detail) : KeepsRunSide s (noteRaise .cellUv d (s.setPkm { s.pkm with state := .cutoff })) :=
    .of_frame (by simp)
  have entered : KeepsRunSide s (enterCutoff s) :=
    ((cut (.cell (weakestUvCell s.pkm))).trans (forcedStop_keepsRunSide _)).framed (by simp [enterCutoff])
  have due : KeepsRunSide s (if cutoffDue s then enterCutoff s else s) := .ite _ fun _ => entered
  exact due.framed (by simp [protectCells])

theorem judgePackHot_keepsRunSide (s : State) : KeepsRunSide s (judgePackHot s) := by
  unfold judgePackHot
  split
  · exact .ite _ fun _ => (KeepsRunSide.refl s).raised ..
  · exact .refl s

theorem refreshDerate_keepsRunSide (s : State) : KeepsRunSide s (refreshDerate s) :=
  .of_frame ⟨(refreshDerate_steady s).motor, by simp, by simp⟩

theorem deliverTInv_keepsRunSide (t : Int) (s : State) : KeepsRunSide s (deliverTInv t s) := by
  have held : KeepsRunSide s (s.setMdr { s.mdr with tInv := some t }) := .of_frame ⟨rfl, rfl, rfl⟩
  have taken : KeepsRunSide s (inverterTaken t s) := held.trans (refreshDerate_keepsRunSide _)
  rw [deliverTInv_eq]
  dsimp only
  repeat' split
  · exact taken.raised ..
  · exact taken.trans (precheckDecide_keepsRunSide ..)
  · exact taken

theorem deliverScan_keepsRunSide (s : State) : KeepsRunSide s (deliverScan s) := by
  have scanned : KeepsRunSide s (s.setPkm { s.pkm with scanned := true }) := .of_frame ⟨rfl, rfl, rfl⟩
  exact (scanned.trans (deliverTInv_keepsRunSide (s.pkm.tInv.getD 0) _)).framed (by simp [deliverScan])

/-- A scan end at which SHIP may be asked for (R105). -/
theorem KeepsRunSide.shipped {s t : State} (h : KeepsRunSide s t) (asks : Bool) :
    KeepsRunSide s (if asks then shipEntry t else t) := h.trans (.ite _ fun _ => shipEntry_keepsRunSide t)

theorem watchScanEnd_keepsRunSide (r : ScanReading) (s : State) : KeepsRunSide s (watchScanEnd r s) := by
  have recorded : KeepsRunSide s (recordCells r s) := .of_frame (by simp)
  exact ((recorded.trans (protectCells_keepsRunSide s.pkm _)).framed (by simp)).shipped _

theorem onScanEnd_keepsRunSide (sc : Scan) (r : ScanReading) (s : State) : KeepsRunSide s (onScanEnd sc r s) := by
  have recorded : KeepsRunSide s (recordOthers r (recordCells r s)) := .of_frame (by simp)
  have protect := (recorded.trans (judgePackHot_keepsRunSide _)).trans (protectCells_keepsRunSide s.pkm _)
  have judged (cut : Bool) (t : State) :
      KeepsRunSide t (gaugeStep sc cut (moveAllowances sc (judgePackState (judgeRelease t)))) := .of_frame (by simp)
  exact ((protect.trans (judged _ _)).trans (deliverScan_keepsRunSide _)).shipped _

theorem scanEnd_keepsRunSide (r : ScanReading) (s : State) : KeepsRunSide s (scanEnd r s) := by
  have closed (t : State) (w : Seven Bool) : KeepsRunSide t (t.setPkm { t.pkm with scan := none, switches := w }) :=
    .of_frame ⟨rfl, rfl, rfl⟩
  have ended (sc : Scan) (t : State) : KeepsRunSide t (if sc.watch then watchScanEnd r t else onScanEnd sc r t) := by
    split
    · exact watchScanEnd_keepsRunSide r t
    · exact onScanEnd_keepsRunSide sc r t
  unfold scanEnd
  refine ((KeepsRunSide.trans ?begun (closed _ _)).trans (ended _ _)).refreshed
  split
  · exact .refl s
  · exact .of_frame (by simp)

/-! ### The parameters (R75, R87, R88, R181) -/

/-- No write of the dirt parameters reaches the window, the indices or the level (R87, R88). -/
theorem dirtWrites_same (s : State) :
    (∀ m, DseSound s.mdr.state s.dse → DseSound s.mdr.state (writeOpticalMode m s).dse) ∧
    (∀ v, DseSound s.mdr.state s.dse → DseSound s.mdr.state (writeEmitter v s).dse) ∧
    (∀ v, DseSound s.mdr.state s.dse → DseSound s.mdr.state (writeCarrier v s).dse) := by
  refine ⟨fun m h => h.of_same ?_, fun v h => h.of_same ?_, fun v h => h.of_same ?_⟩
  · unfold writeOpticalMode
    dsimp only
    repeat' split
    all_goals simp [enterSettle]
  · unfold writeEmitter
    dsimp only
    repeat' split
    all_goals simp [enterSettle]
  · unfold writeCarrier
    dsimp only
    repeat' split
    all_goals simp [enterSettle]

theorem paramWrite_keepsRunSide (p : Param) (v : Int) (s : State) : KeepsRunSide s (p.write v s) := by
  cases p
  case blockTime => exact KeepsRunSide.trans (.of_frame (by simp)) (expireBlock_keepsRunSide _)
  case retryTime => exact KeepsRunSide.trans (.of_frame (by simp)) (expireRetry_keepsRunSide _)
  case triggerMode =>
    unfold Param.write writeTriggerMode
    dsimp only
    split
    · exact .refl s
    · exact .refreshed (.of_frame ⟨rfl, rfl, rfl⟩)
  case invDerateStart | invCut =>
    exact KeepsRunSide.trans (.of_frame (by simp)) (refreshDerate_keepsRunSide _)
  case opticalMode => exact .of_dse (by simp [Param.write]) ((dirtWrites_same s).1 _)
  case emitterCurrent => exact .of_dse (by simp [Param.write]) ((dirtWrites_same s).2.1 _)
  case emitterCarrier => exact .of_dse (by simp [Param.write]) ((dirtWrites_same s).2.2 _)
  all_goals exact .of_frame (by simp [Param.write])

end Sys2Proof.Proofs

namespace Sys2Proof.Proofs

open Sys2Proof.Machine Sys2Proof.Safety

/-! ### Requests (R176) -/

/-- A block that serves a request and leaves the run side sound. -/
def ServesRunSide (serve : State → Served) : Prop := ∀ s, KeepsRunSide s (serve s).state

/-- A block that serves a request and leaves the motor's state, the monitor and the engine alone. -/
theorem servesRunSide_of_frame {serve : State → Served} (h : ∀ s, (serve s).state.mdr.state = s.mdr.state ∧
    (serve s).state.blm = s.blm ∧ (serve s).state.dse = s.dse) : ServesRunSide serve := fun s => .of_frame (h s)

/-- A block that answers and changes nothing. -/
theorem servesRunSide_reading {serve : State → Served} (h : ∀ s, (serve s).state = s) : ServesRunSide serve :=
  servesRunSide_of_frame fun s => by simp [h s]

theorem serveSetKnown_keepsRunSide (id : Byte) (p : Param) (value : BitVec 32) :
    ServesRunSide (serveSetKnown id p value) := by
  intro s
  unfold serveSetKnown
  repeat' split
  · exact .refl s
  · exact paramWrite_keepsRunSide p _ s
  · exact .refl s
  · exact paramWrite_keepsRunSide p _ s

theorem serveSetParam_keepsRunSide (id : Byte) (value : BitVec 32) : ServesRunSide (serveSetParam id value) := by
  intro s
  unfold serveSetParam
  split
  · exact serveSetKnown_keepsRunSide id _ value s
  · exact .refl s

theorem serveGetParam_keepsRunSide (id : Byte) : ServesRunSide (serveGetParam id) :=
  servesRunSide_reading fun s => by unfold serveGetParam; split <;> rfl

theorem serveNoticeMask_keepsRunSide (enables : BitVec 16) : ServesRunSide (serveNoticeMask enables) :=
  servesRunSide_of_frame fun s => by
    unfold serveNoticeMask
    dsimp only
    repeat' split
    all_goals simp

theorem serveSleep_keepsRunSide : ServesRunSide serveSleep :=
  servesRunSide_of_frame fun s => by unfold serveSleep; split <;> simp

theorem serveShip_keepsRunSide : ServesRunSide serveShip :=
  servesRunSide_of_frame fun s => by unfold serveShip; split <;> simp

theorem serveRunStart_keepsRunSide : ServesRunSide serveRunStart := by
  intro s
  unfold serveRunStart
  split
  · exact .refl s
  · exact .refl s
  · exact .refreshed (.of_frame ⟨rfl, rfl, rfl⟩)

theorem serveRunStop_keepsRunSide : ServesRunSide serveRunStop := fun _ => .refreshed (.of_frame ⟨rfl, rfl, rfl⟩)

theorem serveStepSelect_keepsRunSide (step : Byte) : ServesRunSide (serveStepSelect step) :=
  servesRunSide_of_frame fun s => by unfold serveStepSelect; split <;> simp

theorem serveEditBegin_keepsRunSide (label : Byte) : ServesRunSide (serveEditBegin label) :=
  servesRunSide_of_frame fun s => by unfold serveEditBegin; split <;> simp

theorem serveEditSet_keepsRunSide (field : Byte) (value : BitVec 32) : ServesRunSide (serveEditSet field value) :=
  servesRunSide_of_frame fun s => by
    unfold serveEditSet
    repeat' split
    all_goals simp

theorem serveEditCommit_keepsRunSide : ServesRunSide serveEditCommit :=
  servesRunSide_of_frame fun s => by
    unfold serveEditCommit
    repeat' split
    all_goals simp

theorem serveEditAbort_keepsRunSide : ServesRunSide serveEditAbort :=
  servesRunSide_of_frame fun s => by unfold serveEditAbort; split <;> simp

theorem serveTripClear_keepsRunSide : ServesRunSide serveTripClear := by
  intro s
  unfold serveTripClear
  repeat' split
  any_goals exact .refl s
  exact (clearTrip_keepsRunSide .host s).refreshed

theorem serveFaultRead_keepsRunSide (clearCounts : Byte) : ServesRunSide (serveFaultRead clearCounts) :=
  servesRunSide_of_frame fun s => by
    unfold serveFaultRead
    repeat' split
    all_goals simp

theorem serveBandMode_keepsRunSide (mode : Byte) : ServesRunSide (serveBandMode mode) :=
  servesRunSide_of_frame fun s => by unfold serveBandMode; split <;> simp

theorem serveBandClear_keepsRunSide : ServesRunSide serveBandClear :=
  servesRunSide_of_frame fun s => by unfold serveBandClear; split <;> simp

theorem serveBandRead_keepsRunSide (index : Byte) : ServesRunSide (serveBandRead index) :=
  servesRunSide_reading fun s => by
    unfold serveBandRead
    repeat' split
    all_goals rfl

theorem serveBandWrite_keepsRunSide (index advance : Byte) (loadRef : BitVec 16) (flags : Byte) :
    ServesRunSide (serveBandWrite index advance loadRef flags) :=
  servesRunSide_of_frame fun s => by
    unfold serveBandWrite
    repeat' split
    all_goals simp

theorem serveGaugeAdjust_keepsRunSide (delta : BitVec 16) : ServesRunSide (serveGaugeAdjust delta) :=
  servesRunSide_of_frame fun s => by simp [serveGaugeAdjust]

theorem serveChargeEnable_keepsRunSide : ServesRunSide serveChargeEnable :=
  servesRunSide_of_frame fun s => by
    unfold serveChargeEnable
    dsimp only
    split <;> simp

theorem serveChargeDisable_keepsRunSide : ServesRunSide serveChargeDisable := by
  intro s
  unfold serveChargeDisable
  dsimp only
  split
  · exact .of_frame ⟨rfl, rfl, rfl⟩
  · exact .refreshed (.of_frame (by simp))

theorem serveChargePause_keepsRunSide : ServesRunSide serveChargePause :=
  servesRunSide_of_frame fun s => by
    unfold serveChargePause
    dsimp only
    repeat' split
    all_goals simp

theorem serveChargeResume_keepsRunSide : ServesRunSide serveChargeResume :=
  servesRunSide_of_frame fun s => by
    unfold serveChargeResume
    dsimp only
    repeat' split
    all_goals simp

theorem serveChargeClear_keepsRunSide : ServesRunSide serveChargeClear :=
  servesRunSide_of_frame fun s => by unfold serveChargeClear; split <;> simp

theorem serveChargeControl_keepsRunSide (action : Byte) : ServesRunSide (serveChargeControl action) := by
  intro s
  unfold serveChargeControl
  split
  · exact serveChargeEnable_keepsRunSide s
  · exact serveChargeDisable_keepsRunSide s
  · exact serveChargePause_keepsRunSide s
  · exact serveChargeResume_keepsRunSide s
  · exact serveChargeClear_keepsRunSide s
  · exact .refl s

theorem serveCounterSetup_keepsRunSide (k source : Byte) (threshold : BitVec 32) (options start : Byte) :
    ServesRunSide (serveCounterSetup k source threshold options start) :=
  servesRunSide_of_frame fun s => by
    unfold serveCounterSetup
    dsimp only
    repeat' split
    all_goals simp

theorem serveCounterAdjust_keepsRunSide (k : Byte) (delta : BitVec 32) : ServesRunSide (serveCounterAdjust k delta) :=
  servesRunSide_of_frame fun s => by
    unfold serveCounterAdjust
    dsimp only
    split <;> simp

/-- Every request of the catalogue is served by one of the blocks (12.6). -/
theorem requestServed_keepsRunSide {kind : Nat} {payload : List Byte} (known : knownKind kind = true)
    {serve : State → Served} (h : requestServed kind payload = some serve) : ServesRunSide serve := by
  have bound : kind ≤ 0x32 := by simp [knownKind] at known; omega
  interval_cases kind
  all_goals
    rcases payload with
      _ | ⟨a, _ | ⟨b, _ | ⟨c, _ | ⟨d, _ | ⟨e, _ | ⟨f, _ | ⟨g, _ | ⟨i, _ | l⟩⟩⟩⟩⟩⟩⟩⟩
  all_goals cases h
  · exact servesRunSide_reading fun _ => rfl
  · exact servesRunSide_of_frame fun _ => ⟨rfl, rfl, rfl⟩
  · exact serveGetParam_keepsRunSide _
  · exact serveSetParam_keepsRunSide _ _
  · exact serveNoticeMask_keepsRunSide _
  · exact serveSleep_keepsRunSide
  · exact serveShip_keepsRunSide
  · exact serveRunStart_keepsRunSide
  · exact serveRunStop_keepsRunSide
  · exact serveStepSelect_keepsRunSide _
  · exact serveEditBegin_keepsRunSide _
  · exact serveEditSet_keepsRunSide _ _
  · exact serveEditCommit_keepsRunSide
  · exact serveEditAbort_keepsRunSide
  · exact servesRunSide_reading fun _ => rfl
  · exact serveTripClear_keepsRunSide
  · exact serveFaultRead_keepsRunSide _
  · exact serveBandMode_keepsRunSide _
  · exact serveBandClear_keepsRunSide
  · exact serveBandRead_keepsRunSide _
  · exact serveBandWrite_keepsRunSide _ _ _ _
  · exact servesRunSide_reading fun _ => rfl
  · exact servesRunSide_reading fun _ => rfl
  · exact servesRunSide_of_frame fun _ => ⟨rfl, rfl, rfl⟩
  · exact servesRunSide_reading fun _ => rfl
  · exact serveGaugeAdjust_keepsRunSide _
  · exact serveChargeControl_keepsRunSide _
  · exact servesRunSide_reading fun _ => rfl
  · exact servesRunSide_reading fun _ => rfl
  · exact serveCounterSetup_keepsRunSide _ _ _ _ _
  · exact servesRunSide_reading fun _ => rfl
  · exact serveCounterAdjust_keepsRunSide _ _

/-! ### The host line (R174 to R178) -/

theorem beginTransmission_keepsRunSide (s : State) : KeepsRunSide s (beginTransmission s) := .of_frame (by simp)

theorem idleZero_keepsRunSide (s : State) : KeepsRunSide s (idleZero s) := .of_frame ⟨rfl, rfl, rfl⟩

theorem setMpt_keepsRunSide (m : Mpt) (s : State) : KeepsRunSide s (s.setMpt m) := .of_frame ⟨rfl, rfl, rfl⟩

theorem discardFrame_keepsRunSide (reason : DiscardReason) (s : State) : KeepsRunSide s (discardFrame reason s) :=
  .of_frame (by simp)

theorem whilePowered_keepsRunSide {f : State → State} (h : ∀ s, KeepsRunSide s (f s)) (s : State) :
    KeepsRunSide s (whilePowered f s) := by
  unfold whilePowered
  split
  · exact .refl s
  · exact (h s).trans (beginTransmission_keepsRunSide _)

theorem judgeRequest_keepsRunSide (kind tag : Byte) {serve : State → Served} (h : ServesRunSide serve) (s : State) :
    KeepsRunSide s (judgeRequest kind tag serve s) := by
  have served (m : Mpt) (r : Reply) : KeepsRunSide s (queueReply r (serve (s.setMpt m)).state) :=
    ((setMpt_keepsRunSide m s).trans (h _)).framed ⟨rfl, rfl, rfl⟩
  unfold judgeRequest takeRequest
  dsimp only
  repeat' split
  · exact setMpt_keepsRunSide _ s
  · exact .of_frame ⟨rfl, rfl, rfl⟩
  · exact (served _ _).trans (enterSleep_keepsRunSide _)
  · exact served _ _

theorem onHostFrame_keepsRunSide {f : State → State} (h : ∀ s, KeepsRunSide s (f s)) (s : State) :
    KeepsRunSide s (onHostFrame f s) :=
  whilePowered_keepsRunSide (fun t => (wakeIfAsleep_keepsRunSide .link t).trans
    ((beginTransmission_keepsRunSide _).trans ((h _).trans (idleZero_keepsRunSide _)))) s

theorem onRequest_keepsRunSide (kind tag : Byte) {serve : State → Served} (h : ServesRunSide serve) (s : State) :
    KeepsRunSide s (onRequest kind tag serve s) :=
  onHostFrame_keepsRunSide (fun t => (setMpt_keepsRunSide _ t).trans (judgeRequest_keepsRunSide kind tag h _)) s

theorem serveFrame_keepsRunSide (kind : Byte) (payload : List Byte) : ServesRunSide (serveFrame kind payload) := by
  intro s
  unfold serveFrame
  repeat' split
  · next known _ _ served => exact requestServed_keepsRunSide known served s
  · exact .refl s
  · exact .refl s

theorem dispatchFrame_keepsRunSide (kind tag : Byte) (payload : List Byte) (s : State) :
    KeepsRunSide s (dispatchFrame kind tag payload s) := by
  unfold dispatchFrame
  split
  · exact resetRequest_keepsRunSide tag s
  · exact judgeRequest_keepsRunSide kind tag (serveFrame_keepsRunSide kind payload) s

theorem frameByte_keepsRunSide (bytes : List Byte) (s : State) : KeepsRunSide s (frameByte bytes s) := by
  have completed : KeepsRunSide s (completeFrame bytes s) := by
    unfold completeFrame
    dsimp only
    repeat' split
    · exact (setMpt_keepsRunSide _ s).trans (dispatchFrame_keepsRunSide ..)
    · exact discardFrame_keepsRunSide _ s
    · exact .refl s
  unfold frameByte
  repeat' split
  · exact discardFrame_keepsRunSide _ s
  · exact setMpt_keepsRunSide _ s
  · exact discardFrame_keepsRunSide _ s
  · exact setMpt_keepsRunSide _ s
  · exact setMpt_keepsRunSide _ s
  · exact completed
  · exact setMpt_keepsRunSide _ s
  · exact .refl s

theorem receiveByte_keepsRunSide (byte : Byte) (stopBit : Bool) (s : State) :
    KeepsRunSide s (receiveByte byte stopBit s) := by
  unfold receiveByte
  repeat' split
  · exact setMpt_keepsRunSide _ s
  · exact .refl s
  · exact frameByte_keepsRunSide _ s
  · exact discardFrame_keepsRunSide _ s

theorem replyEnded_keepsRunSide (r : Reply) (s : State) : KeepsRunSide s (replyEnded r s) := by
  unfold replyEnded
  dsimp only
  split
  · exact setMpt_keepsRunSide _ s
  · exact ((setMpt_keepsRunSide _ s).trans (setMpt_keepsRunSide _ _)).trans (makeEntry_keepsRunSide _)

/-! ### The events of the motor (R25 to R41) -/

theorem observed_keepsRunSide (sector t : Nat) (s : State) :
    KeepsRunSide s (s.setMdr (observeCrossing sector t s.mdr)) := .of_frame (by simp)

theorem catchCrossing_keepsRunSide (sector t : Nat) (s : State) : KeepsRunSide s (catchCrossing sector t s) := by
  have observed (limit : Option Nat) :
      KeepsRunSide s (s.setMdr { observeCrossing sector t s.mdr with catchLimit := limit }) := .of_frame (by simp)
  unfold catchCrossing
  dsimp only
  generalize (if 6 ≤ (observeCrossing sector t s.mdr).crossings then none
    else (observeCrossing sector t s.mdr).catchLimit) = limit
  repeat' split
  · exact .of_frame ⟨rfl, rfl, rfl⟩
  · exact .of_frame ⟨rfl, rfl, rfl⟩
  · exact (observed limit).trans (enterRunCaught_keepsRunSide _)
  · exact observed limit

theorem rampCrossing_keepsRunSide (t d : Nat) (s : State) : KeepsRunSide s (rampCrossing t d s) := by
  have seen (n : Nat) : KeepsRunSide s (s.setMdr { s.mdr with seen := true, windowShut := true, crossings := n }) :=
    .of_frame ⟨rfl, rfl, rfl⟩
  unfold rampCrossing
  dsimp only
  split
  · exact (seen _).trans (enterHandover_keepsRunSide t d _)
  · exact seen _

theorem handoverCrossing_keepsRunSide (t d : Nat) (s : State) : KeepsRunSide s (handoverCrossing t d s) := by
  have counted : KeepsRunSide s (s.setMdr { s.mdr with handoverCount := s.mdr.handoverCount + 1 }) :=
    .of_frame ⟨rfl, rfl, rfl⟩
  exact (counted.trans (.ite (6 ≤ s.mdr.handoverCount + 1) fun _ => enterRun_keepsRunSide _)).scheduled t d

theorem crossing_keepsRunSide (phase : Phase) (rising : Bool) (t d : Nat) (s : State) :
    KeepsRunSide s (crossing phase rising t d s) := by
  have coasted (sector : Nat) : KeepsRunSide s (coastCrossing sector t s) := by
    unfold coastCrossing
    dsimp only
    split
    · exact (observed_keepsRunSide ..).trans (coastEnd_keepsRunSide ..)
    · exact observed_keepsRunSide ..
  unfold crossing
  dsimp only
  split
  · exact observed_keepsRunSide ..
  · exact catchCrossing_keepsRunSide ..
  · exact coasted _
  · exact .ite _ fun _ => rampCrossing_keepsRunSide t d s
  · exact .ite _ fun _ => handoverCrossing_keepsRunSide t d s
  · exact .ite _ fun _ => (KeepsRunSide.refl s).scheduled t d
  · exact .refl s

theorem precheckEnd_keepsRunSide (s : State) : KeepsRunSide s (precheckEnd s) := by
  unfold precheckEnd
  repeat' split
  · exact precheckDecide_keepsRunSide ..
  · exact .of_frame ⟨rfl, rfl, rfl⟩
  · exact .refl s

theorem rampAccelerated_keepsRunSide (s : State) : KeepsRunSide s (rampAccelerated s) := by
  have grown (inc : BitVec 16) : KeepsRunSide s (s.setMdr { s.mdr with rampInc := inc, speed := rampSpeed inc }) :=
    .of_frame ⟨rfl, rfl, rfl⟩
  unfold rampAccelerated
  dsimp only
  split
  · exact (grown _).trans (startFail_keepsRunSide ..)
  · exact grown _

theorem scheduledCommutation_keepsRunSide (im : Int) (s : State) : KeepsRunSide s (scheduledCommutation im s) := by
  unfold scheduledCommutation
  repeat' split
  · exact commutate_keepsRunSide ..
  · exact .refl s
  · exact .refl s

theorem windowClosed_keepsRunSide (im : Int) (s : State) : KeepsRunSide s (windowClosed im s) := by
  have missed : KeepsRunSide s (missedCrossing im s) := by
    have closed := commutate_keepsRunSide (windowCloseTime s.mdr.ts) im s
    unfold missedCrossing
    dsimp only
    split
    · exact ((closed.framed ⟨rfl, rfl, rfl⟩).trans (raiseSyncLoss_keepsRunSide _)).refreshed
    · exact closed.framed ⟨rfl, rfl, rfl⟩
  unfold windowClosed
  repeat' split
  · exact .refl s
  · exact .of_frame ⟨rfl, rfl, rfl⟩
  · exact (startFail_keepsRunSide ..).refreshed
  · exact missed
  · exact .refl s

theorem rotorStopped_keepsRunSide (s : State) : KeepsRunSide s (rotorStopped s) := by
  have quiet : KeepsRunSide s (s.setMdr { s.mdr with quiet := true, speed := 0 }) := .of_frame ⟨rfl, rfl, rfl⟩
  unfold rotorStopped
  dsimp only
  split
  · exact quiet.trans (coastEnd_keepsRunSide ..)
  · exact quiet
  · exact quiet
  · exact .refl s

theorem overcurrent_keepsRunSide (s : State) : KeepsRunSide s (overcurrent s) := by
  have off : KeepsRunSide s (s.setMdr { s.mdr with gates := none }) := .of_frame ⟨rfl, rfl, rfl⟩
  unfold overcurrent
  repeat' split
  · exact (off.raised ..).refreshed
  · exact (KeepsRunSide.refl s).raised ..
  · exact .refl s

/-! ### The trigger (R1 to R5, R171) -/

theorem triggerPress_keepsRunSide (s : State) : KeepsRunSide s (triggerPress s) := by
  refine .of_frame ?_
  unfold triggerPress
  repeat' split
  all_goals simp [raiseTriggerNotice]

theorem triggerRelease_keepsRunSide (s : State) : KeepsRunSide s (triggerRelease s) := by
  have released : KeepsRunSide s (releasedTrigger s) := .of_frame (by simp [releasedTrigger])
  rw [triggerRelease_eq]
  exact released.trans (.ite _ fun _ => clearTrip_keepsRunSide ..)

theorem debounced_keepsRunSide (s : State) : KeepsRunSide s (debounced s) := by
  have determined (g : Trg) (t : State) : KeepsRunSide t (t.setTrg g) := .of_frame ⟨rfl, rfl, rfl⟩
  have edge (level : Level) (t : State) : KeepsRunSide t (triggerEdge level t) := by
    unfold triggerEdge
    repeat' split
    · exact (wakeIfAsleep_keepsRunSide .trigger t).trans
        ((triggerPress_keepsRunSide _).refreshed.trans (idleZero_keepsRunSide _))
    · exact determined _ t
    · exact (triggerRelease_keepsRunSide t).refreshed.trans (idleZero_keepsRunSide _)
  unfold debounced
  repeat' split
  · exact determined _ s
  · exact .refl s
  · exact (determined _ s).trans (edge ..)

end Sys2Proof.Proofs

namespace Sys2Proof.Proofs

open Sys2Proof.Machine Sys2Proof.Safety

/-! ### A step -/

theorem tick_keepsRunSide (s : State) : KeepsRunSide s (tick s) := by
  have timed (t : State) : KeepsRunSide t (tickTimers t) :=
    .of_blocks rfl BlmSound.ticked fun engine => engine.of_same (by simp [tickTimers, tickDse])
  have queued (t : State) (l : List Instr) : KeepsRunSide t (t.setPending l) := .of_frame ⟨rfl, rfl, rfl⟩
  unfold tick
  split
  · exact .refl s
  · exact ((startAtOnce_keepsRunSide s).trans ((beginTransmission_keepsRunSide _).trans (timed _))).trans (queued _ _)

/-- An event of a part that is not in SHIP. -/
theorem event_keepsRunSide {f : State → State} (h : ∀ s, KeepsRunSide s (f s)) (s : State) :
    Yields (.next (whilePowered f s)) (KeepsRunSide s) := ⟨_, rfl, whilePowered_keepsRunSide h s⟩

theorem request_keepsRunSide (kind tag : Byte) {serve : State → Served} (h : ServesRunSide serve) (s : State) :
    Yields (.next (onRequest kind tag serve s)) (KeepsRunSide s) := ⟨_, rfl, onRequest_keepsRunSide kind tag h s⟩

end Sys2Proof.Proofs

namespace Sys2Proof.Proofs

open Sys2Proof.Machine Sys2Proof.Safety

/-! ### O53: every command keeps the run side sound -/

theorem execHostFrameReceived_keepsRunSide (kind tag : Byte) (payload : List Byte) (s : State) :
    Yields (execHostFrameReceived kind tag payload s) (KeepsRunSide s) := by
  refine ⟨_, rfl, ?_⟩
  repeat' split
  · exact .refl s
  · exact whilePowered_keepsRunSide (resetRequest_keepsRunSide tag) s
  · exact onHostFrame_keepsRunSide (discardFrame_keepsRunSide _) s
  · exact onHostFrame_keepsRunSide (discardFrame_keepsRunSide _) s
  · exact onRequest_keepsRunSide kind tag (serveFrame_keepsRunSide kind payload) s

theorem execTransmitEnd_keepsRunSide (s : State) : Yields (execTransmitEnd s) (KeepsRunSide s) := by
  refine event_keepsRunSide (fun t => ?_) s
  split
  · exact replyEnded_keepsRunSide _ t
  · exact setMpt_keepsRunSide _ t
  · exact .refl t

theorem execDirtWindowEnd_keepsRunSide (amplitude level : Nat) (signal : List Nat) (s : State) :
    Yields (execDirtWindowEnd amplitude level signal s) (KeepsRunSide s) := by
  refine event_keepsRunSide (fun t => ?_) s
  split
  · next opened => exact KeepsRunSide.ite _ fun _ => dirtWindowEnd_keepsRunSide opened ..
  · exact .refl t

theorem execDockContactRise_keepsRunSide (s : State) : Yields (execDockContactRise s) (KeepsRunSide s) := by
  have risen : KeepsRunSide s (s.setDlk { s.dlk with contact := true }) := .of_frame ⟨rfl, rfl, rfl⟩
  refine ⟨_, rfl, ?_⟩
  split
  · exact risen.trans (powerReset_keepsRunSide .shipWake _)
  · exact whilePowered_keepsRunSide contactRisen_keepsRunSide s

theorem execDockLoss_keepsRunSide (s : State) : Yields (execDockLoss s) (KeepsRunSide s) := by
  refine event_keepsRunSide (fun t => ?_) s
  split
  · exact .of_frame (by simp)
  · exact dockLoss_keepsRunSide t

theorem execTriggerRawChange_keepsRunSide (l : Level) (s : State) :
    Yields (execTriggerRawChange l s) (KeepsRunSide s) := by
  have raw : KeepsRunSide s (s.setTrg { s.trg with raw := l, timer := 0 }) := .of_frame ⟨rfl, rfl, rfl⟩
  refine ⟨_, rfl, ?_⟩
  split
  · exact whilePowered_keepsRunSide KeepsRunSide.refl s
  · exact raw.trans (whilePowered_keepsRunSide KeepsRunSide.refl _)

theorem execContactVoltageFall_keepsRunSide (s : State) : Yields (execContactVoltageFall s) (KeepsRunSide s) := by
  refine ⟨_, rfl, KeepsRunSide.trans ?_ (whilePowered_keepsRunSide KeepsRunSide.refl _)⟩
  exact .of_frame ⟨rfl, rfl, rfl⟩

theorem execSeventhCellMeasured_keepsRunSide (s : State) : Yields (execSeventhCellMeasured s) (KeepsRunSide s) := by
  refine event_keepsRunSide (fun t => ?_) s
  split
  · exact KeepsRunSide.ite _ fun _ => .of_frame (by simp)
  · exact .refl t

theorem execShipWake_keepsRunSide (s : State) : Yields (execShipWake s) (KeepsRunSide s) := by
  have risen : KeepsRunSide s (s.setDlk { s.dlk with contact := true }) := .of_frame ⟨rfl, rfl, rfl⟩
  exact ⟨_, rfl, KeepsRunSide.ite _ fun _ => risen.trans (powerReset_keepsRunSide .shipWake _)⟩

theorem execBrownout_keepsRunSide (s : State) : Yields (execBrownout s) (KeepsRunSide s) := by
  refine ⟨_, rfl, ?_⟩
  split
  · exact .refl s
  · exact powerReset_keepsRunSide .brownout s

theorem execLinkWake_keepsRunSide (byte : Byte) (stopBit : Bool) (s : State) :
    Yields (execLinkWake byte stopBit s) (KeepsRunSide s) :=
  event_keepsRunSide (fun t => ((wakeIfAsleep_keepsRunSide .link t).trans (beginTransmission_keepsRunSide _)).trans
    ((receiveByte_keepsRunSide byte stopBit _).trans (.ite _ fun _ => idleZero_keepsRunSide _))) s

theorem abandonReception_keepsRunSide (s : State) : KeepsRunSide s (abandonReception s) :=
  .of_frame (by simp [abandonReception])

theorem receptionBegun_keepsRunSide (s : State) : KeepsRunSide s (receptionBegun s) := by
  have begun (t : State) (b : Bool) : KeepsRunSide t (t.setDlk { t.dlk with receiving := b }) :=
    .of_frame ⟨rfl, rfl, rfl⟩
  exact (KeepsRunSide.ite _ fun _ => abandonReception_keepsRunSide s).trans (begun _ _)

theorem replyTimeout_keepsRunSide (s : State) : KeepsRunSide s (replyTimeout s) := by
  unfold replyTimeout
  repeat' split
  all_goals exact .of_frame (by simp)

theorem catchRestarted_keepsRunSide (s : State) : KeepsRunSide s (s.setMdr (restartCatch s.mdr)) :=
  .of_frame ⟨rfl, rfl, rfl⟩

/-- A timer of RETRYING is due in RETRYING alone (R73). -/
theorem retrying_of_due {b : Blm} {due : Bool} (h : (decide (b.state = .retrying) && due) = true) :
    b.state = .retrying := of_decide_eq_true (Bool.and_eq_true_iff.1 h).1

/-- Every command keeps the monitor and the dirt windows sound for the motor's state. -/
theorem exec_keepsRunSide (c : Instr) (s : State) : Yields (exec c s) (KeepsRunSide s) := by
  cases c with
  | identify tag => exact request_keepsRunSide _ tag (servesRunSide_reading fun _ => rfl) s
  | status tag => exact request_keepsRunSide _ tag (servesRunSide_of_frame fun _ => ⟨rfl, rfl, rfl⟩) s
  | getParam tag id => exact request_keepsRunSide _ tag (serveGetParam_keepsRunSide id) s
  | setParam tag id value => exact request_keepsRunSide _ tag (serveSetParam_keepsRunSide id value) s
  | setTriggerMode tag value => exact request_keepsRunSide _ tag (serveSetKnown_keepsRunSide _ _ value) s
  | setOpticalMode tag value => exact request_keepsRunSide _ tag (serveSetKnown_keepsRunSide _ _ value) s
  | setEmitterCurrent tag value => exact request_keepsRunSide _ tag (serveSetKnown_keepsRunSide _ _ value) s
  | setEmitterCarrier tag value => exact request_keepsRunSide _ tag (serveSetKnown_keepsRunSide _ _ value) s
  | setFullCapacity tag value => exact request_keepsRunSide _ tag (serveSetKnown_keepsRunSide _ _ value) s
  | setIdleSleepS tag value => exact request_keepsRunSide _ tag (serveSetKnown_keepsRunSide _ _ value) s
  | setReserve tag value => exact request_keepsRunSide _ tag (serveSetKnown_keepsRunSide _ _ value) s
  | noticeMask tag enables => exact request_keepsRunSide _ tag (serveNoticeMask_keepsRunSide enables) s
  | reset tag => exact event_keepsRunSide (resetRequest_keepsRunSide tag) s
  | sleep tag => exact request_keepsRunSide _ tag serveSleep_keepsRunSide s
  | ship tag => exact request_keepsRunSide _ tag serveShip_keepsRunSide s
  | runStart tag => exact request_keepsRunSide _ tag serveRunStart_keepsRunSide s
  | runStop tag => exact request_keepsRunSide _ tag serveRunStop_keepsRunSide s
  | stepSelect tag st => exact request_keepsRunSide _ tag (serveStepSelect_keepsRunSide st) s
  | editBegin tag label => exact request_keepsRunSide _ tag (serveEditBegin_keepsRunSide label) s
  | editSet tag field value => exact request_keepsRunSide _ tag (serveEditSet_keepsRunSide field value) s
  | editCommit tag => exact request_keepsRunSide _ tag serveEditCommit_keepsRunSide s
  | editAbort tag => exact request_keepsRunSide _ tag serveEditAbort_keepsRunSide s
  | profileRead tag => exact request_keepsRunSide _ tag (servesRunSide_reading fun _ => rfl) s
  | tripClear tag => exact request_keepsRunSide _ tag serveTripClear_keepsRunSide s
  | faultRead tag clearCounts => exact request_keepsRunSide _ tag (serveFaultRead_keepsRunSide clearCounts) s
  | bandMode tag mode => exact request_keepsRunSide _ tag (serveBandMode_keepsRunSide mode) s
  | bandClear tag => exact request_keepsRunSide _ tag serveBandClear_keepsRunSide s
  | bandRead tag index => exact request_keepsRunSide _ tag (serveBandRead_keepsRunSide index) s
  | bandWrite tag index advance loadRef flags =>
    exact request_keepsRunSide _ tag (serveBandWrite_keepsRunSide index advance loadRef flags) s
  | dirtRead tag => exact request_keepsRunSide _ tag (servesRunSide_reading fun _ => rfl) s
  | cellRead tag => exact request_keepsRunSide _ tag (servesRunSide_reading fun _ => rfl) s
  | cellResetMinmax tag => exact request_keepsRunSide _ tag (servesRunSide_of_frame fun _ => ⟨rfl, rfl, rfl⟩) s
  | gaugeRead tag => exact request_keepsRunSide _ tag (servesRunSide_reading fun _ => rfl) s
  | gaugeAdjust tag delta => exact request_keepsRunSide _ tag (serveGaugeAdjust_keepsRunSide delta) s
  | chargeEnable tag => exact request_keepsRunSide _ tag serveChargeEnable_keepsRunSide s
  | chargeDisable tag => exact request_keepsRunSide _ tag serveChargeDisable_keepsRunSide s
  | chargePause tag => exact request_keepsRunSide _ tag serveChargePause_keepsRunSide s
  | chargeResume tag => exact request_keepsRunSide _ tag serveChargeResume_keepsRunSide s
  | chargeClear tag => exact request_keepsRunSide _ tag serveChargeClear_keepsRunSide s
  | chargeRead tag => exact request_keepsRunSide _ tag (servesRunSide_reading fun _ => rfl) s
  | dockRead tag => exact request_keepsRunSide _ tag (servesRunSide_reading fun _ => rfl) s
  | counterSetup tag k source threshold options start =>
    exact request_keepsRunSide _ tag (serveCounterSetup_keepsRunSide k source threshold options start) s
  | counterRead tag => exact request_keepsRunSide _ tag (servesRunSide_reading fun _ => rfl) s
  | counterAdjust tag k delta => exact request_keepsRunSide _ tag (serveCounterAdjust_keepsRunSide k delta) s
  | hostFrameReceived kind tag payload => exact execHostFrameReceived_keepsRunSide kind tag payload s
  | hostFrameDiscard reason => exact ⟨_, rfl, onHostFrame_keepsRunSide (discardFrame_keepsRunSide reason) s⟩
  | hostFrameGap =>
    exact event_keepsRunSide (fun t => (beginTransmission_keepsRunSide t).trans
      ((discardFrame_keepsRunSide .gap _).trans (idleZero_keepsRunSide _))) s
  | linkWake byte stopBit => exact execLinkWake_keepsRunSide byte stopBit s
  | transmitEnd => exact execTransmitEnd_keepsRunSide s
  | triggerDebounce => exact event_keepsRunSide debounced_keepsRunSide s
  | editTimeout => exact event_keepsRunSide (fun _ => .ite _ fun _ => .of_frame (by simp)) s
  | precheckEnd => exact event_keepsRunSide precheckEnd_keepsRunSide s
  | alignEnd => exact event_keepsRunSide (fun _ => .ite _ fun _ => motorTo_keepsRunSide ..) s
  | rampTick => exact event_keepsRunSide (fun _ => .ite _ fun _ => .of_frame (by simp)) s
  | rampAccelTick => exact event_keepsRunSide (fun _ => .ite _ fun _ => rampAccelerated_keepsRunSide _) s
  | rampTimeout => exact event_keepsRunSide (fun _ => .ite _ fun _ => (startFail_keepsRunSide ..).refreshed) s
  | restartWaitEnd => exact event_keepsRunSide (fun _ => .ite _ fun _ => motorTo_keepsRunSide ..) s
  | bemfCrossing phase rising t d => exact event_keepsRunSide (crossing_keepsRunSide phase rising t d) s
  | commutation im => exact event_keepsRunSide (scheduledCommutation_keepsRunSide im) s
  | windowClose im => exact event_keepsRunSide (windowClosed_keepsRunSide im) s
  | catchLimitExpiry => exact event_keepsRunSide (fun _ => .ite _ fun _ => motorTo_keepsRunSide ..) s
  | rotorStopTimeout => exact event_keepsRunSide rotorStopped_keepsRunSide s
  | coastTimeout => exact event_keepsRunSide (fun _ => .ite _ fun _ => coastEnd_keepsRunSide ..) s
  | ocHw => exact event_keepsRunSide overcurrent_keepsRunSide s
  | bandClearComplete => exact event_keepsRunSide (fun _ => .ite _ fun _ => .of_frame (by simp)) s
  | blockTimerExpiry => exact event_keepsRunSide expireBlock_keepsRunSide s
  | retryTimerExpiry => exact event_keepsRunSide expireRetry_keepsRunSide s
  | clearTimerExpiry =>
    exact event_keepsRunSide (fun _ => .ite _ fun due => clearBlockage_keepsRunSide _ (retrying_of_due due)) s
  | noReferenceTimerExpiry =>
    exact event_keepsRunSide (fun _ => .ite _ fun due => clearBlockage_keepsRunSide _ (retrying_of_due due)) s
  | normalTimerExpiry => exact event_keepsRunSide (fun t => .ite _ fun _ => normalExpired_keepsRunSide t) s
  | dirtWindowEnd amplitude level signal => exact execDirtWindowEnd_keepsRunSide amplitude level signal s
  | scanStart => exact event_keepsRunSide (fun _ => .of_frame (by simp)) s
  | scanEnd reading => exact event_keepsRunSide (scanEnd_keepsRunSide reading) s
  | prechargeTimeout => exact event_keepsRunSide (fun _ => .of_frame (by simp)) s
  | chargeTimeout => exact event_keepsRunSide (fun _ => .of_frame (by simp)) s
  | balanceTimeout => exact event_keepsRunSide (fun _ => .of_frame (by simp)) s
  | dockContactRise => exact execDockContactRise_keepsRunSide s
  | dockLoss => exact execDockLoss_keepsRunSide s
  | settleTimerExpiry => exact event_keepsRunSide (fun _ => .ite _ fun _ => .of_frame (by simp)) s
  | dockFrameSent => exact event_keepsRunSide (fun _ => .of_frame (by simp)) s
  | dockFrameReceived bytes => exact event_keepsRunSide (fun _ => .ite _ fun _ => .of_frame (by simp)) s
  | dockFrameAbandon => exact event_keepsRunSide (fun _ => .ite _ fun _ => abandonReception_keepsRunSide _) s
  | dockReplyTimeout => exact event_keepsRunSide replyTimeout_keepsRunSide s
  | keepTimerExpiry => exact event_keepsRunSide (fun _ => .ite _ fun _ => .of_frame (by simp)) s
  | dockRetryExpiry => exact event_keepsRunSide (fun _ => .ite _ fun _ => .of_frame (by simp)) s
  | idleTimerExpiry => exact event_keepsRunSide (fun _ => .ite _ fun _ => enterSleep_keepsRunSide _) s
  | powerOn => exact ⟨_, rfl, powerReset_keepsRunSide .powerOn s⟩
  | brownout => exact execBrownout_keepsRunSide s
  | shipWake => exact execShipWake_keepsRunSide s
  | triggerRawChange l => exact execTriggerRawChange_keepsRunSide l s
  | contactVoltageFall => exact execContactVoltageFall_keepsRunSide s
  | dockReceptionBegin => exact event_keepsRunSide (fun _ => .ite _ fun _ => receptionBegun_keepsRunSide _) s
  | seventhCellMeasured => exact execSeventhCellMeasured_keepsRunSide s
  | catchCrossingTimeout => exact event_keepsRunSide (fun t => .ite _ fun _ => catchRestarted_keepsRunSide t) s

/-- Every step keeps them sound (log 2, 7). -/
theorem step_keepsRunSide (s : State) : Yields (step s) (KeepsRunSide s) := by
  unfold step
  split
  · exact ⟨_, rfl, tick_keepsRunSide s⟩
  · next c rest _ =>
    have taken : KeepsRunSide s (s.setPending rest) := .of_frame ⟨rfl, rfl, rfl⟩
    obtain ⟨t, answer, kept⟩ := exec_keepsRunSide c (s.setPending rest)
    exact ⟨t, answer, taken.trans kept⟩

/-- Settles O53: what a step keeps of the Blockage Monitor and the dirt windows (R71 to R77). -/
theorem runSideKept : Obligations.RunSideKept := by
  intro s blockage dirt
  obtain ⟨t, answer, kept⟩ := step_keepsRunSide s
  exact ⟨t, answer, (runSideSound_iff t).1 (kept.sound ((runSideSound_iff s).2 ⟨blockage, dirt⟩))⟩

end Sys2Proof.Proofs

namespace Sys2Proof.Proofs

open Sys2Proof.Machine Sys2Proof.Safety

/-! ### The counters' records: what counts nothing (R159 to R161) -/

@[simp] theorem abortEdit_counters (cause : AbortCause) (s : State) :
    (abortEdit cause s).icn.counters = s.icn.counters := by
  unfold abortEdit
  split <;> simp

@[simp] theorem raiseTripNotice_counters (e : TripEvent) (s : State) :
    (raiseTripNotice e s).icn.counters = s.icn.counters := by simp [raiseTripNotice]

@[simp] theorem raiseNotified_counters (k : FaultKind) (d : Detail) (s : State) :
    (raiseNotified k d s).icn.counters = s.icn.counters := by
  unfold raiseNotified
  dsimp only
  split <;> simp [noteRaise_counters]

@[simp] theorem discardFrame_counters (reason : DiscardReason) (s : State) :
    (discardFrame reason s).icn.counters = s.icn.counters := by simp [discardFrame]

@[simp] theorem dirtLeaveRun_counters (s : State) : (dirtLeaveRun s).icn.counters = s.icn.counters := by
  unfold dirtLeaveRun
  dsimp only
  repeat' split
  all_goals simp [raiseDirtNotice]

@[simp] theorem clearBlockage_counters (r : BlockageReason) (s : State) :
    (clearBlockage r s).icn.counters = s.icn.counters := by simp [clearBlockage, raiseBlockageNotice]

@[simp] theorem blockageLeaveRun_counters (s : State) : (blockageLeaveRun s).icn.counters = s.icn.counters := by
  unfold blockageLeaveRun
  dsimp only
  split <;> simp [raiseBlockageNotice]

@[simp] theorem enterSuspend_counters (temp : Bool) (s : State) :
    (enterSuspend temp s).icn.counters = s.icn.counters := by simp [enterSuspend]

@[simp] theorem enterDone_counters (cause : ChargeCause) (s : State) :
    (enterDone cause s).icn.counters = s.icn.counters := by simp [enterDone]

@[simp] theorem resumeIfClear_counters (s : State) : (resumeIfClear s).icn.counters = s.icn.counters := by
  unfold resumeIfClear
  split <;> simp

@[simp] theorem grantDelivered_counters (s : State) : (grantDelivered s).icn.counters = s.icn.counters := by
  unfold grantDelivered
  dsimp only
  repeat' split
  all_goals simp

@[simp] theorem dockGone_counters (s : State) : (dockGone s).icn.counters = s.icn.counters := by
  unfold dockGone
  split <;> simp

@[simp] theorem dockSeen_counters (s : State) : (dockSeen s).icn.counters = s.icn.counters := by
  unfold dockSeen
  split <;> simp

@[simp] theorem cvStep_counters (measured : Int) (s : State) : (cvStep measured s).icn.counters = s.icn.counters := by
  unfold cvStep
  dsimp only
  repeat' split
  all_goals simp

@[simp] theorem balanceStep_counters (s : State) : (balanceStep s).icn.counters = s.icn.counters := by
  unfold balanceStep
  dsimp only
  split <;> simp

@[simp] theorem stateStep_counters (measured : Int) (s : State) :
    (stateStep measured s).icn.counters = s.icn.counters := by
  unfold stateStep
  repeat' split
  all_goals simp

@[simp] theorem suspendStep_counters (s : State) : (suspendStep s).icn.counters = s.icn.counters := by
  simp [suspendStep]

@[simp] theorem stageTest_counters (measured : Int) (s : State) :
    (stageTest measured s).icn.counters = s.icn.counters := by
  unfold stageTest
  dsimp only
  repeat' split
  all_goals simp

@[simp] theorem chargeScan_counters (s : State) : (chargeScan s).icn.counters = s.icn.counters := by
  unfold chargeScan
  dsimp only
  repeat' split
  all_goals simp

@[simp] theorem dockChanged_counters (old : DockState) (cause : DockCause) (s : State) :
    (dockChanged old cause s).icn.counters = s.icn.counters := by simp [dockChanged, raiseDockNotice]

@[simp] theorem grantChanged_counters (before : Nat) (cause : DockCause) (s : State) :
    (grantChanged before cause s).icn.counters = s.icn.counters := by
  unfold grantChanged
  split <;> simp [raiseDockNotice]

@[simp] theorem enterGreeting_counters (cause : DockCause) (s : State) :
    (enterGreeting cause s).icn.counters = s.icn.counters := by simp [enterGreeting]

@[simp] theorem enterLost_counters (s : State) : (enterLost s).icn.counters = s.icn.counters := by simp [enterLost]

@[simp] theorem enterActive_counters (grant : Nat) (released : Bool) (cause : DockCause) (s : State) :
    (enterActive grant released cause s).icn.counters = s.icn.counters := by simp [enterActive]

@[simp] theorem endUnanswered_counters (s : State) : (endUnanswered s).icn.counters = s.icn.counters := by
  unfold endUnanswered
  dsimp only
  repeat' split
  all_goals simp

@[simp] theorem attemptUnanswered_counters (e : Exchange) (s : State) :
    (attemptUnanswered e s).icn.counters = s.icn.counters := by
  unfold attemptUnanswered
  split <;> simp

@[simp] theorem receptionEnded_counters (s : State) : (receptionEnded s).icn.counters = s.icn.counters := by
  unfold receptionEnded
  repeat' split
  all_goals simp

@[simp] theorem ovEvents_counters (l : List Nat) (s : State) :
    (l.foldl (fun s i => ovEvent i s) s).icn.counters = s.icn.counters := by
  have one (cell : Nat) (t : State) : (ovEvent cell t).icn.counters = t.icn.counters := by
    unfold ovEvent
    dsimp only
    split <;> simp [raisePackNotice]
  induction l generalizing s with
  | nil => rfl
  | cons _ l ih => simp [ih, one]

@[simp] theorem judgeRelease_counters (s : State) : (judgeRelease s).icn.counters = s.icn.counters := by
  unfold judgeRelease
  split <;> simp

@[simp] theorem judgePackState_counters (s : State) : (judgePackState s).icn.counters = s.icn.counters := by
  unfold judgePackState
  dsimp only
  repeat' split
  all_goals simp [changePackState, raisePackNotice]

@[simp] theorem writeOpticalMode_counters (m : OpticalMode) (s : State) :
    (writeOpticalMode m s).icn.counters = s.icn.counters := by
  unfold writeOpticalMode
  dsimp only
  repeat' split
  all_goals simp

@[simp] theorem expirePrecharge_counters (s : State) : (expirePrecharge s).icn.counters = s.icn.counters := by
  unfold expirePrecharge
  split <;> simp

@[simp] theorem expireCharge_counters (s : State) : (expireCharge s).icn.counters = s.icn.counters := by
  unfold expireCharge
  split <;> simp

@[simp] theorem expireBalance_counters (s : State) : (expireBalance s).icn.counters = s.icn.counters := by
  unfold expireBalance
  split <;> simp

@[simp] theorem writePrechargeTimeout_counters (v : Nat) (s : State) :
    (writePrechargeTimeout v s).icn.counters = s.icn.counters := by simp [writePrechargeTimeout]

@[simp] theorem writeChargeTimeout_counters (v : Nat) (s : State) :
    (writeChargeTimeout v s).icn.counters = s.icn.counters := by simp [writeChargeTimeout]

@[simp] theorem writeBalanceTimeout_counters (v : Nat) (s : State) :
    (writeBalanceTimeout v s).icn.counters = s.icn.counters := by simp [writeBalanceTimeout]

@[simp] theorem clearPendingReach_counters (s : State) : (clearPendingReach s).icn.counters = s.icn.counters := rfl

end Sys2Proof.Proofs

namespace Sys2Proof.Proofs

open Sys2Proof.Machine Sys2Proof.Safety

/-! ### The Motor Drive's counts and lists (2) -/

theorem appendPeriod_length_le (p : Nat) (l : List Nat) : (appendPeriod p l).length ≤ 6 := by
  simp only [appendPeriod, List.length_drop]
  omega

theorem sectorNamed_le (phase : Phase) (rising : Bool) : sectorNamed phase rising ≤ 5 := by
  cases phase <;> cases rising <;> decide

theorem rampSector_le (angle : BitVec 16) : rampSector angle ≤ 5 := by
  have := angle.isLt
  unfold rampSector
  omega

/-- The entry to a state leaves every count in its range (R29 to R40). -/
theorem enteredMdr_inRange {m : Mdr} (h : MotorInRange m) (new : MotorState) (pend : Bool) :
    MotorInRange (enteredMdr new pend m) := by
  obtain ⟨sector, named, periods, crossings, misses, attempts, restarts, derate, gates⟩ := h
  cases new with
  | off => exact ⟨sector, named, Nat.zero_le 6, crossings, misses, Nat.zero_le 3, restarts, derate, nofun⟩
  | precheck => exact ⟨sector, nofun, Nat.zero_le 6, Nat.zero_le 12, misses, attempts, restarts, derate, nofun⟩
  | align => exact ⟨sector, named, periods, crossings, misses, attempts, restarts, derate, by rintro g ⟨⟩; decide⟩
  | ramp =>
    exact ⟨Nat.zero_le 5, named, periods, crossings, misses, attempts, restarts, derate, by rintro g ⟨⟩; decide⟩
  | handover => exact ⟨sector, named, periods, crossings, Nat.zero_le 6, attempts, restarts, derate, gates⟩
  | run => exact ⟨sector, named, periods, crossings, Nat.zero_le 6, Nat.zero_le 3, restarts, derate, gates⟩
  | catching => exact ⟨sector, nofun, Nat.zero_le 6, Nat.zero_le 12, misses, attempts, restarts, derate, nofun⟩
  | coast => exact ⟨sector, nofun, periods, Nat.zero_le 12, Nat.zero_le 6, attempts, restarts, derate, nofun⟩
  | restartWait => exact ⟨sector, named, periods, crossings, misses, attempts, restarts, derate, nofun⟩
  | tripped => exact ⟨sector, named, Nat.zero_le 6, crossings, misses, Nat.zero_le 3, Nat.zero_le 2, derate, nofun⟩

theorem startSequence_inRange {m : Mdr} (h : MotorInRange m) {sector : Nat} (name : sector ≤ 5) :
    MotorInRange (startSequence sector m) := by
  obtain ⟨present, -, periods, -, rest⟩ := h
  exact ⟨present, by rintro n ⟨⟩; exact name, periods, (by decide : 1 ≤ 12), rest⟩

/-- A crossing with the gates off counts at most to twelve and names one of the six sectors (R25). -/
theorem observeCrossing_inRange {m : Mdr} (h : MotorInRange m) {sector : Nat} (name : sector ≤ 5) (t : Nat) :
    MotorInRange (observeCrossing sector t m) := by
  unfold observeCrossing
  split
  · obtain ⟨present, -, -, -, rest⟩ := h
    exact ⟨present, by rintro n ⟨⟩; exact name, appendPeriod_length_le .., Nat.min_le_left .., rest⟩
  · exact startSequence_inRange h name

/-- A new sequence of CATCH counts from 0 (R37). -/
theorem restartCatch_inRange {m : Mdr} (h : MotorInRange m) : MotorInRange (restartCatch m) := by
  obtain ⟨sector, -, periods, -, rest⟩ := h
  exact ⟨sector, nofun, periods, Nat.zero_le 12, rest⟩

/-- A commutation goes on to one of the six sectors (R26). -/
theorem commutated_inRange {m : Mdr} (h : MotorInRange m) (blankFrac period : Nat) :
    MotorInRange (commutated blankFrac period m) := by
  obtain ⟨-, named, -, crossings, misses, attempts, restarts, derate, -⟩ := h
  have next : (m.sector + 1) % 6 ≤ 5 := by omega
  exact ⟨next, named, appendPeriod_length_le .., crossings, misses, attempts, restarts, derate,
    by rintro g ⟨⟩; exact next⟩

/-- A ramp tick drives the sector of the ramp angle (R31, R32). -/
theorem rampTicked_inRange {m : Mdr} (h : MotorInRange m) (blankFrac : Nat) :
    MotorInRange (rampTicked blankFrac m) := by
  obtain ⟨sector, named, periods, crossings, misses, attempts, restarts, derate, gates⟩ := h
  unfold rampTicked
  dsimp only
  split
  · exact ⟨sector, named, periods, crossings, misses, attempts, restarts, derate, gates⟩
  · have turned := rampSector_le (m.rampAngle + m.rampInc)
    have counted : (if m.seen then m.crossings else 0) ≤ 12 := by split <;> omega
    exact ⟨turned, named, appendPeriod_length_le .., counted, misses, attempts, restarts, derate,
      by rintro g ⟨⟩; exact turned⟩

/-- The derate current is at most the whole current (R42). -/
theorem derateCurrent_le (p : MotorPar) (t : Int) : derateCurrent p t ≤ 35000 := by
  unfold derateCurrent
  split
  · exact le_rfl
  · split
    · next warm hot =>
      have share : (35000 * (p.invCut - t)).tdiv (p.invCut - p.invDerateStart) ≤ 35000 := by
        rw [Int.tdiv_eq_ediv_of_nonneg (by omega)]
        exact Int.ediv_le_of_le_mul (by omega) (by omega)
      omega
    · exact Nat.zero_le _

/-- The restart history keeps the entries it has, and no more (R39). -/
theorem agedRestarts_length_le (now : Uptime) (l : List Uptime) : (agedRestarts now l).length ≤ l.length :=
  List.length_filter_le ..

/-! ### The band entries (4.1) -/

theorem four_get_put {α : Type} (v : Four α) (i j : Nat) (a : α) : (v.put i a).get j = a ∨ (v.put i a).get j = v.get j := by
  unfold Four.put Four.get
  repeat' split
  all_goals simp

/-- The sixteen bands are all the entries there are (R60). -/
theorem bands_iff (t : Sbt) : (∀ i < 16, BandInRange (bandAt t i)) ↔ ∀ i j, BandInRange ((t.bands.get i).get j) := by
  refine ⟨fun h i j => ?_, fun h i _ => h _ _⟩
  have capped {α : Type} (v : Four α) (i : Nat) : v.get i = v.get (min i 3) := by
    rcases i with _ | _ | _ | i
    all_goals simp [Four.get]
  have entry := h (4 * min i 3 + min j 3) (by omega)
  rwa [bandAt, show (4 * min i 3 + min j 3) / 4 = min i 3 by omega,
    show (4 * min i 3 + min j 3) % 4 = min j 3 by omega, ← capped, ← capped] at entry

/-- A write of one entry with values in range leaves the table in range. -/
theorem bands_put {t : Sbt} (h : ∀ i < 16, BandInRange (bandAt t i)) (b : Nat) {e : Band} (entry : BandInRange e) :
    ∀ i < 16, BandInRange (bandAt (putBand t b e) i) := by
  rw [bands_iff] at h ⊢
  intro i j
  rcases four_get_put t.bands (b / 4) i ((t.bands.get (b / 4)).put (b % 4) e) with row | row
  · rw [putBand, row]
    rcases four_get_put (t.bands.get (b / 4)) (b % 4) j e with same | other
    · rwa [same]
    · rw [other]; exact h ..
  · rw [putBand, row]
    exact h i j

theorem putBand_inRange {s : State} (h : TableInRange s) (b : Nat) {e : Band} (entry : BandInRange e) :
    TableInRange (s.setSbt (putBand s.sbt b e)) := by
  obtain ⟨bands, served, fixed⟩ := h
  exact ⟨bands_put bands b entry, served, fixed⟩

theorem bandIndex_lt (speed : Nat) : bandIndex speed < 16 := by
  unfold bandIndex
  omega

/-- The advance served is an entry's or the fixed one (R63). -/
theorem advanceFor_le {s : State} (h : TableInRange s) (speed : Nat) : advanceFor s speed ≤ 60 := by
  obtain ⟨bands, -, fixed⟩ := h
  unfold advanceFor
  dsimp only
  split
  · exact (bands _ (bandIndex_lt speed)).1
  · exact fixed

/-- A sample learned leaves the entry in its ranges (R66 to R68). -/
theorem learnedBand_inRange {e : Band} (h : BandInRange e) (x : Sample) {served : Nat} (k : served ≤ 60) (clear : Bool) :
    BandInRange (learnedBand x served clear e) := by
  obtain ⟨advance, load, samples, steps⟩ := h
  refine ⟨?_, ?_, Nat.min_le_left .., ?_⟩
  · simp only [learnedBand]
    repeat' split
    all_goals omega
  · intro l learned
    simp only [learnedBand] at learned
    split at learned
    · cases learned
      split
      · exact Nat.min_le_left ..
      · exact (clampNat_range 0 40000 _ (by omega)).2
    · exact load l learned
  · simp only [learnedBand]
    repeat' split
    all_goals omega

theorem writtenBand_inRange {advance load : Nat} (h : advance ≤ 60) (k : load ≤ 40000) {e : Band} (old : BandInRange e)
    (adv valid : Bool) : BandInRange (writtenBand advance load adv valid e) := by
  obtain ⟨-, -, samples, -⟩ := old
  refine ⟨h, ?_, ?_, Nat.zero_le _⟩
  · rintro l ⟨⟩
    exact k
  · simp only [writtenBand]
    split <;> omega

/-! ### The optical channel (R85, R87) -/

/-- What O60 asks of the optical channel under a mode. -/
def OpticalHeld (mode : OpticalMode) (d : Dse) : Prop :=
  (d.optical = .off ↔ mode = .forceOff) ∧ (d.optical = .killed → mode = .auto) ∧ d.working ≤ 63

theorem OpticalHeld.working {mode : OpticalMode} {d : Dse} (h : OpticalHeld mode d) : d.working ≤ 63 := h.2.2

/-- The channel in another state than OFF and KILLED, where no mode but FORCE_OFF forbids it. -/
theorem OpticalHeld.of_open {mode : OpticalMode} {d : Dse} (on : mode ≠ .forceOff) (off : d.optical ≠ .off)
    (killed : d.optical ≠ .killed) (working : d.working ≤ 63) : OpticalHeld mode d :=
  ⟨iff_of_false off on, fun k => absurd k killed, working⟩

/-- The channel stands, or moves to another state than OFF and KILLED from one that is not OFF. -/
theorem OpticalHeld.moved {mode : OpticalMode} {d e : Dse} (h : OpticalHeld mode d) (working : e.working ≤ 63)
    (state : e.optical = d.optical ∨ (d.optical ≠ .off ∧ e.optical ≠ .off ∧ e.optical ≠ .killed)) :
    OpticalHeld mode e := by
  obtain ⟨off, killed, -⟩ := h
  rcases state with same | ⟨on, off', killed'⟩
  · exact ⟨same ▸ off, same ▸ killed, working⟩
  · exact .of_open (mt off.2 on) off' killed' working

/-- The channel entering SETTLE from another state than OFF (R82). -/
theorem OpticalHeld.settled {mode : OpticalMode} {d : Dse} (h : OpticalHeld mode d) (on : d.optical ≠ .off) :
    OpticalHeld mode (enterSettle d) := h.moved h.working (.inr ⟨on, by simp [enterSettle], by simp [enterSettle]⟩)

/-- The channel stopped with RUN is IDLE, or stays OFF (R77). -/
theorem OpticalHeld.stopped {mode : OpticalMode} {d : Dse} (h : OpticalHeld mode d) : OpticalHeld mode (stoppedDse d) := by
  refine h.moved h.working ?_
  by_cases off : d.optical = .off
  · exact .inl (by simp [stoppedDse, off])
  · exact .inr ⟨off, by simp [stoppedDse, off], by simp [stoppedDse, off]⟩

/-- The AGC keeps the working current between 0 and 63 (R84). -/
theorem agcCurrent_le (p : DirtPar) (b : Nat) {w : Nat} (h : w ≤ 63) : agcCurrent p b w ≤ 63 := by
  unfold agcCurrent
  repeat' split
  all_goals omega

/-- A window end leaves the channel under its mode, and its working current in range (R82 to R86). -/
theorem opticalMoved_held {p : DirtPar} {d : Dse} (h : OpticalHeld p.mode d) (a : Nat) :
    OpticalHeld p.mode (opticalMoved p a d) := by
  have working := OpticalHeld.working h
  by_cases settle : d.optical = .settle
  · rw [opticalMoved_settle settle]
    split
    · exact h
    · exact h.moved working (.inr ⟨by simp [settle], by simp, by simp⟩)
  by_cases killed : d.optical = .killed
  · rw [opticalMoved_killed killed]
    repeat' split
    · exact h
    · exact h
    · exact h.moved le_rfl (.inr ⟨by simp [killed], by simp, by simp⟩)
  by_cases track : d.optical = .track
  · have stepped := agcCurrent_le p (trackedBaseline p d.baseline a) working
    rw [opticalMoved_track track]
    dsimp only
    repeat' split
    · exact h.moved stepped (.inr ⟨by simp [track], by simp, by simp⟩)
    · exact h.moved stepped (.inl rfl)
    · next auto _ _ => exact ⟨by simpa [track] using h.1, fun _ => not_not.1 auto, stepped⟩
    · exact h.moved stepped (.inl rfl)
    · exact h.moved stepped (.inl rfl)
  · rwa [opticalMoved_still settle killed track]

/-- The five steps of a window end leave the optical channel under its mode (R80, R82 to R86). -/
theorem windowSteps_held {s : State} (h : OpticalSound s) (w : DirtWindow) (amplitude level : Nat) (signal : List Nat) :
    OpticalHeld s.dirtPar.mode (windowSteps w amplitude level signal s).dse := by
  obtain ⟨_, _, steps⟩ := windowSteps_dse w amplitude level signal s
  have held := opticalMoved_held (p := s.dirtPar) h (min amplitude 4095)
  rw [steps]
  exact held

/-- The mode and the channel after a change of optical_mode (R87). -/
theorem writeOpticalMode_optical {m : OpticalMode} {s : State} (h : m ≠ s.dirtPar.mode) :
    let t := writeOpticalMode m s
    t.dirtPar.mode = m ∧ t.dse.working = s.dse.working ∧ t.dse.optical =
      if m = .forceOff then .off
      else if s.dse.optical = .killed then .settle
      else if s.dse.optical = .off then (if s.dse.window.isSome then .settle else .idle)
      else s.dse.optical := by
  unfold writeOpticalMode
  simp only [if_neg h, State.setDirtPar_dse]
  split
  case h_1 => simp
  case h_2 => simp
  case h_3 killed on => simpa [enterSettle, killed] using on
  case h_4 off _ => split <;> simp [enterSettle, *]
  case h_5 on killed off _ => exact ⟨rfl, rfl, by rw [if_neg on, if_neg killed, if_neg off]; rfl⟩

/-- A write of optical_mode leaves the channel under the mode written (R87). -/
theorem writeOpticalMode_sound {s : State} (h : OpticalSound s) (m : OpticalMode) :
    OpticalSound (writeOpticalMode m s) := by
  by_cases same : m = s.dirtPar.mode
  · rwa [writeOpticalMode, if_pos same]
  obtain ⟨mode, current, optical⟩ := writeOpticalMode_optical same
  have working : (writeOpticalMode m s).dse.working ≤ 63 := current ▸ OpticalHeld.working h
  by_cases forced : m = .forceOff
  · rw [if_pos forced] at optical
    exact ⟨iff_of_true optical (mode.trans forced), fun killed => by simp [optical] at killed, working⟩
  · rw [if_neg forced] at optical
    refine OpticalHeld.of_open (fun k => forced (mode.symm.trans k)) ?_ ?_ working
    all_goals
      rw [optical]
      repeat' split
      all_goals simp [*]

/-- A write of emitter_current moves the working current, and the channel at most to SETTLE (R88). -/
theorem writeEmitter_sound {s : State} (h : OpticalSound s) {v : Nat} (range : v ≤ 63) :
    OpticalSound (writeEmitter v s) := by
  unfold writeEmitter
  dsimp only
  repeat' split
  · exact h
  · next settle => exact OpticalHeld.moved h range (.inr ⟨by simp_all, by simp [enterSettle], by simp [enterSettle]⟩)
  · next track => exact OpticalHeld.moved h range (.inr ⟨by simp_all, by simp [enterSettle], by simp [enterSettle]⟩)
  · exact OpticalHeld.moved h range (.inl rfl)

/-- A write of emitter_carrier moves the channel at most to SETTLE (R88). -/
theorem writeCarrier_sound {s : State} (h : OpticalSound s) (v : Nat) : OpticalSound (writeCarrier v s) := by
  have working := OpticalHeld.working h
  unfold writeCarrier
  dsimp only
  repeat' split
  · exact h
  · exact OpticalHeld.moved h working (.inr ⟨by simp_all, by simp [enterSettle], by simp [enterSettle]⟩)
  · exact OpticalHeld.moved h working (.inr ⟨by simp_all, by simp [enterSettle], by simp [enterSettle]⟩)
  · exact OpticalHeld.moved h working (.inl rfl)

/-! ### The counters' records (10.1) -/

/-- A counter's value and threshold lie within 32 bits, and its tick residue below a ms (10.1). -/
def CounterInRange (c : Counter) : Prop := c.value ≤ 4294967295 ∧ c.threshold ≤ 4294967295 ∧ c.residue < 8000

theorem countersInRange_iff (i : Icn) : CountersInRange i ↔ ∀ j, CounterInRange (i.counters.get j) := by
  simp only [CountersInRange, Four.toList, List.forall_mem_cons, List.not_mem_nil, false_implies, implies_true, and_true]
  refine ⟨fun ⟨first, second, third, fourth⟩ j => ?_, fun h => ⟨h 0, h 1, h 2, h 3⟩⟩
  rcases j with _ | _ | _ | j
  · exact first
  · exact second
  · exact third
  · exact fourth

theorem counter_inRange {i : Icn} (h : CountersInRange i) (j : Nat) : CounterInRange (i.counters.get j) :=
  (countersInRange_iff i).1 h j

/-- The records may change together where each keeps its ranges. -/
theorem countersInRange_map {i : Icn} (h : CountersInRange i) {f : Counter → Counter}
    (k : ∀ c, CounterInRange c → CounterInRange (f c)) (p : Four Bool) :
    CountersInRange { counters := i.counters.map f, pending := p } := by
  simp only [CountersInRange, Four.toList, Four.map, List.forall_mem_cons] at h ⊢
  obtain ⟨first, second, third, fourth, none⟩ := h
  exact ⟨k _ first, k _ second, k _ third, k _ fourth, none⟩

theorem putCounter_inRange {s : State} (h : CountersInRange s.icn) (i : Nat) {c : Counter} (k : CounterInRange c) :
    CountersInRange (putCounter i c s).icn := by
  rw [countersInRange_iff] at h ⊢
  intro j
  rcases four_get_put s.icn.counters i j c with same | other
  · simp only [putCounter, State.setIcn_icn, same]
    exact k
  · simp only [putCounter, State.setIcn_icn, other]
    exact h j

theorem countersInRange_congr {i j : Icn} (h : j.counters = i.counters) (k : CountersInRange i) : CountersInRange j := by
  rwa [CountersInRange, h]

theorem startWaiting_inRange {judge : Nat → State → State}
    (h : ∀ j t, CountersInRange t.icn → CountersInRange (judge j t).icn) (i j : Nat) {s : State}
    (k : CountersInRange s.icn) : CountersInRange (startWaiting judge i j s).icn := by
  have started := putCounter_inRange k j (c := { s.icn.counters.get j with state := .counting }) (counter_inRange k j)
  unfold startWaiting
  dsimp only
  repeat' split
  · exact h _ _ started
  · exact started
  · exact k

/-- A reach moves flags and states alone (R160). -/
theorem reach_inRange (fuel i : Nat) {s : State} (h : CountersInRange s.icn) : CountersInRange (reach fuel i s).icn := by
  induction fuel generalizing i s with
  | zero => exact h
  | succ n ih =>
    have reached := putCounter_inRange h i (c := reachedCounter (s.icn.counters.get i)) (counter_inRange h i)
    have first := countersInRange_congr (notifyReach_counters i _) reached
    have start (j : Nat) {t : State} (k : CountersInRange t.icn) :
        CountersInRange (startWaiting (reach n) i j t).icn := startWaiting_inRange (fun j t => ih j) i j k
    exact start 3 (start 2 (start 1 (start 0 first)))

theorem judgeReach_inRange (i : Nat) {s : State} (h : CountersInRange s.icn) : CountersInRange (judgeReach i s).icn := by
  unfold judgeReach
  split
  · exact reach_inRange 5 i h
  · exact h

/-- An addition saturates, and carries whole ms alone (R159). -/
theorem addEvent_inRange (amounts : List (CounterSource × CountAmount)) {c : Counter} (h : CounterInRange c) :
    CounterInRange (addEvent amounts c).1 := by
  obtain ⟨value, threshold, residue⟩ := h
  unfold addEvent addToCounter
  dsimp only
  repeat' split
  · exact ⟨Nat.min_le_left .., threshold, residue⟩
  · exact ⟨Nat.min_le_left .., threshold, Nat.mod_lt _ (by decide)⟩
  · exact ⟨value, threshold, residue⟩
  · exact ⟨value, threshold, residue⟩

theorem countEvents_inRange (amounts : List (CounterSource × CountAmount)) {s : State} (h : CountersInRange s.icn) :
    CountersInRange (countEvents amounts s).icn := by
  have added : CountersInRange
      (s.setIcn { s.icn with counters := (s.icn.counters.map (addEvent amounts)).map Prod.fst }).icn :=
    countersInRange_map h (f := fun c => (addEvent amounts c).1) (fun _ => addEvent_inRange amounts) s.icn.pending
  have judged (i : Nat) (b : Bool) {t : State} (k : CountersInRange t.icn) :
      CountersInRange (if b then judgeReach i t else t).icn := by
    split
    · exact judgeReach_inRange i k
    · exact k
  exact judged 3 _ (judged 2 _ (judged 1 _ (judged 0 _ added)))

/-- An evacuation clears (R161). -/
theorem clearOnEvacuation_inRange {s : State} (h : CountersInRange s.icn) : CountersInRange (clearOnEvacuation s).icn := by
  refine countersInRange_map h (fun c ⟨value, threshold, residue⟩ => ?_) s.icn.pending
  unfold evacuatedCounter
  split
  · exact ⟨Nat.zero_le _, threshold, Nat.zero_lt_succ _⟩
  · exact ⟨value, threshold, residue⟩

/-- A record set up counts from 0 toward a threshold of 32 bits (R162). -/
theorem setupCounter_inRange (source : CounterSource) (threshold : BitVec 32) (options : Byte) (start : Option Nat) :
    CounterInRange (setupCounter source threshold.toNat options start) :=
  ⟨Nat.zero_le _, Nat.le_of_lt_succ threshold.isLt, Nat.zero_lt_succ _⟩

/-- An adjust saturates (R163). -/
theorem adjustedCounter_inRange (delta : Int) {c : Counter} (h : CounterInRange c) :
    CounterInRange (adjustedCounter delta c) := by
  obtain ⟨-, threshold, residue⟩ := h
  exact ⟨(clampNat_range 0 counterMax _ (Nat.zero_le _)).2, threshold, residue⟩

end Sys2Proof.Proofs

namespace Sys2Proof.Proofs

open Sys2Proof.Machine Sys2Proof.Safety

/-! ### A part of a step -/

/-- What O60's ranges are read off. -/
structure Ranged where
  mdr : Mdr
  sbt : Sbt
  fixedAdvance : Nat
  dse : Dse
  mode : OpticalMode
  counters : Four Counter

def ranged (s : State) : Ranged :=
  { mdr := s.mdr, sbt := s.sbt, fixedAdvance := s.motorPar.fixedAdvance, dse := s.dse, mode := s.dirtPar.mode
    counters := s.icn.counters }

/-- What O60 asks of a part of a step: each of the four ranges is kept by itself. -/
structure KeepsRanges (s t : State) : Prop where
  motor : MotorInRange s.mdr → MotorInRange t.mdr
  table : TableInRange s → TableInRange t
  optical : OpticalSound s → OpticalSound t
  counters : CountersInRange s.icn → CountersInRange t.icn

namespace KeepsRanges

theorem refl (s : State) : KeepsRanges s s := ⟨id, id, id, id⟩

theorem trans {s t u : State} (h : KeepsRanges s t) (k : KeepsRanges t u) : KeepsRanges s u :=
  ⟨k.motor ∘ h.motor, k.table ∘ h.table, k.optical ∘ h.optical, k.counters ∘ h.counters⟩

/-- A part of a step that leaves everything the ranges are read off alone. -/
theorem of_frame {s t : State} (h : ranged t = ranged s) : KeepsRanges s t := by
  obtain ⟨mdr, sbt, fixed, dse, mode, counters⟩ := Ranged.mk.inj h
  refine ⟨fun k => mdr ▸ k, fun k => ?_, fun k => ?_, countersInRange_congr counters⟩
  · rwa [TableInRange, sbt, fixed]
  · rwa [OpticalSound, dse, mode]

/-- A part of a step that counts, and leaves the other ranges alone. -/
theorem of_counting {s t : State}
    (h : t.mdr = s.mdr ∧ t.sbt = s.sbt ∧ t.dse = s.dse ∧ t.motorPar = s.motorPar ∧ t.dirtPar = s.dirtPar)
    (k : CountersInRange s.icn → CountersInRange t.icn) : KeepsRanges s t := by
  obtain ⟨mdr, sbt, dse, motorPar, dirtPar⟩ := h
  exact ⟨fun i => mdr ▸ i, fun i => by rwa [TableInRange, sbt, motorPar], fun i => by rwa [OpticalSound, dse, dirtPar], k⟩

/-- A write of the Motor Drive that keeps its counts in range. -/
theorem of_mdr {s : State} {m : Mdr} (h : MotorInRange s.mdr → MotorInRange m) : KeepsRanges s (s.setMdr m) :=
  ⟨h, id, id, id⟩

/-- A write of the table that keeps it in range. -/
theorem of_sbt {s : State} {b : Sbt} (h : TableInRange s → TableInRange (s.setSbt b)) : KeepsRanges s (s.setSbt b) :=
  ⟨id, h, id, id⟩

/-- A write of the engine that keeps its channel under the mode. -/
theorem of_dse {s : State} {d : Dse} (h : OpticalSound s → OpticalHeld s.dirtPar.mode d) : KeepsRanges s (s.setDse d) :=
  ⟨id, id, h, id⟩

/-- A part of a step followed by one that leaves everything the ranges are read off alone. -/
theorem framed {s t u : State} (h : KeepsRanges s t) (k : ranged u = ranged t) : KeepsRanges s u := h.trans (.of_frame k)

/-- A part of a step that acts where its moment has come, and is void otherwise. -/
theorem ite {s t : State} (c : Prop) [Decidable c] (h : c → KeepsRanges s t) :
    KeepsRanges s (if c then t else s) := by
  split
  · next k => exact h k
  · exact .refl s

end KeepsRanges

/-! ### Counting and the dirt windows -/

theorem countEvents_keepsRanges (amounts : List (CounterSource × CountAmount)) (s : State) :
    KeepsRanges s (countEvents amounts s) := .of_counting (by simp) (countEvents_inRange amounts)

theorem dirtWindowEnd_keepsRanges (w : DirtWindow) (amplitude level : Nat) (signal : List Nat) (s : State) :
    KeepsRanges s (dirtWindowEnd w amplitude level signal s) := by
  have ended : KeepsRanges s (windowSteps w amplitude level signal s) :=
    ⟨fun h => by simpa using h, fun h => by simpa [TableInRange] using h,
      fun h => by simpa [OpticalSound, OpticalHeld] using windowSteps_held h w amplitude level signal,
      countersInRange_congr (windowSteps_counters ..)⟩
  have begun (t : State) : KeepsRanges t (beginWindow t) := .of_dse fun h => h
  unfold dirtWindowEnd
  exact ((ended.framed (by simp [ranged])).trans (countEvents_keepsRanges _ _)).trans (begun _)

theorem deliverDse_keepsRanges (old new : MotorState) (s : State) : KeepsRanges s (deliverDse old new s) := by
  have begun (t : State) : KeepsRanges t (beginWindow t) := .of_dse fun h => h
  unfold deliverDse dirtEnterRun
  repeat' split
  · exact begun s
  · next on => exact KeepsRanges.trans (.of_dse fun h => OpticalHeld.settled h on) (begun _)
  · have left : KeepsRanges s (s.setDse (stoppedDse s.dse)) := .of_dse OpticalHeld.stopped
    exact left.framed (by simp [ranged, dirtLeaveRun_dse])
  · exact .refl s

/-! ### A change of motor state (R23) -/

theorem deliverIcn_keepsRanges (new : MotorState) (s : State) : KeepsRanges s (deliverIcn new s) := by
  unfold deliverIcn
  split
  · exact countEvents_keepsRanges _ s
  · exact countEvents_keepsRanges _ s
  · exact .refl s

theorem motorTo_keepsRanges (new : MotorState) (cause : MotorCause) (pend : Bool) (s : State) :
    KeepsRanges s (motorTo new cause pend s) := by
  have entered : KeepsRanges s (s.setMdr (enteredMdr new pend s.mdr)) := .of_mdr fun h => enteredMdr_inRange h new pend
  have reported (n : Notice) (t : State) : KeepsRanges t (raise n t) := .of_frame (by simp [ranged])
  have resolved (t : State) : KeepsRanges t (deliverDrs new t) := by
    unfold deliverDrs
    exact .ite _ fun _ => .of_frame (by simp [ranged])
  have regulated (t : State) : KeepsRanges t (deliverSrg new t) := .of_frame (by simp [ranged])
  have watched (old : MotorState) (t : State) : KeepsRanges t (deliverBlm old new t) := by
    unfold deliverBlm
    repeat' split
    all_goals exact .of_frame (by simp [ranged])
  have judged (t : State) : KeepsRanges t (judgeQualify (deliverPkm new t)) := .of_frame (by simp [ranged])
  have timed (t : State) : KeepsRanges t (deliverSlc t) := .of_frame (by simp [ranged])
  exact (((((((entered.trans (reported _ _)).trans (resolved _)).trans (regulated _)).trans (watched _ _)).trans
    (deliverDse_keepsRanges ..)).trans (judged _)).trans (deliverIcn_keepsRanges new _)).trans (timed _)

end Sys2Proof.Proofs

namespace Sys2Proof.Proofs

open Sys2Proof.Machine Sys2Proof.Safety

/-- A part of a step that ends in a change of motor state. -/
theorem KeepsRanges.motorTo {s t : State} (h : KeepsRanges s t) (new : MotorState) (cause : MotorCause) (pend : Bool) :
    KeepsRanges s (motorTo new cause pend t) := h.trans (motorTo_keepsRanges ..)

/-! ### Run demand, trips and starts (R7, R24, R29 to R40, R165 to R172) -/

theorem demandRefresh_keepsRanges (s : State) : KeepsRanges s (demandRefresh s) := by
  have evaluated (b : Bool) : KeepsRanges s (evaluateAs b s) := .of_frame rfl
  unfold demandRefresh
  dsimp only
  split
  · exact .refl s
  · split
    · unfold demandRise
      repeat' split
      any_goals exact evaluated _
      all_goals exact (evaluated _).motorTo ..
    · unfold demandFall
      repeat' split
      · exact evaluated _
      · exact evaluated _
      · exact (evaluated _).trans (.of_mdr id)
      · exact (evaluated _).motorTo ..

/-- A part of a step that ends in a recomputation of run demand. -/
theorem KeepsRanges.refreshed {s t : State} (h : KeepsRanges s t) : KeepsRanges s (demandRefresh t) :=
  h.trans (demandRefresh_keepsRanges t)

theorem forcedStop_keepsRanges (s : State) : KeepsRanges s (forcedStop s) := KeepsRanges.refreshed (.of_frame rfl)

theorem noteRaise_keepsRanges (k : FaultKind) (d : Detail) (s : State) : KeepsRanges s (noteRaise k d s) :=
  .of_frame (by simp [ranged, noteRaise_counters])

theorem applyStop_keepsRanges (k : FaultKind) (d : Detail) (s : State) : KeepsRanges s (applyStop k d s) := by
  have filled : KeepsRanges s (s.setFmg { s.fmg with trip := some (tripRecordOf k d s) }) := .of_frame rfl
  unfold applyStop
  split
  · exact .refl s
  · exact (filled.motorTo .tripped .trip false).framed (by simp [ranged, trip])

/-- A part of a step that ends in a raise whose response is STOP. -/
theorem KeepsRanges.raised {s t : State} (h : KeepsRanges s t) (k : FaultKind) (d : Detail) :
    KeepsRanges s (raiseStop k d t) :=
  (h.trans (noteRaise_keepsRanges k d t)).trans (applyStop_keepsRanges k d _)

/-- A STOP taken with the motor running is the entry to TRIPPED (R168). -/
theorem raiseStop_mdr {s : State} (running : s.mdr.state ≠ .tripped) (k : FaultKind) (d : Detail) :
    (raiseStop k d s).mdr = enteredMdr .tripped false s.mdr := by
  rw [raiseStop_trips running]
  simp

/-- The trip that follows the third failed attempt sets the count back to 0 (R36). -/
theorem startFail_keepsRanges (cause : MotorCause) {s : State} (running : s.mdr.state ≠ .tripped) :
    KeepsRanges s (startFail cause s) := by
  unfold startFail
  dsimp only
  split
  · next few =>
    refine KeepsRanges.motorTo (.of_mdr fun h => ?_) ..
    obtain ⟨sector, named, periods, crossings, misses, -, restarts, derate, -⟩ := h
    exact ⟨sector, named, periods, crossings, misses, Nat.le_of_lt few, restarts, derate, nofun⟩
  · have failed := (KeepsRanges.refl (s.setMdr { gatesOff s.mdr with attempts := s.mdr.attempts + 1 })).raised
      .startFail (.cause cause)
    have stopped (n : Nat) :
        enteredMdr .tripped false { gatesOff s.mdr with attempts := n } = enteredMdr .tripped false s.mdr := rfl
    refine ⟨fun h => ?_, failed.table, failed.optical, failed.counters⟩
    rw [raiseStop_mdr (by exact running), State.setMdr_mdr, stopped]
    exact enteredMdr_inRange h .tripped false

theorem restartDecision_keepsRanges (d : Detail) (s : State) : KeepsRanges s (restartDecision d s) := by
  have aged {l : List Uptime} (short : s.mdr.restarts.length ≤ 2 → l.length ≤ 2) :
      KeepsRanges s (s.setMdr { s.mdr with restarts := l }) := by
    refine .of_mdr fun h => ?_
    obtain ⟨sector, named, periods, crossings, misses, attempts, restarts, rest⟩ := h
    exact ⟨sector, named, periods, crossings, misses, attempts, short restarts, rest⟩
  unfold restartDecision
  dsimp only
  split
  · exact (aged (agedRestarts_length_le ..).trans).trans (applyStop_keepsRanges ..)
  · next few =>
    have lost := aged (l := agedRestarts s.now s.mdr.restarts ++ [s.now]) fun _ => by
      rw [List.length_append, List.length_singleton]
      omega
    split
    · exact (lost.motorTo ..).motorTo ..
    · exact lost.motorTo ..

/-- The loss of sync clears the miss count, whatever it stood at (R27, R39). -/
theorem raiseSyncLoss_keepsRanges (n : Nat) (s : State) :
    KeepsRanges s (raiseSyncLoss (s.setMdr { s.mdr with misses := n })) := by
  have off : KeepsRanges s (s.setMdr { gatesOff s.mdr with misses := 0 }) := by
    refine .of_mdr fun h => ?_
    obtain ⟨sector, named, periods, crossings, -, attempts, restarts, derate, -⟩ := h
    exact ⟨sector, named, periods, crossings, Nat.zero_le 6, attempts, restarts, derate, nofun⟩
  have noted := off.trans (noteRaise_keepsRanges .syncLoss (.rpm s.mdr.speed) _)
  unfold raiseSyncLoss
  dsimp only
  split
  · exact noted.trans (applyStop_keepsRanges ..)
  · exact noted.trans (restartDecision_keepsRanges ..)

theorem precheckDecide_keepsRanges (tInv : Int) (s : State) : KeepsRanges s (precheckDecide tInv s) := by
  unfold precheckDecide
  repeat' split
  · exact (KeepsRanges.refl s).raised ..
  all_goals exact motorTo_keepsRanges ..

/-- A crossing scheduled looks up an advance in range (R26, R63). -/
theorem scheduleCrossing_keepsRanges (t d : Nat) (s : State) : KeepsRanges s (scheduleCrossing t d s) := by
  have looked : KeepsRanges s (lookupAdvance s).2 := .of_sbt fun h =>
    have ⟨bands, _, fixed⟩ := h
    ⟨bands, advanceFor_le h _, fixed⟩
  refine looked.trans (.of_mdr fun h => ?_)
  obtain ⟨sector, named, periods, crossings, -, rest⟩ := h
  exact ⟨sector, named, periods, crossings, Nat.zero_le 6, rest⟩

/-- The speed reported is no count. -/
theorem reported_keepsRanges (n : Nat) (s : State) : KeepsRanges s (s.setMdr { s.mdr with speed := n }) := .of_mdr id

theorem enterRun_keepsRanges (s : State) : KeepsRanges s (enterRun s) :=
  (motorTo_keepsRanges .run .inStep false s).trans (reported_keepsRanges ..)

theorem enterHandover_keepsRanges (t d : Nat) (s : State) : KeepsRanges s (enterHandover t d s) := by
  have entered := motorTo_keepsRanges .handover .locked false s
  unfold enterHandover
  generalize motorTo .handover .locked false s = u at entered ⊢
  have seeded (r : Srg) : KeepsRanges u (u.setSrg r) := .of_frame rfl
  exact ((entered.trans (seeded _)).trans (reported_keepsRanges ..)).trans (scheduleCrossing_keepsRanges ..)

theorem enterRunCaught_keepsRanges (s : State) : KeepsRanges s (enterRunCaught s) := by
  have seeded (r : Srg) : KeepsRanges s (s.setSrg r) := .of_frame rfl
  have present (n : Nat) (u : State) :
      KeepsRanges u (u.setMdr { u.mdr with sector := u.mdr.lastNamed.getD 0, ts := n }) := by
    refine .of_mdr fun ⟨_, named, rest⟩ => ⟨?_, named, rest⟩
    cases last : u.mdr.lastNamed with
    | none => exact Nat.zero_le 5
    | some n => exact named n last
  unfold enterRunCaught
  exact (((seeded _).trans (present _ _)).trans (enterRun_keepsRanges _)).trans (scheduleCrossing_keepsRanges ..)

theorem coastEnd_keepsRanges (cause : MotorCause) (s : State) : KeepsRanges s (coastEnd cause s) := by
  rw [coastEnd_eq]
  exact motorTo_keepsRanges ..

theorem clearTrip_keepsRanges (way : ClearWay) (s : State) : KeepsRanges s (clearTrip way s) := by
  have cleared : KeepsRanges s (s.setFmg { s.fmg with trip := none }) := .of_frame rfl
  exact (cleared.motorTo .off .tripClear false).framed (by simp [ranged, clearTrip])

/-! ### The timers of the Blockage Monitor (R71 to R75) -/

theorem enterBlocked_keepsRanges (s : State) : KeepsRanges s (enterBlocked s) := by
  have blocked : KeepsRanges s (setBlockage (blockedBlm s.blm) s) := .of_frame rfl
  have entered : KeepsRanges s (enteredBlocked s) :=
    (blocked.trans (countEvents_keepsRanges [(.blockages, .units 1)] _)).framed
      (by simp [ranged, enteredBlocked, raiseBlockageNotice, countEvent])
  rw [enterBlocked_eq]
  split
  · unfold raisePersist
    dsimp only
    split
    · exact entered.raised ..
    · exact entered.framed (by simp [ranged])
  · exact entered

theorem expireBlock_keepsRanges (s : State) : KeepsRanges s (expireBlock s) :=
  .ite _ fun _ => (enterBlocked_keepsRanges s).refreshed

/-! ### A revolution end (R46, R57, R64 to R68, R79) -/

theorem learnSample_keepsRanges (x : Sample) (s : State) : KeepsRanges s (learnSample x s) := by
  unfold learnSample
  dsimp only
  refine .ite _ fun _ => .of_sbt fun h => ?_
  rw [learnEntry_eq]
  obtain ⟨bands, served, -⟩ := id h
  exact putBand_inRange h _ (learnedBand_inRange (bands _ (bandIndex_lt _)) x served _)

theorem dirtSample_keepsRanges (speed : Nat) (s : State) : KeepsRanges s (dirtSample speed s) := by
  unfold dirtSample
  split
  · exact .of_dse fun h => h
  · exact .refl s

theorem deliverSample_keepsRanges (x : Sample) (s : State) : KeepsRanges s (deliverSample x s) := by
  have judged (r : Option Nat) (t : State) : KeepsRanges t (judgeSample x r t) := .of_frame (by simp [ranged])
  exact (((learnSample_keepsRanges x s).trans (judged _ _)).trans (dirtSample_keepsRanges _ _)).trans
    (countEvents_keepsRanges _ _)

theorem commutate_keepsRanges (period : Nat) (im : Int) (s : State) : KeepsRanges s (commutate period im s) := by
  have moved : KeepsRanges s (s.setMdr (commutated s.motorPar.blankFrac period s.mdr)) :=
    .of_mdr fun h => commutated_inRange h ..
  have counted (n : Nat) (t : State) : KeepsRanges t (t.setMdr { t.mdr with revCount := n }) := .of_mdr id
  have turned (t : State) : KeepsRanges t (turned im t) := ⟨id, id, id, id⟩
  unfold commutate
  dsimp only
  repeat' split
  · exact ((moved.trans (counted _ _)).trans (turned _)).trans (deliverSample_keepsRanges _ _)
  · exact moved.trans (counted _ _)
  · exact moved

end Sys2Proof.Proofs

namespace Sys2Proof.Proofs

open Sys2Proof.Machine Sys2Proof.Safety

/-! ### The Dock Link (chapter 9) -/

theorem takeAck_keepsRanges (status : AckStatus) (flag : Bool) (s : State) : KeepsRanges s (takeAck status flag s) := by
  have granted (before : Nat) (cause : DockCause) : KeepsRanges s (grantChanged before cause (s.setDlk (ackedDlk status s.dlk))) :=
    .of_frame (by simp [ranged])
  have cleared (t : State) : KeepsRanges t (clearOnEvacuation t) := .of_counting (by simp) clearOnEvacuation_inRange
  have evacuates (t : State) : KeepsRanges t (evacuated t) := KeepsRanges.trans (.of_frame (by simp [ranged])) (cleared _)
  exact (granted _ _).trans (.ite _ fun _ => evacuates _)

theorem actOnReply_keepsRanges (r : DockReply) (s : State) : KeepsRanges s (actOnReply r s) := by
  have active (grant : Nat) (released : Bool) (cause : DockCause) : KeepsRanges s (enterActive grant released cause s) :=
    .of_frame (by simp [ranged])
  unfold actOnReply
  repeat' split
  · exact .of_frame (by simp [ranged])
  · exact active ..
  · exact active ..
  · exact (active ..).trans (takeAck_keepsRanges ..)
  · exact .refl s
  · exact .of_frame (by simp [ranged])
  · exact takeAck_keepsRanges ..
  · exact .refl s

theorem dockFrameTaken_keepsRanges (bytes : List Byte) (s : State) : KeepsRanges s (dockFrameTaken bytes s) := by
  have linked (d : Dlk) (t : State) : KeepsRanges t (t.setDlk d) := .of_frame rfl
  have ended (t : State) : KeepsRanges t (receptionEnded t) := .of_frame (by simp [ranged])
  have answered (r : DockReply) (t : State) : KeepsRanges t (answerExchange r t) :=
    ((linked { t.dlk with exchange := none, misses := 0 } t).trans (actOnReply_keepsRanges r _)).framed
      (by simp [ranged, answerExchange])
  unfold dockFrameTaken
  dsimp only
  repeat' split
  · exact ((linked _ s).trans (linked _ _)).trans (ended _)
  · exact (linked _ s).trans (answered _ _)
  · exact (linked _ s).trans (ended _)
  · exact linked _ s

theorem dockArrival_keepsRanges (s : State) : KeepsRanges s (dockArrival s) := by
  have arrived : KeepsRanges s (s.setDlk (arrivedDlk s.dlk)) := .of_frame rfl
  exact (arrived.trans (forcedStop_keepsRanges _)).framed (by simp [ranged, dockArrival, raiseDockNotice])

theorem dockLoss_keepsRanges (s : State) : KeepsRanges s (dockLoss s) :=
  KeepsRanges.refreshed (.of_frame (by simp [ranged, raiseDockNotice]))

/-! ### Sleep and reset (chapter 13) -/

theorem enterSleep_keepsRanges (s : State) : KeepsRanges s (enterSleep s) := by
  have slept : KeepsRanges s (s.setSlc { s.slc with power := .sleep, idle := 0, entry := .none }) := .of_frame rfl
  exact (slept.trans (forcedStop_keepsRanges _)).framed (by simp [ranged, enterSleep])

theorem beginTransmission_keepsRanges (s : State) : KeepsRanges s (beginTransmission s) := .of_frame (by simp [ranged])

theorem wakeIfAsleep_keepsRanges (cause : WakeCause) (s : State) : KeepsRanges s (wakeIfAsleep cause s) := by
  unfold wakeIfAsleep wake
  exact .ite _ fun _ => .trans (.refreshed (.of_frame (by simp [ranged]))) (beginTransmission_keepsRanges _)

theorem contactRisen_keepsRanges (s : State) : KeepsRanges s (contactRisen s) := by
  have risen : KeepsRanges s (s.setDlk { s.dlk with contact := true, lossTimer := none }) := .of_frame rfl
  exact risen.trans (.ite _ fun _ => (wakeIfAsleep_keepsRanges ..).trans (dockArrival_keepsRanges _))

theorem startAtOnce_keepsRanges (s : State) : KeepsRanges s (startAtOnce s) := by
  have seen : KeepsRanges s (contactSeen s) := .ite _ fun _ => contactRisen_keepsRanges s
  exact seen.framed (by simp [ranged, startAtOnce])

theorem four_get_replicate {α : Type} (a : α) (i : Nat) : (Four.replicate a).get i = a := by
  unfold Four.get
  split <;> rfl

theorem bandInRange_cleared : BandInRange Band.cleared := by simp [BandInRange, Band.cleared]

/-- A cleared table and the default advance lie in their ranges (R44, R61, R63). -/
theorem tableInRange_reset : TableInRange State.reset :=
  ⟨(bands_iff Sbt.reset).2 fun i j => by simpa [Sbt.reset, four_get_replicate] using bandInRange_cleared,
    by decide, by decide⟩

/-- The values of a reset lie in their ranges, whatever stood before it (R187). -/
theorem resetValues_keepsRanges (cause : ResetCause) (s : State) : KeepsRanges s (resetValues cause s) := by
  have motor : MotorInRange Mdr.reset := by simp [MotorInRange, Mdr.reset]
  have optical : OpticalHeld OpticalMode.auto Dse.reset := by simp [OpticalHeld, Dse.reset]
  have counters : CountersInRange Icn.reset := by unfold CountersInRange; decide
  exact ⟨fun _ => motor, fun _ => tableInRange_reset, fun _ => optical, fun _ => counters⟩

theorem powerReset_keepsRanges (cause : ResetCause) (s : State) : KeepsRanges s (powerReset cause s) :=
  (resetValues_keepsRanges cause s).trans (startAtOnce_keepsRanges _)

/-- The values of a HOST_RESET, before its start-up (R61, R115, R158, R187). -/
def hostResetValues (s : State) : State :=
  { resetValues .hostReset s with
    sbt := hostResetSbt s.sbt, gge := hostResetGge s.gge
    icn := { counters := s.icn.counters, pending := Four.replicate false } }

theorem hostReset_starts (s : State) : hostReset s = startAtOnce (hostResetValues s) := rfl

/-- A HOST_RESET keeps the counters' records, and of the table the entries, or clears them (R61, R158). -/
theorem hostResetValues_keepsRanges (s : State) : KeepsRanges s (hostResetValues s) := by
  have reset := resetValues_keepsRanges .hostReset s
  refine ⟨reset.motor, fun ⟨bands, _⟩ => ⟨fun i k => ?_, tableInRange_reset.2⟩, reset.optical, id⟩
  unfold bandAt hostResetValues hostResetSbt
  dsimp only
  split
  · exact tableInRange_reset.1 i k
  · exact bands i k

theorem resetRequest_keepsRanges (tag : Byte) (s : State) : KeepsRanges s (resetRequest tag s) := by
  have reset : KeepsRanges s (hostReset s) := by
    rw [hostReset_starts]
    exact (hostResetValues_keepsRanges s).trans (startAtOnce_keepsRanges _)
  exact reset.framed rfl

theorem shipEntry_keepsRanges (s : State) : KeepsRanges s (shipEntry s) := by
  have lost : KeepsRanges s (s.setTrg { s.trg with debounced := none }) := .of_frame rfl
  unfold shipEntry
  dsimp only
  split
  · exact lost.trans (powerReset_keepsRanges .shipWake _)
  · exact (lost.trans (resetValues_keepsRanges .shipWake _)).framed rfl

theorem makeEntry_keepsRanges (s : State) : KeepsRanges s (makeEntry s) := by
  unfold makeEntry
  split
  · exact .of_frame rfl
  · exact enterSleep_keepsRanges s
  · exact shipEntry_keepsRanges s

/-! ### The scan's end (R100) -/

theorem protectCells_keepsRanges (before : Pkm) (s : State) : KeepsRanges s (protectCells before s).1 := by
  have cut : KeepsRanges s (s.setPkm { s.pkm with state := .cutoff }) := .of_frame rfl
  have entered : KeepsRanges s (enterCutoff s) :=
    ((cut.trans (noteRaise_keepsRanges .cellUv (.cell (weakestUvCell s.pkm)) _)).trans (forcedStop_keepsRanges _)).framed
      (by simp [ranged, enterCutoff, raisePackNotice])
  have due : KeepsRanges s (if cutoffDue s then enterCutoff s else s) := .ite _ fun _ => entered
  exact due.framed (by simp [ranged, protectCells, judgeDeepUv])

theorem judgePackHot_keepsRanges (s : State) : KeepsRanges s (judgePackHot s) := by
  unfold judgePackHot
  split
  · exact .ite _ fun _ => (KeepsRanges.refl s).raised ..
  · exact .refl s

theorem chargeIn_keepsRanges (i : Int) (dt : Nat) (s : State) : KeepsRanges s (chargeIn i dt s) := by
  have events (l : List Unit) (t : State) :
      KeepsRanges t (l.foldl (fun t _ => countEvent .chargeIn (.units 1) t) t) := by
    induction l generalizing t with
    | nil => exact .refl t
    | cons _ l ih => exact (countEvents_keepsRanges _ t).trans (ih _)
  have moved : KeepsRanges s (s.setGge { s.gge with residue := (s.gge.residue + (-i).toNat * dt) % 3600000 }) :=
    .of_frame rfl
  exact moved.trans (events _ _)

theorem gaugeStep_keepsRanges (sc : Scan) (cut : Bool) (s : State) : KeepsRanges s (gaugeStep sc cut s) := by
  have gauged : KeepsRanges s (gaugeScan (s.pkm.current.getD 0) sc.dt cut s) := .of_frame (by simp [ranged])
  unfold gaugeStep
  dsimp only
  split
  · exact gauged.trans (chargeIn_keepsRanges ..)
  · exact gauged

/-- The derate published is at most the whole current (R42). -/
theorem refreshDerate_keepsRanges (s : State) : KeepsRanges s (refreshDerate s) := by
  have published (t : Int) : KeepsRanges s (s.setMdr { s.mdr with derate := derateCurrent s.motorPar t }) := by
    refine .of_mdr fun h => ?_
    obtain ⟨sector, named, periods, crossings, misses, attempts, restarts, -, gates⟩ := h
    exact ⟨sector, named, periods, crossings, misses, attempts, restarts, derateCurrent_le .., gates⟩
  unfold refreshDerate
  dsimp only
  repeat' split
  · exact .refl s
  · exact .refl s
  · exact (published _).framed rfl

theorem deliverTInv_keepsRanges (t : Int) (s : State) : KeepsRanges s (deliverTInv t s) := by
  have held : KeepsRanges s (s.setMdr { s.mdr with tInv := some t }) := .of_mdr id
  have taken : KeepsRanges s (inverterTaken t s) := held.trans (refreshDerate_keepsRanges _)
  rw [deliverTInv_eq]
  dsimp only
  repeat' split
  · exact taken.raised ..
  · exact taken.trans (precheckDecide_keepsRanges ..)
  · exact taken

theorem deliverScan_keepsRanges (s : State) : KeepsRanges s (deliverScan s) := by
  have scanned : KeepsRanges s (s.setPkm { s.pkm with scanned := true }) := .of_frame rfl
  exact (scanned.trans (deliverTInv_keepsRanges (s.pkm.tInv.getD 0) _)).framed (by simp [ranged, deliverScan])

/-- A scan end at which SHIP may be asked for (R105). -/
theorem KeepsRanges.shipped {s t : State} (h : KeepsRanges s t) (asks : Bool) :
    KeepsRanges s (if asks then shipEntry t else t) := h.trans (.ite _ fun _ => shipEntry_keepsRanges t)

theorem watchScanEnd_keepsRanges (r : ScanReading) (s : State) : KeepsRanges s (watchScanEnd r s) := by
  have recorded : KeepsRanges s (recordCells r s) := .of_frame rfl
  exact ((recorded.trans (protectCells_keepsRanges s.pkm _)).framed (by simp [ranged])).shipped _

theorem onScanEnd_keepsRanges (sc : Scan) (r : ScanReading) (s : State) : KeepsRanges s (onScanEnd sc r s) := by
  have recorded : KeepsRanges s (recordOthers r (recordCells r s)) := .of_frame rfl
  have protect := (recorded.trans (judgePackHot_keepsRanges _)).trans (protectCells_keepsRanges s.pkm _)
  have judged (t : State) : KeepsRanges t (moveAllowances sc (judgePackState (judgeRelease t))) :=
    .of_frame (by simp [ranged])
  exact (((protect.trans (judged _)).trans (gaugeStep_keepsRanges sc _ _)).trans (deliverScan_keepsRanges _)).shipped _

theorem scanEnd_keepsRanges (r : ScanReading) (s : State) : KeepsRanges s (scanEnd r s) := by
  have closed (t : State) (w : Seven Bool) : KeepsRanges t (t.setPkm { t.pkm with scan := none, switches := w }) :=
    .of_frame rfl
  have ended (sc : Scan) (t : State) : KeepsRanges t (if sc.watch then watchScanEnd r t else onScanEnd sc r t) := by
    split
    · exact watchScanEnd_keepsRanges r t
    · exact onScanEnd_keepsRanges sc r t
  unfold scanEnd
  refine ((KeepsRanges.trans ?begun (closed _ _)).trans (ended _ _)).refreshed
  split
  · exact .refl s
  · exact .of_frame rfl

end Sys2Proof.Proofs

namespace Sys2Proof.Proofs

open Sys2Proof.Machine Sys2Proof.Safety

/-! ### The parameters (R42, R44, R75, R87, R88, R181) -/

/-- A value taken lies at or under the range's end, where no dependency asks for more. -/
theorem taken_le {p : Param} {s : State} (free : p.depLow s = none) (v : Int) : p.taken v s ≤ p.range.2 := by
  have ordered : p.range.1 ≤ p.range.2 := by cases p <;> decide
  unfold Param.taken clampInt
  rw [free]
  dsimp only
  have clamped : max p.range.1 (min p.range.2 v) ≤ p.range.2 := max_le ordered (min_le_left ..)
  split
  · exact (min_le_right ..).trans clamped
  · exact clamped

/-- A write keeps the ranges where the value lies at or under the range's end, or has a dependency to lie over. -/
theorem paramWrite_keepsRanges (p : Param) {v : Int} {s : State} (range : p.depLow s = none → v ≤ p.range.2) :
    KeepsRanges s (p.write v s) := by
  have written (m : MotorPar) (same : m.fixedAdvance = s.motorPar.fixedAdvance) : KeepsRanges s (s.setMotorPar m) :=
    .of_frame (by simp [ranged, same])
  cases p
  case fixedAdvance =>
    have within : v.toNat ≤ 60 := Int.toNat_le.2 (range rfl)
    exact ⟨id, fun ⟨bands, served, _⟩ => ⟨bands, served, within⟩, id, id⟩
  case blockTime =>
    have bounded : KeepsRanges s (s.setBlockPar { s.blockPar with blockTime := v.toNat }) := .of_frame rfl
    exact bounded.trans (expireBlock_keepsRanges _)
  case triggerMode =>
    unfold Param.write writeTriggerMode
    dsimp only
    split
    · exact .refl s
    · exact .refreshed (.of_frame rfl)
  case invDerateStart =>
    exact (written { s.motorPar with invDerateStart := v } rfl).trans (refreshDerate_keepsRanges _)
  case invCut => exact (written { s.motorPar with invCut := v } rfl).trans (refreshDerate_keepsRanges _)
  case opticalMode =>
    exact ⟨fun h => by simpa [Param.write] using h, fun h => by simpa [Param.write, TableInRange] using h,
      fun h => writeOpticalMode_sound h _, countersInRange_congr (by simp [Param.write])⟩
  case emitterCurrent =>
    have within : v.toNat ≤ 63 := Int.toNat_le.2 (range rfl)
    exact ⟨fun h => by simpa [Param.write] using h, fun h => by simpa [Param.write, TableInRange] using h,
      fun h => writeEmitter_sound h within, countersInRange_congr (by simp [Param.write])⟩
  case emitterCarrier =>
    exact ⟨fun h => by simpa [Param.write] using h, fun h => by simpa [Param.write, TableInRange] using h,
      fun h => writeCarrier_sound h _, countersInRange_congr (by simp [Param.write])⟩
  all_goals exact .of_frame (by simp [Param.write, ranged])

/-! ### Requests (R176) -/

/-- A block that serves a request and keeps the ranges. -/
def ServesRanges (serve : State → Served) : Prop := ∀ s, KeepsRanges s (serve s).state

theorem serveSetKnown_keepsRanges (id : Byte) (p : Param) (value : BitVec 32) :
    ServesRanges (serveSetKnown id p value) := by
  intro s
  unfold serveSetKnown
  split
  · exact .refl s
  · split
    · next cs enum =>
      split
      · next code => exact paramWrite_keepsRanges p fun _ => ((codes_inRange enum s).1 _ code).2
      · exact .refl s
    · exact paramWrite_keepsRanges p fun free => taken_le free _

theorem serveSetParam_keepsRanges (id : Byte) (value : BitVec 32) : ServesRanges (serveSetParam id value) := by
  intro s
  unfold serveSetParam
  split
  · exact serveSetKnown_keepsRanges id _ value s
  · exact .refl s

theorem serveGetParam_keepsRanges (id : Byte) : ServesRanges (serveGetParam id) := by
  intro s
  unfold serveGetParam
  split
  all_goals exact .refl s

theorem serveNoticeMask_keepsRanges (enables : BitVec 16) : ServesRanges (serveNoticeMask enables) := by
  intro s
  unfold serveNoticeMask
  dsimp only
  repeat' split
  all_goals exact .of_frame (by simp [ranged])

theorem serveSleep_keepsRanges : ServesRanges serveSleep := by
  intro s
  unfold serveSleep
  split
  all_goals exact .of_frame (by simp [ranged])

theorem serveShip_keepsRanges : ServesRanges serveShip := by
  intro s
  unfold serveShip
  split
  all_goals exact .of_frame (by simp [ranged])

theorem serveRunStart_keepsRanges : ServesRanges serveRunStart := by
  intro s
  unfold serveRunStart
  split
  · exact .refl s
  · exact .refl s
  · exact .refreshed (.of_frame rfl)

theorem serveRunStop_keepsRanges : ServesRanges serveRunStop := fun _ => .refreshed (.of_frame rfl)

theorem serveStepSelect_keepsRanges (step : Byte) : ServesRanges (serveStepSelect step) := by
  intro s
  unfold serveStepSelect
  split
  all_goals exact .of_frame (by simp [ranged])

theorem serveEditBegin_keepsRanges (label : Byte) : ServesRanges (serveEditBegin label) := by
  intro s
  unfold serveEditBegin
  split
  all_goals exact .of_frame (by simp [ranged])

theorem serveEditSet_keepsRanges (field : Byte) (value : BitVec 32) : ServesRanges (serveEditSet field value) := by
  intro s
  unfold serveEditSet
  repeat' split
  all_goals exact .of_frame (by simp [ranged])

theorem serveEditCommit_keepsRanges : ServesRanges serveEditCommit := by
  intro s
  unfold serveEditCommit
  repeat' split
  all_goals exact .of_frame (by simp [ranged])

theorem serveEditAbort_keepsRanges : ServesRanges serveEditAbort := by
  intro s
  unfold serveEditAbort
  split
  all_goals exact .of_frame (by simp [ranged])

theorem serveTripClear_keepsRanges : ServesRanges serveTripClear := by
  intro s
  unfold serveTripClear
  repeat' split
  any_goals exact .refl s
  exact (clearTrip_keepsRanges .host s).refreshed

theorem serveFaultRead_keepsRanges (clearCounts : Byte) : ServesRanges (serveFaultRead clearCounts) := by
  intro s
  unfold serveFaultRead
  repeat' split
  all_goals exact .of_frame (by simp [ranged])

theorem serveBandMode_keepsRanges (mode : Byte) : ServesRanges (serveBandMode mode) := by
  intro s
  unfold serveBandMode
  split
  · exact .refl s
  · exact .of_sbt fun h => h

theorem serveBandClear_keepsRanges : ServesRanges serveBandClear := by
  intro s
  unfold serveBandClear
  split
  · exact .refl s
  · exact .of_sbt fun h => h

theorem serveBandRead_keepsRanges (index : Byte) : ServesRanges (serveBandRead index) := by
  intro s
  unfold serveBandRead
  repeat' split
  all_goals exact .refl s

/-- An entry written is clamped to its ranges (R70). -/
theorem serveBandWrite_keepsRanges (index advance : Byte) (loadRef : BitVec 16) (flags : Byte) :
    ServesRanges (serveBandWrite index advance loadRef flags) := by
  intro s
  unfold serveBandWrite
  split
  · exact .refl s
  split
  · exact .refl s
  · next known =>
    split
    · exact .refl s
    · refine .of_sbt fun h => putBand_inRange h _ ?_
      exact writtenBand_inRange (Nat.min_le_left ..) (Nat.min_le_left ..) (h.1 _ (by omega)) _ _

theorem serveGaugeAdjust_keepsRanges (delta : BitVec 16) : ServesRanges (serveGaugeAdjust delta) :=
  fun _ => .of_frame (by simp [ranged, serveGaugeAdjust])

theorem serveChargeEnable_keepsRanges : ServesRanges serveChargeEnable := by
  intro s
  unfold serveChargeEnable
  dsimp only
  split
  all_goals exact .of_frame (by simp [ranged])

theorem serveChargeDisable_keepsRanges : ServesRanges serveChargeDisable := by
  intro s
  unfold serveChargeDisable
  dsimp only
  split
  · exact .of_frame (by simp [ranged])
  · exact .refreshed (.of_frame (by simp [ranged]))

theorem serveChargePause_keepsRanges : ServesRanges serveChargePause := by
  intro s
  unfold serveChargePause
  dsimp only
  repeat' split
  all_goals exact .of_frame (by simp [ranged])

theorem serveChargeResume_keepsRanges : ServesRanges serveChargeResume := by
  intro s
  unfold serveChargeResume
  dsimp only
  repeat' split
  all_goals exact .of_frame (by simp [ranged])

theorem serveChargeClear_keepsRanges : ServesRanges serveChargeClear := by
  intro s
  unfold serveChargeClear
  split
  all_goals exact .of_frame (by simp [ranged])

theorem serveChargeControl_keepsRanges (action : Byte) : ServesRanges (serveChargeControl action) := by
  intro s
  unfold serveChargeControl
  split
  · exact serveChargeEnable_keepsRanges s
  · exact serveChargeDisable_keepsRanges s
  · exact serveChargePause_keepsRanges s
  · exact serveChargeResume_keepsRanges s
  · exact serveChargeClear_keepsRanges s
  · exact .refl s

/-- A record set up counts from 0, against a threshold of 32 bits (R158, R160). -/
theorem serveCounterSetup_keepsRanges (k source : Byte) (threshold : BitVec 32) (options start : Byte) :
    ServesRanges (serveCounterSetup k source threshold options start) := by
  intro s
  unfold serveCounterSetup
  dsimp only
  repeat' split
  any_goals exact .refl s
  exact .of_counting (by simp) fun h => putCounter_inRange h _ (setupCounter_inRange ..)

/-- An adjusted value is clamped, and a reach clears no range (R161, R163). -/
theorem serveCounterAdjust_keepsRanges (k : Byte) (delta : BitVec 32) : ServesRanges (serveCounterAdjust k delta) := by
  intro s
  unfold serveCounterAdjust
  dsimp only
  split
  · exact .refl s
  · refine .of_counting (by simp) fun h => judgeReach_inRange _ (putCounter_inRange h _ ?_)
    exact adjustedCounter_inRange _ (counter_inRange h _)

/-- Every request of the catalogue is served by one of the blocks (12.6). -/
theorem requestServed_keepsRanges {kind : Nat} {payload : List Byte} (known : knownKind kind = true)
    {serve : State → Served} (h : requestServed kind payload = some serve) : ServesRanges serve := by
  have bound : kind ≤ 0x32 := by simp [knownKind] at known; omega
  interval_cases kind
  all_goals
    rcases payload with
      _ | ⟨a, _ | ⟨b, _ | ⟨c, _ | ⟨d, _ | ⟨e, _ | ⟨f, _ | ⟨g, _ | ⟨i, _ | l⟩⟩⟩⟩⟩⟩⟩⟩
  all_goals cases h
  · exact .refl
  · exact fun _ => .of_frame rfl
  · exact serveGetParam_keepsRanges _
  · exact serveSetParam_keepsRanges _ _
  · exact serveNoticeMask_keepsRanges _
  · exact serveSleep_keepsRanges
  · exact serveShip_keepsRanges
  · exact serveRunStart_keepsRanges
  · exact serveRunStop_keepsRanges
  · exact serveStepSelect_keepsRanges _
  · exact serveEditBegin_keepsRanges _
  · exact serveEditSet_keepsRanges _ _
  · exact serveEditCommit_keepsRanges
  · exact serveEditAbort_keepsRanges
  · exact .refl
  · exact serveTripClear_keepsRanges
  · exact serveFaultRead_keepsRanges _
  · exact serveBandMode_keepsRanges _
  · exact serveBandClear_keepsRanges
  · exact serveBandRead_keepsRanges _
  · exact serveBandWrite_keepsRanges _ _ _ _
  · exact .refl
  · exact .refl
  · exact fun _ => .of_frame rfl
  · exact .refl
  · exact serveGaugeAdjust_keepsRanges _
  · exact serveChargeControl_keepsRanges _
  · exact .refl
  · exact .refl
  · exact serveCounterSetup_keepsRanges _ _ _ _ _
  · exact .refl
  · exact serveCounterAdjust_keepsRanges _ _

end Sys2Proof.Proofs

namespace Sys2Proof.Proofs

open Sys2Proof.Machine Sys2Proof.Safety

/-! ### The host line, for any relation its parts keep (R174 to R178) -/

/-- A relation from the state before a part of a step to the state after it, which the parts the host line puts
together satisfy: they are joined in sequence, and each of them satisfies it by itself. -/
structure LineRules (R : State → State → Prop) : Prop where
  refl (s : State) : R s s
  trans {s t u : State} : R s t → R t u → R s u
  port (m : Mpt) (s : State) : R s (s.setMpt m)
  begun (s : State) : R s (beginTransmission s)
  activity (s : State) : R s (idleZero s)
  woken (s : State) : R s (wakeIfAsleep .link s)
  discarded (reason : DiscardReason) (s : State) : R s (discardFrame reason s)
  slept (s : State) : R s (enterSleep s)
  restarted (tag : Byte) (s : State) : R s (resetRequest tag s)
  entered (s : State) : R s (makeEntry s)
  served {kind : Nat} {payload : List Byte} {serve : State → Served} (known : knownKind kind = true)
    (h : requestServed kind payload = some serve) (s : State) : R s (serve s).state

namespace LineRules

section
variable {R : State → State → Prop} (rules : LineRules R)
include rules

theorem whilePowered {f : State → State} (h : ∀ s, R s (f s)) (s : State) : R s (whilePowered f s) := by
  unfold Machine.whilePowered
  split
  · exact rules.refl s
  · exact rules.trans (h s) (rules.begun _)

theorem judgeRequest (kind tag : Byte) {serve : State → Served} (h : ∀ s, R s (serve s).state) (s : State) :
    R s (judgeRequest kind tag serve s) := by
  have replied (r : Reply) (t : State) : R t (queueReply r t) := rules.port _ t
  have served (m : Mpt) (r : Reply) : R s (queueReply r (serve (s.setMpt m)).state) :=
    rules.trans (rules.trans (rules.port m s) (h _)) (replied r _)
  unfold Machine.judgeRequest takeRequest
  dsimp only
  repeat' split
  · exact rules.port _ s
  · exact replied _ s
  · exact rules.trans (served _ _) (rules.slept _)
  · exact served _ _

theorem onHostFrame {f : State → State} (h : ∀ s, R s (f s)) (s : State) : R s (onHostFrame f s) :=
  rules.whilePowered (fun t => rules.trans (rules.woken t)
    (rules.trans (rules.begun _) (rules.trans (h _) (rules.activity _)))) s

theorem onRequest (kind tag : Byte) {serve : State → Served} (h : ∀ s, R s (serve s).state) (s : State) :
    R s (onRequest kind tag serve s) :=
  rules.onHostFrame (fun t => rules.trans (rules.port _ t) (rules.judgeRequest kind tag h _)) s

theorem serveFrame (kind : Byte) (payload : List Byte) (s : State) : R s (serveFrame kind payload s).state := by
  unfold Machine.serveFrame
  repeat' split
  · next known _ _ served => exact rules.served known served s
  · exact rules.refl s
  · exact rules.refl s

theorem dispatchFrame (kind tag : Byte) (payload : List Byte) (s : State) : R s (dispatchFrame kind tag payload s) := by
  unfold Machine.dispatchFrame
  split
  · exact rules.restarted tag s
  · exact rules.judgeRequest kind tag (rules.serveFrame kind payload) s

theorem completeFrame (bytes : List Byte) (s : State) : R s (completeFrame bytes s) := by
  unfold Machine.completeFrame
  dsimp only
  repeat' split
  · exact rules.trans (rules.port _ s) (rules.dispatchFrame ..)
  · exact rules.discarded _ s
  · exact rules.refl s

theorem frameByte (bytes : List Byte) (s : State) : R s (frameByte bytes s) := by
  unfold Machine.frameByte
  repeat' split
  · exact rules.discarded _ s
  · exact rules.port _ s
  · exact rules.discarded _ s
  · exact rules.port _ s
  · exact rules.port _ s
  · exact rules.completeFrame ..
  · exact rules.port _ s
  · exact rules.refl s

theorem receiveByte (byte : Byte) (stopBit : Bool) (s : State) : R s (receiveByte byte stopBit s) := by
  unfold Machine.receiveByte
  repeat' split
  · exact rules.port _ s
  · exact rules.refl s
  · exact rules.frameByte ..
  · exact rules.discarded _ s

theorem replyEnded (r : Reply) (s : State) : R s (replyEnded r s) := by
  unfold Machine.replyEnded
  dsimp only
  split
  · exact rules.port _ s
  · exact rules.trans (rules.trans (rules.port _ s) (rules.port _ _)) (rules.entered _)

/-! ### The commands of the line -/

/-- An event of a part that is not in SHIP. -/
theorem event {f : State → State} (h : ∀ s, R s (f s)) (s : State) : Yields (.next (Machine.whilePowered f s)) (R s) :=
  ⟨_, rfl, rules.whilePowered h s⟩

/-- A request taken from the catalogue. -/
theorem request (kind tag : Byte) {serve : State → Served} (h : ∀ s, R s (serve s).state) (s : State) :
    Yields (.next (Machine.onRequest kind tag serve s)) (R s) := ⟨_, rfl, rules.onRequest kind tag h s⟩

theorem execHostFrameReceived (kind tag : Byte) (payload : List Byte) (s : State) :
    Yields (execHostFrameReceived kind tag payload s) (R s) := by
  refine ⟨_, rfl, ?_⟩
  repeat' split
  · exact rules.refl s
  · exact rules.whilePowered (rules.restarted tag) s
  · exact rules.onHostFrame (rules.discarded _) s
  · exact rules.onHostFrame (rules.discarded _) s
  · exact rules.onRequest kind tag (rules.serveFrame kind payload) s

theorem execHostFrameDiscard (reason : DiscardReason) (s : State) : Yields (execHostFrameDiscard reason s) (R s) :=
  ⟨_, rfl, rules.onHostFrame (rules.discarded reason) s⟩

theorem execHostFrameGap (s : State) : Yields (execHostFrameGap s) (R s) :=
  rules.event (fun t => rules.trans (rules.begun t) (rules.trans (rules.discarded .gap _) (rules.activity _))) s

theorem execLinkWake (byte : Byte) (stopBit : Bool) (s : State) : Yields (execLinkWake byte stopBit s) (R s) := by
  have counted (t u : State) : R u (linkActivity t u) := by
    unfold linkActivity
    split
    · exact rules.activity u
    · exact rules.refl u
  exact rules.event (fun t => rules.trans (rules.trans (rules.woken t) (rules.begun _))
    (rules.trans (rules.receiveByte byte stopBit _) (counted _ _))) s

theorem execTransmitEnd (s : State) : Yields (execTransmitEnd s) (R s) := by
  refine rules.event (fun t => ?_) s
  split
  · exact rules.replyEnded _ t
  · exact rules.port _ t
  · exact rules.refl t

end

end LineRules

/-- The host line keeps the ranges, as its parts do. -/
theorem keepsRanges_lineRules : LineRules KeepsRanges where
  refl := .refl
  trans := .trans
  port _ _ := .of_frame rfl
  begun := beginTransmission_keepsRanges
  activity _ := .of_frame rfl
  woken := wakeIfAsleep_keepsRanges .link
  discarded _ _ := .of_frame (by simp [ranged])
  slept := enterSleep_keepsRanges
  restarted := resetRequest_keepsRanges
  entered := makeEntry_keepsRanges
  served known h := requestServed_keepsRanges known h

end Sys2Proof.Proofs

namespace Sys2Proof.Proofs

open Sys2Proof.Machine Sys2Proof.Safety

/-! ### The events of the motor (R25 to R41) -/

theorem observed_keepsRanges (phase : Phase) (rising : Bool) (t : Nat) (s : State) :
    KeepsRanges s (s.setMdr (observeCrossing (sectorNamed phase rising) t s.mdr)) :=
  .of_mdr fun h => observeCrossing_inRange h (sectorNamed_le ..) t

theorem catchRestarted_keepsRanges (s : State) : KeepsRanges s (s.setMdr (restartCatch s.mdr)) :=
  .of_mdr restartCatch_inRange

theorem catchCrossing_keepsRanges (phase : Phase) (rising : Bool) (t : Nat) (s : State) :
    KeepsRanges s (catchCrossing (sectorNamed phase rising) t s) := by
  have observed (limit : Option Nat) : KeepsRanges s
      (s.setMdr { observeCrossing (sectorNamed phase rising) t s.mdr with catchLimit := limit }) :=
    .of_mdr fun h => observeCrossing_inRange h (sectorNamed_le ..) t
  unfold catchCrossing
  dsimp only
  generalize (if 6 ≤ (observeCrossing (sectorNamed phase rising) t s.mdr).crossings then none
    else (observeCrossing (sectorNamed phase rising) t s.mdr).catchLimit) = limit
  repeat' split
  · exact catchRestarted_keepsRanges s
  · exact .of_mdr fun h => startSequence_inRange (restartCatch_inRange h) (sectorNamed_le ..)
  · exact (observed limit).trans (enterRunCaught_keepsRanges _)
  · exact observed limit

theorem coastCrossing_keepsRanges (phase : Phase) (rising : Bool) (t : Nat) (s : State) :
    KeepsRanges s (coastCrossing (sectorNamed phase rising) t s) := by
  unfold coastCrossing
  dsimp only
  split
  · exact (observed_keepsRanges ..).trans (coastEnd_keepsRanges ..)
  · exact observed_keepsRanges ..

/-- RAMP counts its crossings up to twelve (R34). -/
theorem rampCrossing_keepsRanges (t d : Nat) (s : State) : KeepsRanges s (rampCrossing t d s) := by
  have seen : KeepsRanges s (s.setMdr
      { s.mdr with seen := true, windowShut := true, crossings := min 12 (s.mdr.crossings + 1) }) := by
    refine .of_mdr fun h => ?_
    obtain ⟨sector, named, periods, -, rest⟩ := h
    exact ⟨sector, named, periods, Nat.min_le_left .., rest⟩
  unfold rampCrossing
  dsimp only
  split
  · exact seen.trans (enterHandover_keepsRanges t d _)
  · exact seen

theorem handoverCrossing_keepsRanges (t d : Nat) (s : State) : KeepsRanges s (handoverCrossing t d s) := by
  have counted : KeepsRanges s (s.setMdr { s.mdr with handoverCount := s.mdr.handoverCount + 1 }) := .of_mdr id
  exact (counted.trans (.ite (6 ≤ s.mdr.handoverCount + 1) fun _ => enterRun_keepsRanges _)).trans
    (scheduleCrossing_keepsRanges t d _)

theorem crossing_keepsRanges (phase : Phase) (rising : Bool) (t d : Nat) (s : State) :
    KeepsRanges s (crossing phase rising t d s) := by
  unfold crossing
  dsimp only
  split
  · exact observed_keepsRanges ..
  · exact catchCrossing_keepsRanges ..
  · exact coastCrossing_keepsRanges ..
  · exact .ite _ fun _ => rampCrossing_keepsRanges t d s
  · exact .ite _ fun _ => handoverCrossing_keepsRanges t d s
  · exact .ite _ fun _ => scheduleCrossing_keepsRanges t d s
  · exact .refl s

theorem precheckEnd_keepsRanges (s : State) : KeepsRanges s (precheckEnd s) := by
  unfold precheckEnd
  repeat' split
  · exact precheckDecide_keepsRanges ..
  · exact .of_mdr id
  · exact .refl s

theorem rampTick_keepsRanges (s : State) : KeepsRanges s (s.setMdr (rampTicked s.motorPar.blankFrac s.mdr)) :=
  .of_mdr fun h => rampTicked_inRange h _

theorem rampAccelerated_keepsRanges {s : State} (ramp : s.mdr.state = .ramp) : KeepsRanges s (rampAccelerated s) := by
  have grown (inc : BitVec 16) : KeepsRanges s (s.setMdr { s.mdr with rampInc := inc, speed := rampSpeed inc }) :=
    .of_mdr id
  unfold rampAccelerated
  dsimp only
  split
  · exact (grown _).trans (startFail_keepsRanges _ (by simp [ramp]))
  · exact grown _

theorem scheduledCommutation_keepsRanges (im : Int) (s : State) : KeepsRanges s (scheduledCommutation im s) := by
  unfold scheduledCommutation
  repeat' split
  · exact commutate_keepsRanges ..
  · exact .refl s
  · exact .refl s

/-- The sixth miss in a row ends in the loss of sync, which clears the count (R27, R39). -/
theorem missedCrossing_keepsRanges (im : Int) (s : State) : KeepsRanges s (missedCrossing im s) := by
  have closed := commutate_keepsRanges (windowCloseTime s.mdr.ts) im s
  unfold missedCrossing
  dsimp only
  generalize commutate (windowCloseTime s.mdr.ts) im s = t at closed ⊢
  split
  · exact (closed.trans (raiseSyncLoss_keepsRanges _ t)).refreshed
  · next few =>
    refine closed.trans (.of_mdr fun h => ?_)
    obtain ⟨sector, named, periods, crossings, -, rest⟩ := h
    exact ⟨sector, named, periods, crossings, Nat.le_of_not_le few, rest⟩

theorem windowClosed_keepsRanges (im : Int) (s : State) : KeepsRanges s (windowClosed im s) := by
  unfold windowClosed
  repeat' split
  · exact .refl s
  · exact .of_mdr id
  · next handover => exact (startFail_keepsRanges _ (by simp [handover])).refreshed
  · exact missedCrossing_keepsRanges im s
  · exact .refl s

theorem rotorStopped_keepsRanges (s : State) : KeepsRanges s (rotorStopped s) := by
  have quiet : KeepsRanges s (s.setMdr { s.mdr with quiet := true, speed := 0 }) := .of_mdr id
  unfold rotorStopped
  dsimp only
  split
  · exact quiet.trans (coastEnd_keepsRanges ..)
  · exact quiet
  · exact quiet
  · exact .refl s

theorem overcurrent_keepsRanges (s : State) : KeepsRanges s (overcurrent s) := by
  have off : KeepsRanges s (s.setMdr { s.mdr with gates := none }) := by
    refine .of_mdr fun h => ?_
    obtain ⟨sector, named, periods, crossings, misses, attempts, restarts, derate, -⟩ := h
    exact ⟨sector, named, periods, crossings, misses, attempts, restarts, derate, nofun⟩
  unfold overcurrent
  repeat' split
  · exact (off.raised ..).refreshed
  · exact (KeepsRanges.refl s).raised ..
  · exact .refl s

/-! ### The trigger (R1 to R5, R171) -/

theorem triggerPress_keepsRanges (s : State) : KeepsRanges s (triggerPress s) := by
  unfold triggerPress
  repeat' split
  all_goals exact .of_frame (by simp [ranged, raiseTriggerNotice])

theorem triggerRelease_keepsRanges (s : State) : KeepsRanges s (triggerRelease s) := by
  have released : KeepsRanges s (releasedTrigger s) := .of_frame (by simp [ranged, releasedTrigger])
  rw [triggerRelease_eq]
  exact released.trans (.ite _ fun _ => clearTrip_keepsRanges ..)

theorem debounced_keepsRanges (s : State) : KeepsRanges s (debounced s) := by
  have determined (g : Trg) (t : State) : KeepsRanges t (t.setTrg g) := .of_frame rfl
  have active (t : State) : KeepsRanges t (idleZero t) := .of_frame rfl
  have edge (level : Level) (t : State) : KeepsRanges t (triggerEdge level t) := by
    unfold triggerEdge
    repeat' split
    · exact (wakeIfAsleep_keepsRanges .trigger t).trans ((triggerPress_keepsRanges _).refreshed.trans (active _))
    · exact determined _ t
    · exact (triggerRelease_keepsRanges t).refreshed.trans (active _)
  unfold debounced
  repeat' split
  · exact determined _ s
  · exact .refl s
  · exact (determined _ s).trans (edge ..)

/-! ### The table cleared, a ms, and the commands with a condition of their own -/

/-- A table cleared holds nothing but cleared entries (R69). -/
theorem cleared_keepsRanges (s : State) :
    KeepsRanges s (raise (.tableCleared s.sbt.mode) (s.setSbt (clearedTable s.sbt))) := by
  have cleared : KeepsRanges s (s.setSbt (clearedTable s.sbt)) :=
    .of_sbt fun ⟨_, served⟩ => ⟨tableInRange_reset.1, served⟩
  exact cleared.framed (by simp [ranged])

theorem tick_keepsRanges (s : State) : KeepsRanges s (tick s) := by
  have timed (t : State) : KeepsRanges t (tickTimers t) := ⟨id, id, id, id⟩
  have queued (t : State) (l : List Instr) : KeepsRanges t (t.setPending l) := .of_frame rfl
  unfold tick
  split
  · exact .refl s
  · exact ((startAtOnce_keepsRanges s).trans ((beginTransmission_keepsRanges _).trans (timed _))).trans (queued _ _)

theorem abandonReception_keepsRanges (s : State) : KeepsRanges s (abandonReception s) :=
  .of_frame (by simp [ranged, abandonReception])

theorem receptionBegun_keepsRanges (s : State) : KeepsRanges s (receptionBegun s) := by
  have begun (t : State) (b : Bool) : KeepsRanges t (t.setDlk { t.dlk with receiving := b }) := .of_frame rfl
  exact (KeepsRanges.ite _ fun _ => abandonReception_keepsRanges s).trans (begun _ _)

theorem replyTimeout_keepsRanges (s : State) : KeepsRanges s (replyTimeout s) := by
  unfold replyTimeout
  repeat' split
  all_goals exact .of_frame (by simp [ranged])

end Sys2Proof.Proofs

namespace Sys2Proof.Proofs

open Sys2Proof.Machine Sys2Proof.Safety

/-! ### O60: every command keeps the ranges -/

theorem execDirtWindowEnd_keepsRanges (amplitude level : Nat) (signal : List Nat) (s : State) :
    Yields (execDirtWindowEnd amplitude level signal s) (KeepsRanges s) := by
  refine keepsRanges_lineRules.event (fun t => ?_) s
  split
  · exact KeepsRanges.ite _ fun _ => dirtWindowEnd_keepsRanges ..
  · exact .refl t

theorem execDockContactRise_keepsRanges (s : State) : Yields (execDockContactRise s) (KeepsRanges s) := by
  have risen : KeepsRanges s (s.setDlk { s.dlk with contact := true }) := .of_frame rfl
  refine ⟨_, rfl, ?_⟩
  split
  · exact risen.trans (powerReset_keepsRanges .shipWake _)
  · exact keepsRanges_lineRules.whilePowered contactRisen_keepsRanges s

theorem execDockLoss_keepsRanges (s : State) : Yields (execDockLoss s) (KeepsRanges s) := by
  refine keepsRanges_lineRules.event (fun t => ?_) s
  split
  · exact .of_frame (by simp [ranged])
  · exact dockLoss_keepsRanges t

theorem execTriggerRawChange_keepsRanges (l : Level) (s : State) :
    Yields (execTriggerRawChange l s) (KeepsRanges s) := by
  have raw : KeepsRanges s (s.setTrg { s.trg with raw := l, timer := 0 }) := .of_frame rfl
  refine ⟨_, rfl, ?_⟩
  split
  · exact keepsRanges_lineRules.whilePowered KeepsRanges.refl s
  · exact raw.trans (keepsRanges_lineRules.whilePowered KeepsRanges.refl _)

theorem execContactVoltageFall_keepsRanges (s : State) : Yields (execContactVoltageFall s) (KeepsRanges s) := by
  have fallen (d : Dlk) : KeepsRanges s (s.setDlk d) := .of_frame rfl
  exact ⟨_, rfl, (fallen _).trans (keepsRanges_lineRules.whilePowered KeepsRanges.refl _)⟩

theorem execSeventhCellMeasured_keepsRanges (s : State) : Yields (execSeventhCellMeasured s) (KeepsRanges s) := by
  refine keepsRanges_lineRules.event (fun t => ?_) s
  split
  · exact KeepsRanges.ite _ fun _ => .of_frame (by simp [ranged])
  · exact .refl t

theorem execShipWake_keepsRanges (s : State) : Yields (execShipWake s) (KeepsRanges s) := by
  have risen : KeepsRanges s (s.setDlk { s.dlk with contact := true }) := .of_frame rfl
  exact ⟨_, rfl, KeepsRanges.ite _ fun _ => risen.trans (powerReset_keepsRanges .shipWake _)⟩

theorem execBrownout_keepsRanges (s : State) : Yields (execBrownout s) (KeepsRanges s) := by
  refine ⟨_, rfl, ?_⟩
  split
  · exact .refl s
  · exact powerReset_keepsRanges .brownout s

end Sys2Proof.Proofs

namespace Sys2Proof.Proofs

open Sys2Proof.Machine Sys2Proof.Safety

/-- Every command keeps the motor's counts, the table, the optical channel and the counters in their ranges. -/
theorem exec_keepsRanges (c : Instr) (s : State) : Yields (exec c s) (KeepsRanges s) := by
  have lines := keepsRanges_lineRules
  cases c with
  | identify tag => exact lines.request _ tag KeepsRanges.refl s
  | status tag => exact lines.request _ tag (fun _ => .of_frame rfl) s
  | getParam tag id => exact lines.request _ tag (serveGetParam_keepsRanges id) s
  | setParam tag id value => exact lines.request _ tag (serveSetParam_keepsRanges id value) s
  | setTriggerMode tag value => exact lines.request _ tag (serveSetKnown_keepsRanges _ _ value) s
  | setOpticalMode tag value => exact lines.request _ tag (serveSetKnown_keepsRanges _ _ value) s
  | setEmitterCurrent tag value => exact lines.request _ tag (serveSetKnown_keepsRanges _ _ value) s
  | setEmitterCarrier tag value => exact lines.request _ tag (serveSetKnown_keepsRanges _ _ value) s
  | setFullCapacity tag value => exact lines.request _ tag (serveSetKnown_keepsRanges _ _ value) s
  | setIdleSleepS tag value => exact lines.request _ tag (serveSetKnown_keepsRanges _ _ value) s
  | setReserve tag value => exact lines.request _ tag (serveSetKnown_keepsRanges _ _ value) s
  | noticeMask tag enables => exact lines.request _ tag (serveNoticeMask_keepsRanges enables) s
  | reset tag => exact lines.event (resetRequest_keepsRanges tag) s
  | sleep tag => exact lines.request _ tag serveSleep_keepsRanges s
  | ship tag => exact lines.request _ tag serveShip_keepsRanges s
  | runStart tag => exact lines.request _ tag serveRunStart_keepsRanges s
  | runStop tag => exact lines.request _ tag serveRunStop_keepsRanges s
  | stepSelect tag st => exact lines.request _ tag (serveStepSelect_keepsRanges st) s
  | editBegin tag label => exact lines.request _ tag (serveEditBegin_keepsRanges label) s
  | editSet tag field value => exact lines.request _ tag (serveEditSet_keepsRanges field value) s
  | editCommit tag => exact lines.request _ tag serveEditCommit_keepsRanges s
  | editAbort tag => exact lines.request _ tag serveEditAbort_keepsRanges s
  | profileRead tag => exact lines.request _ tag KeepsRanges.refl s
  | tripClear tag => exact lines.request _ tag serveTripClear_keepsRanges s
  | faultRead tag clearCounts => exact lines.request _ tag (serveFaultRead_keepsRanges clearCounts) s
  | bandMode tag mode => exact lines.request _ tag (serveBandMode_keepsRanges mode) s
  | bandClear tag => exact lines.request _ tag serveBandClear_keepsRanges s
  | bandRead tag index => exact lines.request _ tag (serveBandRead_keepsRanges index) s
  | bandWrite tag index advance loadRef flags =>
    exact lines.request _ tag (serveBandWrite_keepsRanges index advance loadRef flags) s
  | dirtRead tag => exact lines.request _ tag KeepsRanges.refl s
  | cellRead tag => exact lines.request _ tag KeepsRanges.refl s
  | cellResetMinmax tag => exact lines.request _ tag (fun _ => .of_frame rfl) s
  | gaugeRead tag => exact lines.request _ tag KeepsRanges.refl s
  | gaugeAdjust tag delta => exact lines.request _ tag (serveGaugeAdjust_keepsRanges delta) s
  | chargeEnable tag => exact lines.request _ tag serveChargeEnable_keepsRanges s
  | chargeDisable tag => exact lines.request _ tag serveChargeDisable_keepsRanges s
  | chargePause tag => exact lines.request _ tag serveChargePause_keepsRanges s
  | chargeResume tag => exact lines.request _ tag serveChargeResume_keepsRanges s
  | chargeClear tag => exact lines.request _ tag serveChargeClear_keepsRanges s
  | chargeRead tag => exact lines.request _ tag KeepsRanges.refl s
  | dockRead tag => exact lines.request _ tag KeepsRanges.refl s
  | counterSetup tag k source threshold options start =>
    exact lines.request _ tag (serveCounterSetup_keepsRanges k source threshold options start) s
  | counterRead tag => exact lines.request _ tag KeepsRanges.refl s
  | counterAdjust tag k delta => exact lines.request _ tag (serveCounterAdjust_keepsRanges k delta) s
  | hostFrameReceived kind tag payload => exact lines.execHostFrameReceived kind tag payload s
  | hostFrameDiscard reason => exact lines.execHostFrameDiscard reason s
  | hostFrameGap => exact lines.execHostFrameGap s
  | linkWake byte stopBit => exact lines.execLinkWake byte stopBit s
  | transmitEnd => exact lines.execTransmitEnd s
  | triggerDebounce => exact lines.event debounced_keepsRanges s
  | editTimeout => exact lines.event (fun _ => .ite _ fun _ => .of_frame (by simp [ranged])) s
  | precheckEnd => exact lines.event precheckEnd_keepsRanges s
  | alignEnd => exact lines.event (fun _ => .ite _ fun _ => motorTo_keepsRanges ..) s
  | rampTick => exact lines.event (fun t => .ite _ fun _ => rampTick_keepsRanges t) s
  | rampAccelTick => exact lines.event (fun _ => .ite _ fun ramp => rampAccelerated_keepsRanges ramp) s
  | rampTimeout =>
    exact lines.event (fun _ => .ite _ fun ramp => (startFail_keepsRanges _ (by simp [ramp])).refreshed) s
  | restartWaitEnd => exact lines.event (fun _ => .ite _ fun _ => motorTo_keepsRanges ..) s
  | bemfCrossing phase rising t d => exact lines.event (crossing_keepsRanges phase rising t d) s
  | commutation im => exact lines.event (scheduledCommutation_keepsRanges im) s
  | windowClose im => exact lines.event (windowClosed_keepsRanges im) s
  | catchLimitExpiry => exact lines.event (fun _ => .ite _ fun _ => motorTo_keepsRanges ..) s
  | rotorStopTimeout => exact lines.event rotorStopped_keepsRanges s
  | coastTimeout => exact lines.event (fun _ => .ite _ fun _ => coastEnd_keepsRanges ..) s
  | ocHw => exact lines.event overcurrent_keepsRanges s
  | bandClearComplete => exact lines.event (fun t => .ite _ fun _ => cleared_keepsRanges t) s
  | blockTimerExpiry => exact lines.event expireBlock_keepsRanges s
  | retryTimerExpiry => exact lines.event (fun _ => .of_frame (by simp [ranged])) s
  | clearTimerExpiry => exact lines.event (fun _ => .ite _ fun _ => .of_frame (by simp [ranged])) s
  | noReferenceTimerExpiry => exact lines.event (fun _ => .ite _ fun _ => .of_frame (by simp [ranged])) s
  | normalTimerExpiry => exact lines.event (fun _ => .ite _ fun _ => .of_frame (by simp [ranged])) s
  | dirtWindowEnd amplitude level signal => exact execDirtWindowEnd_keepsRanges amplitude level signal s
  | scanStart => exact lines.event (fun _ => .of_frame (by simp [ranged])) s
  | scanEnd reading => exact lines.event (scanEnd_keepsRanges reading) s
  | prechargeTimeout => exact lines.event (fun _ => .of_frame (by simp [ranged])) s
  | chargeTimeout => exact lines.event (fun _ => .of_frame (by simp [ranged])) s
  | balanceTimeout => exact lines.event (fun _ => .of_frame (by simp [ranged])) s
  | dockContactRise => exact execDockContactRise_keepsRanges s
  | dockLoss => exact execDockLoss_keepsRanges s
  | settleTimerExpiry => exact lines.event (fun _ => .ite _ fun _ => .of_frame (by simp [ranged])) s
  | dockFrameSent => exact lines.event (fun _ => .of_frame (by simp [ranged])) s
  | dockFrameReceived bytes => exact lines.event (fun t => .ite _ fun _ => dockFrameTaken_keepsRanges bytes t) s
  | dockFrameAbandon => exact lines.event (fun _ => .ite _ fun _ => abandonReception_keepsRanges _) s
  | dockReplyTimeout => exact lines.event replyTimeout_keepsRanges s
  | keepTimerExpiry => exact lines.event (fun _ => .ite _ fun _ => .of_frame (by simp [ranged])) s
  | dockRetryExpiry => exact lines.event (fun _ => .ite _ fun _ => .of_frame (by simp [ranged])) s
  | idleTimerExpiry => exact lines.event (fun _ => .ite _ fun _ => enterSleep_keepsRanges _) s
  | powerOn => exact ⟨_, rfl, powerReset_keepsRanges .powerOn s⟩
  | brownout => exact execBrownout_keepsRanges s
  | shipWake => exact execShipWake_keepsRanges s
  | triggerRawChange l => exact execTriggerRawChange_keepsRanges l s
  | contactVoltageFall => exact execContactVoltageFall_keepsRanges s
  | dockReceptionBegin => exact lines.event (fun _ => .ite _ fun _ => receptionBegun_keepsRanges _) s
  | seventhCellMeasured => exact execSeventhCellMeasured_keepsRanges s
  | catchCrossingTimeout => exact lines.event (fun t => .ite _ fun _ => catchRestarted_keepsRanges t) s

/-- Every step keeps them there (log 2, 7). -/
theorem step_keepsRanges (s : State) : Yields (step s) (KeepsRanges s) := by
  unfold step
  split
  · exact ⟨_, rfl, tick_keepsRanges s⟩
  · next c rest _ =>
    have taken : KeepsRanges s (s.setPending rest) := .of_frame rfl
    obtain ⟨t, answer, kept⟩ := exec_keepsRanges c (s.setPending rest)
    exact ⟨t, answer, taken.trans kept⟩

/-- Settles O60: what a step keeps of the motor's counts, the band table, the optical channel and the counters (4.1, 5.1,
R87, R158, R159). -/
theorem rangesKept : Obligations.RangesKept := by
  intro s
  obtain ⟨t, answer, kept⟩ := step_keepsRanges s
  exact ⟨fun motor table optical => ⟨t, answer, kept.motor motor, kept.table table, kept.optical optical⟩,
    fun counters => ⟨t, answer, kept.counters counters⟩⟩

end Sys2Proof.Proofs
